-- ==== Sys2Proof/Word.lean ====
section
/-! DEFINITION. The word types of the K360's interfaces: the bytes of the host link and of the radio
line, and the multi-byte fields that R204 names. Everything the manual treats as a quantity or a
named state is a `Nat`, an `Int` or an inductive type in the state, not a word. -/

namespace Sys2Proof

/-- One byte of the host link or of the radio line. -/
abbrev Byte := BitVec 8

/-- A u16 or s16 field (R204). -/
abbrev U16 := BitVec 16

/-- A u24 field (R204). -/
abbrev U24 := BitVec 24

/-- A reading of the free-running microsecond counter (section 2.6). Differences of two readings are
exact for intervals up to 4,294 s, which is 32 bits. -/
abbrev Micros := BitVec 32

end Sys2Proof
end

