-- ==== Sys2Proof/Machine/Bytes.lean ====
section
/-! DEFINITION. Field coding (R204), the sum check of the host frames (R195), the check value of the radio
frames (R162) and the mark coding of the transmitter (R158). -/

namespace Sys2Proof.Machine

/-! ### Field coding -/

/-- A u8 field. -/
def u8 (n : Nat) : List Byte := [BitVec.ofNat 8 n]

/-- A u16 field, high byte first (R204). -/
def u16 (n : Nat) : List Byte := [BitVec.ofNat 8 (n / 256), BitVec.ofNat 8 n]

/-- A u24 field, high byte first (R204). -/
def u24 (n : Nat) : List Byte :=
  [BitVec.ofNat 8 (n / 65536), BitVec.ofNat 8 (n / 256), BitVec.ofNat 8 n]

/-- An s16 field in two's complement, high byte first (R204). -/
def s16 (i : Int) : List Byte := u16 (BitVec.ofInt 16 i).toNat

/-- A single true or false item (R204). -/
def bool (b : Bool) : List Byte := u8 b.toNat

/-- The number whose bit i is the i-th item: the first item listed stands at bit 0 (R204). -/
def maskOf : List Bool → Nat
  | [] => 0
  | b :: bs => b.toNat + 2 * maskOf bs

/-- A field of two bytes on the wire. -/
def bytes16 (w : BitVec 16) : List Byte := [w.extractLsb' 8 8, w.extractLsb' 0 8]

/-- A field of three bytes on the wire. -/
def bytes24 (w : BitVec 24) : List Byte :=
  [w.extractLsb' 16 8, w.extractLsb' 8 8, w.extractLsb' 0 8]

/-- Two received bytes, high byte first. -/
def word16 (h l : Byte) : BitVec 16 := h ++ l

/-- Three received bytes, high byte first. -/
def word24 (h m l : Byte) : BitVec 24 := h ++ m ++ l

/-! ### Host frames -/

/-- The sum of the bytes modulo 256 (R195). -/
def byteSum (bytes : List Byte) : Byte := bytes.foldl (· + ·) 0

/-- The check byte that makes the sum of all bytes 0 modulo 256 (R195, R196). -/
def checkByte (bytes : List Byte) : Byte := -byteSum bytes

/-- A request frame: command byte, length byte, parameter bytes, check byte (R195). -/
def requestFrame (code : Byte) (params : List Byte) : List Byte :=
  let head := code :: BitVec.ofNat 8 params.length :: params
  head ++ [checkByte head]

/-! ### Radio frames -/

/-- One bit of the check value computation: shift left, compare the bit that leaves the top with the
data bit, and combine with 0x1021 when they differ (R162). -/
def crcBit (crc : BitVec 16) (bit : Bool) : BitVec 16 :=
  if crc.msb != bit then (crc <<< 1) ^^^ 0x1021#16 else crc <<< 1

/-- The eight bits of a byte, most significant first. -/
def bitsMsbFirst (b : Byte) : List Bool :=
  [b.getLsbD 7, b.getLsbD 6, b.getLsbD 5, b.getLsbD 4, b.getLsbD 3, b.getLsbD 2, b.getLsbD 1,
    b.getLsbD 0]

/-- The byte that eight bits spell, most significant first. -/
def byteOfBits (bits : List Bool) : Byte := bits.foldl BitVec.shiftConcat 0

/-- Bit k of a frame as it is shifted out: the bytes in order, each most significant bit first, then
0x00 (R193). -/
def frameBit (frame : List Byte) (k : Nat) : Bool := (frame.getD (k / 8) 0x00).getLsbD (7 - k % 8)

/-- One byte of the check value computation (R162). -/
def crcByte (crc : BitVec 16) (b : Byte) : BitVec 16 := (bitsMsbFirst b).foldl crcBit crc

/-- The check value over a run of bytes (R162). -/
def checkValue (bytes : List Byte) : BitVec 16 := bytes.foldl crcByte 0xFFFF#16

/-- The content bytes of a frame before its check value: destination, source, kind, body length and
body (R158, R206). -/
def frameHead (destination source kind : Byte) (body : List Byte) : List Byte :=
  destination :: source :: kind :: BitVec.ofNat 8 body.length :: body

/-- The content bytes of a frame, check value last and high byte first (R158, R206). -/
def frameContent (destination source kind : Byte) (body : List Byte) : List Byte :=
  frameHead destination source kind body
    ++ bytes16 (checkValue (frameHead destination source kind body))

/-- The mark byte (section 8.3). -/
def markByte : Byte := 0x9C

/-- The second byte of FRAME_START (R157). -/
def startByte : Byte := 0x11

/-- The second byte of FRAME_END (R157). -/
def endByte : Byte := 0x12

/-- A content byte on the line: the mark byte doubled, any other as itself (R158). -/
def markCode (b : Byte) : List Byte := if b = markByte then [markByte, markByte] else [b]

/-- The line bytes of a frame with the given content (R158). -/
def lineBytes (content : List Byte) : List Byte :=
  [markByte, startByte] ++ content.flatMap markCode ++ [markByte, endByte]

/-- Whether the parity of a byte matches: for even parity the data bits and the parity bit hold an
even number of ones, for odd parity an odd number, and with no parity there is nothing to match
(R155, R156). The code is that of parameter #2 (R11). -/
def parityOk (code : Nat) (value : Byte) (parityBit : Bool) : Bool :=
  let odd := (bitsMsbFirst value).foldl xor parityBit
  match code with
  | 0 => true
  | 1 => !odd
  | _ => odd

end Sys2Proof.Machine
end

