-- ==== Sys2Proof/Config.lean ====
section
/-! DEFINITION. What is fixed in the part: its sizes and constants, the parameter table of R208, the
gravity table of R88, and the free values. A free value is an opaque constant: nothing can be proved
of it but that it exists. -/

namespace Sys2Proof.Config

/-! ### Sizes and constants -/

/-- Positions run from 0 to 400,000 counts (5.2). -/
def maxPosition : Nat := 400000

/-- The greatest segment start (R1). -/
def maxSegmentStart : Nat := 399999

/-- The profile holds at most 96 segments (R1). -/
def maxSegments : Nat := 96

/-- Speeds and limits saturate at 1023 cm/s (5.4). -/
def maxSpeed : Nat := 1023

/-- Profile gradients are bounded to -500..+500 per mille (R6). -/
def maxGradient : Int := 500

/-- The restriction table has 32 slots (R41). -/
def slotCount : Nat := 32

/-- One count is 25 mm of travel (5.2). -/
def mmPerCount : Nat := 25

/-- The rollback count saturates at 65,535 (R37). -/
def maxRollback : Nat := 65535

/-- The minute timer's period in ms (R58). -/
def minutePeriod : Nat := 60000

/-- The ramp timer's period in ms (R123). -/
def rampPeriod : Nat := 100

/-- The loop agreement time in ms (R132). -/
def loopAgreementTime : Nat := 100

/-- The silence time in ms (R161). -/
def silenceTime : Nat := 100

/-- A frame buffer holds 64 content bytes (R161). -/
def bufferSize : Nat := 64

/-- A frame body holds at most 56 bytes (R162, R206). -/
def maxBody : Nat := 56

/-- The transmit queue holds at most 6 entries (R183). -/
def queueSize : Nat := 6

/-- The host mailbox holds at most 4 entries (R191). -/
def mailboxSize : Nat := 4

/-- A TABLE_REPORT lists at most 18 records (R67). -/
def reportEntries : Nat := 18

/-- The greatest length byte of a request frame (R195). -/
def maxRequestLength : Nat := 60

/-- The fixed filter of EMERG_IN, LOOP_SENSE and BAND_SENSE, 5 ms, in µs (R117). -/
def brakeFilterMicros : Nat := 5000

/-- The fixed filter of the door inputs, 20 ms, in µs (R137). -/
def doorFilterMicros : Nat := 20000

/-! ### The parameter table of R208 -/

/-- One row of the parameter table: the range and the default. The upper limit of #4 is the present car
length (R14); its row gives the default car length. -/
structure ParamRow where
  lo : Nat
  hi : Nat
  default : Nat
deriving DecidableEq, Repr

/-- The first half of the parameter table, #0 to #16 (R208). -/
def paramRowsLow : List ParamRow := [
  ⟨32, 95, 32⟩, ⟨0, 3, 1⟩, ⟨0, 2, 1⟩, ⟨200, 1000, 480⟩, ⟨0, 480, 0⟩, ⟨4, 400, 40⟩, ⟨0, 7, 3⟩,
  ⟨0, 3, 2⟩, ⟨200, 5000, 1000⟩, ⟨5, 200, 40⟩, ⟨2, 50, 10⟩, ⟨1, 25, 8⟩, ⟨0, 200, 20⟩,
  ⟨500, 6000, 2600⟩, ⟨100, 1000, 300⟩, ⟨0, 100, 50⟩, ⟨0, 2550, 800⟩]

/-- The second half of the parameter table, #17 to #33 (R208). -/
def paramRowsHigh : List ParamRow := [
  ⟨0, 50000, 5000⟩, ⟨4000, 80000, 40000⟩, ⟨0, 200, 30⟩, ⟨0, 200, 60⟩, ⟨0, 50, 10⟩,
  ⟨50, 500, 150⟩, ⟨10, 100, 20⟩, ⟨0, 300, 50⟩, ⟨0, 255, 60⟩, ⟨1, 100, 20⟩, ⟨200, 2000, 800⟩,
  ⟨500, 10000, 6000⟩, ⟨100, 2000, 1000⟩, ⟨0, 5, 3⟩, ⟨2, 60, 10⟩, ⟨0, 60, 0⟩, ⟨0, 1, 1⟩]

/-- The parameter table of R208, indices 0..33. -/
def paramRows : List ParamRow := paramRowsLow ++ paramRowsHigh

/-- The number of parameters (R11). -/
def paramCount : Nat := 34

/-- Every parameter at its default (R11). -/
def paramDefaults : List Nat := paramRows.map ParamRow.default

/-! ### Free values

DESIGN CHOICE: where the manual leaves an outcome open the model reads one of these constants. -/

/-- Whether the transmitter starts before a waiting mode change is made, at an event that leaves the
line quiet and makes both possible: "Either may be taken first" (R167). Applied to the state's
counter, so that each such event has a value of its own. Safe. Log entry 14. -/
opaque transmitterFirst : Nat → Bool

/-- Whether R86 is followed for UP when a STOP record is overrun and the car also reaches beyond the
line end, so that the STOP record is the governing target and the curves are computed for the
shortfall indication, or R81, with the line end and no curves: each names its own, and R96 names both.
Safe. Log entry 15. -/
opaque overrunGovernsLineEnd : Bool

/-- Whether CLOSED is judged before OBSTRUCT at a door that enters CLOSING with both true (R145,
R146). Safe. Log entry 16. -/
opaque closedBeforeObstruct : Bool

/-- What STATUS_READ reports as the merged demand while the unit is SAFE, where "there is no merged
demand in use" (R122). Applied to the state's counter. Safe. Log entry 17. -/
opaque mergedDemandWhileSafe : Nat → Byte

end Sys2Proof.Config
end

