-- ==== Sys2Proof/Syntax.lean ====
section
/-! DEFINITION. The commands of the K360: one constructor for each row of spec/opcode_table.json, in the
table's order, with the operands the row's rule gives it. The block has no processor, so a command
is a host request, a part of a host selection, a change of an input, a timer expiry, or a byte or a
frame on the radio line. -/

namespace Sys2Proof

/-- The two directions of travel (5.3). A direction that may be absent is an `Option Dir`. -/
inductive Dir where
  | up
  | down
deriving DecidableEq, Repr

/-- The four passenger doors (section 7.1). -/
inductive DoorId where
  | d0
  | d1
  | d2
  | d3
deriving DecidableEq, Repr

/-- The two sides of the car (section 7.1): LEFT has D0 and D1, RIGHT has D2 and D3. -/
inductive Side where
  | left
  | right
deriving DecidableEq, Repr

/-- The five inputs of one door unit (R137). -/
inductive DoorInput where
  | closed
  | locked
  | openEnd
  | obstruct
  | button
deriving DecidableEq, Repr

/-- The inputs whose raw changes are commands: four of the odometry unit (R19), three of the brake
output unit (R117), five for each door (R137), and, with no filter, SELECT, SCLK and SDI of the host
link (R193; log entry 5) and RESET (R202; log entry 30). The level of SELECT and RESET is whether the
line is asserted. -/
inductive InputId where
  | pinA
  | pinB
  | wheel
  | marker
  | emergIn
  | loopSense
  | bandSense
  | door (door : DoorId) (input : DoorInput)
  | select
  | sclk
  | sdi
  | reset
deriving DecidableEq, Repr

/-- The fields of an ISSUE body, which are also bytes 1 to 12 of the RECORD_ISSUE parameters (R206). -/
structure IssueBody where
  /-- Bytes 0..1, the record number. -/
  number : U16
  /-- Byte 2: bits 0..1 record kind, bits 2..3 direction, bit 4 passage. -/
  cls : Byte
  /-- Bytes 3..5. -/
  start : U24
  /-- Bytes 6..8. -/
  stop : U24
  /-- Bytes 9..10: the limit of a SPEED record, the sides code (byte 10) of a DOORS record. -/
  limitOrSides : U16
  /-- Byte 11, 0 for absent. -/
  lifetime : Byte
deriving DecidableEq, Repr

/-- Where a received byte comes from: the modem, with its parity and stop bits as found on the wire,
the loop of SELFTEST, which hands over the next line byte of the frame in flight (R156, R169), or SDI
of the host link, by the clocks of one byte (R193; log entry 5). -/
inductive ByteSource where
  | modem (value : Byte) (parityBit stopBit : Bool)
  | looped
  | sdi (value : Byte)
deriving DecidableEq, Repr

/-- The commands. Host requests carry the parameter bytes of R197 as fields of their own widths. -/
inductive Instr where
  | powerOnReset
  | profileWrite (index : Byte) (start : U24) (gradient limitUp limitDown : U16) (marker : Byte)
  | profileClose (lineEnd : U24)
  | profileClear
  | profileRead (index : Byte)
  | lockRaise
  | configWrite (index : Byte) (value : U24)
  | configRead (index : Byte)
  | positionSet (position : U24)
  | directionSelect (direction : Byte)
  | recordIssue (origin : Byte) (body : IssueBody)
  | recordRevoke (origin : Byte) (number : U16)
  | recordRead (slot : Byte)
  | recordFind (origin : Byte) (number : U16)
  | tableList
  | lossAck
  | doorRelease (side override : Byte)
  | doorOpen (side : Byte)
  | doorClose (side : Byte)
  | doorReset (door : Byte)
  | brakeDemand (level release : Byte)
  | emergencyAck
  | radioMode (mode : Byte)
  | radioSend (destination priority : Byte) (body : List Byte)
  | radioAbort (handle : Byte)
  | radioAbortAll
  | mailboxRead
  | mailboxRelease
  | statusRead (sect : Byte)
  | flagsReadClear (mask : U16)
  | flagsEnable (mask : U16)
  | softReset
  | frameError (bytes : List Byte) (wholeBytes : Bool)
  | responseReadout (clockedBytes : Nat)
  | protocolBytesIgnored
  | rawInputChange (input : InputId) (level : Bool) (now : Micros)
  | acceptedStep (pinA pinB : Bool) (now : Micros)
  | standstillTimerExpiry
  | wheelPulse (level : Bool)
  | markerPulse (level : Bool)
  | minuteTimerExpiry
  | evaluationTimerExpiry
  | emergInAsserted
  | emergInReleased
  | loopSenseChange (level : Bool)
  | bandSenseChange (level : Bool)
  | rampTimerExpiry
  | overlapTimerExpiry
  | bandApplyTimerExpiry
  | loopAgreementTimerExpiry
  | doorButtonPress (door : DoorId) (level : Bool)
  | doorObstruction (door : DoorId) (level : Bool)
  | doorOpenEnd (door : DoorId) (level : Bool)
  | doorClosedChange (door : DoorId) (level : Bool)
  | doorLockedChange (door : DoorId) (level : Bool)
  | doorMotionTimerExpiry (door : DoorId)
  | doorLockTimerExpiry (door : DoorId)
  | receivedByte (source : ByteSource)
  | silenceTimerExpiry
  | linkTimerExpiry
  | carrierChange (level : Bool)
  | modeChange
  | transmissionStart
  | endOfTransmission
  | waitingItemsPlaced
  | issue (destination source : Byte) (body : IssueBody)
  | revoke (destination source : Byte) (number : U16)
  | poll (destination source : Byte)
  | tableQuery (destination source : Byte)
  | text (destination source : Byte) (body : List Byte)
  | linkCheck (destination source : Byte)
  | frameNotUsed (destination source kind : Byte) (body : List Byte)
  | loopedFrame
  | reportTimerExpiry
  | requestSelectionFirstClock
deriving DecidableEq, Repr

end Sys2Proof
end

