-- ==== Sys2Proof/Machine/State.lean ====
section
/-! DEFINITION. The state of the K360 as plain data: one structure for each of its eight blocks
(00_scope.md, 3.1), the commands that wait, and the state right after power-on reset. Timers are held
as `none` (stopped) or `some d` (running, started with duration `d`), because R16 lets a running
timer run out "at the time it was started with". Log entries 1 and 23. -/

namespace Sys2Proof.Machine

/-! ### Inputs -/

/-- One filtered input: its raw level, its filtered level, and the filter time (µs) of the raw change
being timed, if one is (R19, R117, R137). -/
structure InputLine where
  raw : Bool
  level : Bool
  timing : Option Nat
deriving DecidableEq, Repr

/-- An input at rest at a level: raw and filtered agree and no filter runs. -/
def InputLine.steady (b : Bool) : InputLine := ⟨b, b, none⟩

/-! ### Host port (chapter 10) -/

/-- The states of the host port (R193). -/
inductive PortState where
  | idle
  | receiving
  | responseReady
  | readout
deriving DecidableEq, Repr

/-- The response status codes (R196). -/
inductive Status where
  | ok
  | okClamped
  | badValue
  | locked
  | moving
  | wrongState
  | wrongMode
  | notFound
  | full
  | kind
  | empty
  | queueFull
  | causePresent
  | brakeNotHeld
  | noRelease
  | unknownCommand
  | frameError
deriving DecidableEq, Repr

/-- A response: its status and its data bytes, laid out as R205 gives. -/
structure Response where
  status : Status
  data : List Byte
deriving DecidableEq, Repr

/-- The fifteen condition flags in bit order (R198). -/
inductive Flag where
  | supervision
  | shortfall
  | restrictionLost
  | tableChanged
  | link
  | radio
  | radioRxError
  | txDone
  | mailbox
  | doorEvent
  | brakeFault
  | odometryFault
  | markerMiss
  | offProfile
  | portProtocol
deriving DecidableEq, Repr

/-- The host port (R193, R194, R198). `closed`: another selection has begun before the deselection
that ends the request was taken, so the buffer takes no more bytes (R194). `selected`: SELECT is
asserted. `ignoring`: the rest of a selection that a reset cut is ignored until SELECT is deasserted
(R194). `sclk`, `sdi` and `sdo` are the levels of the three lines. `bits`: the bits of the byte in
progress, first bit first, that came on SDI in RECEIVING or went out on SDO in READOUT. `shifted` is
the model's own: the bytes that the last readout put on SDO (log entries 6 and 25). -/
structure Port where
  state : PortState
  request : List Byte
  closed : Bool
  response : Option Response
  shifted : List Byte
  bits : List Bool
  selected : Bool
  ignoring : Bool
  sclk : Bool
  sdi : Bool
  sdo : Bool
  flags : BitVec 15
  enables : BitVec 15
deriving DecidableEq, Repr

/-! ### Profile store (chapter 1) -/

/-- The profile states (R4). -/
inductive ProfileState where
  | empty
  | loading
  | valid
deriving DecidableEq, Repr

/-- The lock levels (R17). -/
inductive LockLevel where
  | levelOpen
  | profileLocked
  | configLocked
deriving DecidableEq, Repr

/-- A segment record (R1). -/
structure Segment where
  start : Nat
  gradient : Int
  limitUp : Nat
  limitDown : Nat
  marker : Bool
deriving DecidableEq, Repr

/-- The profile store with the configuration parameter set, #0 to #33 in order (R1, R3, R4, R11, R17).
-/
structure Profile where
  segments : List Segment
  lineEnd : Option Nat
  state : ProfileState
  lock : LockLevel
  params : List Nat
deriving DecidableEq, Repr

/-! ### Odometry unit (chapter 2) -/

/-- A capture history that is not empty (R26). -/
structure Capture where
  dir : Dir
  size : Nat
  count : Nat
  stamp : Micros
deriving DecidableEq, Repr

/-- The odometry unit (section 2.1). -/
structure Odometry where
  pinA : InputLine
  pinB : InputLine
  wheel : InputLine
  marker : InputLine
  position : Nat
  positionValid : Bool
  motion : Bool
  standstillTimer : Option Nat
  measured : Option Dir
  speed : Nat
  history : Option Capture
  timebase : Micros
  wheelTravel : Nat
  netCounts : Int
  lastCorrection : Int
  selected : Option Dir
  rollback : Nat
  pinionSensor : Bool
  pinionSlip : Bool
  rollbackLatch : Bool
deriving DecidableEq, Repr

/-! ### Restriction table (chapter 3) -/

/-- The issuer of a record (R42). -/
inductive Origin where
  | vehicle
  | station (n : Nat)
deriving DecidableEq, Repr

/-- The record kinds (R42). -/
inductive RecordKind where
  | speed
  | stop
  | doors
deriving DecidableEq, Repr

/-- The direction a record applies to (R42). -/
inductive RecordDir where
  | up
  | down
  | both
deriving DecidableEq, Repr

/-- The sides a DOORS record may release (R42). -/
inductive Sides where
  | left
  | right
  | both
deriving DecidableEq, Repr

/-- What a record imposes: the kind, with the field that only that kind has (R42). -/
inductive Imposes where
  | speed (limit : Nat)
  | stop
  | doors (sides : Sides)
deriving DecidableEq, Repr

/-- The kind of what is imposed. -/
def Imposes.kind : Imposes → RecordKind
  | .speed _ => .speed
  | .stop => .stop
  | .doors _ => .doors

/-- A live record (R42). Its slot is its place in `Table.slots`; `last` is the field the manual calls
end; an absent lifetime is `none`. -/
structure Record where
  imposes : Imposes
  origin : Origin
  number : Nat
  dir : RecordDir
  first : Nat
  last : Nat
  lifetime : Option Nat
  passage : Bool
  expiring : Bool
deriving DecidableEq, Repr

/-- The notice events (R62). -/
inductive NoticeEvent where
  | issued
  | amended
  | revoked
  | passed
  | expired
deriving DecidableEq, Repr

/-- The last notice but for its sequence number (R62). -/
structure Notice where
  event : NoticeEvent
  slot : Nat
  kind : RecordKind
  origin : Origin
  number : Nat
  replaced : Option Nat
deriving DecidableEq, Repr

/-- The restriction table and table engine (R41, R51, R58, R62). -/
structure Table where
  slots : List (Option Record)
  minuteTimer : Option Nat
  lossLatch : Bool
  notice : Notice
  noticeSeq : Nat
deriving DecidableEq, Repr

/-! ### Speed supervisor (chapters 4 and 5) -/

/-- The supervision states (R102). -/
inductive SupState where
  | normal
  | warning
  | intervention
  | emergency
deriving DecidableEq, Repr

/-- The emergency cause set, in bit order (R105, R204). -/
structure Causes where
  overspeed : Bool
  overrun : Bool
  rollback : Bool
  pinionSlip : Bool
  pinionSensor : Bool
  bandFault : Bool
  loopFault : Bool
  reset : Bool
  doorOpenMoving : Bool
  emergencyLine : Bool
deriving DecidableEq, Repr

/-- A supervisor brake demand (R112). -/
structure Demand where
  level : Nat
  loopOpen : Bool
  bandApplied : Bool
deriving DecidableEq, Repr

/-- Where a governing target comes from (R74). -/
inductive TargetSource where
  | boundary
  | speedRecord
  | stopRecord
  | lineEnd
deriving DecidableEq, Repr

/-- A governing target (R74). -/
structure Governing where
  source : TargetSource
  point : Nat
  dist : Nat
  speed : Nat
  slot : Option Nat
  overrun : Bool
deriving DecidableEq, Repr

/-- The speed supervisor (R74, section 5.1). -/
structure Supervisor where
  state : SupState
  causes : Causes
  excess : Int
  demand : Demand
  evalTimer : Option Nat
  emergIn : Bool
  doorsSecure : Bool
  permitted : Nat
  evalDir : Option Dir
  governing : Option Governing
  shortfall : Bool
  overrunFinding : Option Nat
deriving DecidableEq, Repr

/-! ### Brake output unit (chapter 6) -/

/-- The states of the brake output unit (R116). -/
inductive UnitState where
  | safe
  | armed
deriving DecidableEq, Repr

/-- The band state, a view of BAND and BAND_SENSE (R124). -/
inductive BandState where
  | released
  | applying
  | applied
deriving DecidableEq, Repr

/-- The brake output unit (section 6.1). `emergIn` holds the pin's level: low, `false`, is asserted
(R117). -/
structure Brake where
  unit : UnitState
  hostLevel : Nat
  hostRelease : Bool
  supState : SupState
  supDemand : Demand
  secure : Bool
  motion : Bool
  speed : Nat
  emergIn : InputLine
  loopSense : InputLine
  bandSense : InputLine
  loop : Bool
  band : Bool
  service : Nat
  ramp : Option Nat
  hold : Bool
  overlap : Option Nat
  floor : Nat
  bandTimer : Option Nat
  loopTimer : Option Nat
  bandFault : Bool
  loopFault : Bool
  lineHold : Bool
deriving DecidableEq, Repr

/-! ### Door controller (chapter 7) -/

/-- The door states (R138). -/
inductive DoorState where
  | locked
  | unlocked
  | opening
  | opened
  | closing
  | locking
  | held
  | fault
deriving DecidableEq, Repr

/-- One door with its five inputs (R137, R147, R148). -/
structure Door where
  state : DoorState
  closed : InputLine
  locked : InputLine
  openEnd : InputLine
  obstruct : InputLine
  button : InputLine
  reopen : Nat
  reclose : Bool
  motionTimer : Option Nat
  lockTimer : Option Nat
deriving DecidableEq, Repr

/-- The causes of a door fault (R151). -/
inductive DoorCause where
  | forced
  | openTime
  | closeTime
  | lockTime
deriving DecidableEq, Repr

/-- A door event: an override grant for a side, a door held by an obstruction, or a door fault with its
cause (R151). The override mark is set for the first kind only. -/
inductive DoorEvent where
  | override (side : Side)
  | held (door : DoorId)
  | fault (door : DoorId) (cause : DoorCause)
deriving DecidableEq, Repr

/-- The door controller (section 7.1). -/
structure Doors where
  d0 : Door
  d1 : Door
  d2 : Door
  d3 : Door
  leftReleased : Bool
  rightReleased : Bool
  motion : Bool
  lastEvent : DoorEvent
deriving DecidableEq, Repr

/-! ### Valley radio controller (chapters 8 and 9) -/

/-- The link modes (R166). -/
inductive LinkMode where
  | off
  | config
  | normal
  | listen
  | selftest
deriving DecidableEq, Repr

/-- The link status (R171). -/
inductive LinkStatus where
  | ok
  | lost
deriving DecidableEq, Repr

/-- The two frame buffers (R159). -/
inductive BufId where
  | buf0
  | buf1
deriving DecidableEq, Repr

/-- The states of a frame buffer (R159). -/
inductive BufState where
  | free
  | assembling
  | held
  | processing
deriving DecidableEq, Repr

/-- A frame buffer with its content bytes; the count is their number (R159). -/
structure FrameBuffer where
  state : BufState
  content : List Byte
deriving DecidableEq, Repr

/-- The receive error kinds (R165). -/
inductive RxError where
  | lineError
  | symbolError
  | oversize
  | short
  | long
  | checkError
  | receiveOverrun
  | silence
deriving DecidableEq, Repr

/-- A byte as the line carries it: its data bits and its parity bit, which stands when parity is even
or odd (R155). Its start bit and its stop bit are the same for every byte the part sends. -/
structure LineByte where
  data : Byte
  parity : Option Bool
deriving DecidableEq, Repr

/-- The frame in flight: the handle of its queue entry, its content bytes with the check value, as
fixed at the start (R173), and the line bytes not yet sent, in SELFTEST those not yet handed to the loop
(R155, R158, R169). -/
structure InFlight where
  handle : Nat
  content : List Byte
  line : List LineByte
deriving DecidableEq, Repr

/-- Who placed a queue entry (R183). -/
inductive QueueOrigin where
  | part
  | vehicle
deriving DecidableEq, Repr

/-- A transmit queue entry (R183). -/
structure QueueEntry where
  handle : Nat
  kind : Byte
  priority : Nat
  origin : QueueOrigin
  destination : Byte
  body : List Byte
  spontaneous : Bool
  started : Bool
deriving DecidableEq, Repr

/-- An answer frame formed by the processor and not yet in the queue (section 9.1). -/
structure Answer where
  kind : Byte
  destination : Byte
  body : List Byte
deriving DecidableEq, Repr

/-- A host mailbox entry (R191). The body length is the body's. -/
structure MailEntry where
  kind : Byte
  source : Byte
  addressed : Bool
  body : List Byte
deriving DecidableEq, Repr

/-- The results of a TX_DONE report (R190). -/
inductive TxResult where
  | sent
  | discarded
  | displaced
  | aborted
deriving DecidableEq, Repr

/-- The last transmit result (R190). -/
structure LastTx where
  handle : Nat
  result : TxResult
deriving DecidableEq, Repr

/-- The valley radio controller, line side and message side (sections 8.1, 9.1). The pending alarm is
held as the ALARM body it will send. -/
structure Radio where
  markLatch : Bool
  assembler : Option BufId
  silence : Option Nat
  buf0 : FrameBuffer
  buf1 : FrameBuffer
  lastError : Option RxError
  requested : LinkMode
  current : LinkMode
  link : LinkStatus
  linkTimer : Option Nat
  linkLost : Bool
  tx : Option InFlight
  key : Bool
  carrier : Bool
  busy : Bool
  waiting : Option Answer
  queue : List QueueEntry
  nextHandle : Nat
  pendingAlarm : Option (List Byte)
  reportTimer : Option Nat
  mailbox : List MailEntry
  lastTx : Option LastTx
  txSeq : Nat
deriving DecidableEq, Repr

/-! ### The whole part -/

/-- The state of the part: its blocks, whether RESET is asserted (R202), the model's counter of free
values, and the queue of the commands that wait, first in, first out. -/
structure State where
  port : Port
  profile : Profile
  odo : Odometry
  table : Table
  sup : Supervisor
  brake : Brake
  doors : Doors
  radio : Radio
  resetHeld : Bool
  free : Nat
  pending : List Instr
deriving DecidableEq, Repr

/-- Why a step could stop with a fault. The K360's faults are latches and causes that it keeps in its
state, and it goes on (R39, R131, R132, R148): no rule stops it, so there is no reason here. -/
inductive Fault where
deriving DecidableEq, Repr

/-- Why a step could refuse a command. -/
inductive Refusal where
  /-- Raised by an arm of `exec` whose command has no meaning yet; no arm raises it now. Safe. -/
  | notModelled (mnemonic : String)
deriving DecidableEq, Repr

/-! ### Right after power-on reset

DESIGN CHOICE (log entries 2, 25 and 30): the raw inputs at the first sample are those of a car that
stands with its doors closed and locked, its band applied, its safety loop open, its plunger released
and its sensors low; SELECT is deasserted, the other lines of the host link are low, and RESET is
released. -/

/-- The demand that goes with EMERGENCY (R112). -/
def Demand.emergency : Demand := ⟨100, true, true⟩

/-- The cause set after a reset with EMERG_IN asserted or not (R115). -/
def Causes.afterReset (line : Bool) : Causes :=
  ⟨false, false, false, false, false, false, false, true, false, line⟩

/-- A door that stands closed and locked (R154). -/
def Door.atRest : Door where
  state := .locked
  closed := .steady true
  locked := .steady true
  openEnd := .steady false
  obstruct := .steady false
  button := .steady false
  reopen := 0
  reclose := false
  motionTimer := none
  lockTimer := none

/-- The last notice after a reset (R62). -/
def Notice.initial : Notice := ⟨.issued, 0, .speed, .vehicle, 0, none⟩

/-- The empty restriction table (R73). -/
def Table.initial : Table where
  slots := List.replicate Config.slotCount none
  minuteTimer := none
  lossLatch := false
  notice := .initial
  noticeSeq := 0

/-- The state right after power-on reset (R202 and the reset rule of each chapter). -/
def State.reset : State where
  port := {
    state := .idle, request := [], closed := false, response := none, shifted := [], bits := []
    selected := false, ignoring := false, sclk := false, sdi := false, sdo := false
    flags := 0, enables := BitVec.allOnes 15 }
  profile := ⟨[], none, .empty, .levelOpen, Config.paramDefaults⟩
  odo := {
    pinA := .steady false, pinB := .steady false, wheel := .steady false, marker := .steady false
    position := 0, positionValid := false, motion := false, standstillTimer := none
    measured := none, speed := 0, history := none, timebase := 0, wheelTravel := 0, netCounts := 0
    lastCorrection := 0, selected := none, rollback := 0
    pinionSensor := false, pinionSlip := false, rollbackLatch := false }
  table := .initial
  sup := {
    state := .emergency, causes := .afterReset false, excess := 0, demand := .emergency
    evalTimer := some 20, emergIn := false, doorsSecure := true, permitted := 0, evalDir := none
    governing := none, shortfall := false, overrunFinding := none }
  brake := {
    unit := .safe, hostLevel := 100, hostRelease := false, supState := .emergency
    supDemand := .emergency, secure := true, motion := false, speed := 0
    emergIn := .steady true, loopSense := .steady false, bandSense := .steady true
    loop := false, band := false, service := 100, ramp := none, hold := false, overlap := none
    floor := 0, bandTimer := none, loopTimer := none, bandFault := false, loopFault := false
    lineHold := false }
  doors := ⟨.atRest, .atRest, .atRest, .atRest, false, false, false, .held .d0⟩
  radio := {
    markLatch := false, assembler := none, silence := none, buf0 := ⟨.free, []⟩
    buf1 := ⟨.free, []⟩, lastError := none, requested := .off, current := .off, link := .lost
    linkTimer := none, linkLost := false, tx := none, key := false, carrier := false
    busy := false, waiting := none, queue := [], nextHandle := 0, pendingAlarm := none
    reportTimer := none, mailbox := [], lastTx := none, txSeq := 0 }
  resetHeld := false
  free := 0
  pending := []

end Sys2Proof.Machine
end

