-- ==== Sys2Proof/Machine/Operands.lean ====
section
/-! DEFINITION. Operands: the codes of R204 and R206 read into the state's types and written back, the
reading of configuration parameters in the units their owners use, and the tables of R19, R88 and
R127. -/

namespace Sys2Proof.Machine

/-! ### Codes read -/

/-- DIRECTION_SELECT takes NONE 0, UP 1 and DOWN 2 (R36, R204); the outer option says whether the code
is one of them. -/
def directionOfCode (b : Byte) : Option (Option Dir) :=
  match b.toNat with
  | 0 => some none
  | 1 => some (some .up)
  | 2 => some (some .down)
  | _ => none

/-- An origin code: VEHICLE 0, STATION n as n, 1..15 (R204). -/
def originOfCode (b : Byte) : Option Origin :=
  if b.toNat = 0 then some .vehicle
  else if b.toNat ≤ 15 then some (.station b.toNat)
  else none

/-- A side code that must be LEFT or RIGHT (R140, R143, R204). -/
def sideOfCode (b : Byte) : Option Side :=
  match b.toNat with
  | 1 => some .left
  | 2 => some .right
  | _ => none

/-- The sides a DOOR_CLOSE names: LEFT, RIGHT or ALL (R145, R204). -/
def closeSidesOfCode (b : Byte) : Option (List Side) :=
  match b.toNat with
  | 1 => some [.left]
  | 2 => some [.right]
  | 3 => some [.left, .right]
  | _ => none

/-- The sides code of a DOORS issue (R45 check 6, R204, R207). -/
def sidesOfCode (b : Byte) : Option Sides :=
  match b.toNat with
  | 1 => some .left
  | 2 => some .right
  | 3 => some .both
  | _ => none

/-- A door number, 0..3 (R150). -/
def doorOfCode (b : Byte) : Option DoorId :=
  match b.toNat with
  | 0 => some .d0
  | 1 => some .d1
  | 2 => some .d2
  | 3 => some .d3
  | _ => none

/-- A yes or no code, 0 or 1 (R121, R140). -/
def yesNoOfCode (b : Byte) : Option Bool :=
  match b.toNat with
  | 0 => some false
  | 1 => some true
  | _ => none

/-- A link mode code (R166, R204). -/
def modeOfCode (b : Byte) : Option LinkMode :=
  match b.toNat with
  | 0 => some .off
  | 1 => some .config
  | 2 => some .normal
  | 3 => some .listen
  | 4 => some .selftest
  | _ => none

/-! ### The class byte of an issue (R206, R207) -/

/-- The direction bits of a class byte: UP 0, DOWN 1, BOTH 2; 3 fails check 3 of R45 (R207). -/
def recordDirOfClass (cls : Byte) : Option RecordDir :=
  match (cls.extractLsb' 2 2).toNat with
  | 0 => some .up
  | 1 => some .down
  | 2 => some .both
  | _ => none

/-- The passage bit of a class byte (R206). -/
def passageOfClass (cls : Byte) : Bool := cls.getLsbD 4

/-- What an issue imposes, from its record kind bits (SPEED 0, STOP 1, DOORS 2; 3 fails check 2 of R45),
with the limit bounded to 1023 (R46) and the sides of byte 10 (R45 check 6, R206). -/
def imposesOfIssue (b : IssueBody) : Option Imposes :=
  match (b.cls.extractLsb' 0 2).toNat with
  | 0 => some (.speed (min b.limitOrSides.toNat Config.maxSpeed))
  | 1 => some .stop
  | 2 => (sidesOfCode (b.limitOrSides.extractLsb' 0 8)).map .doors
  | _ => none

/-- Whether the limit of an issue was above 1023, so that the issue is marked clamped (R46). -/
def limitClamped (b : IssueBody) : Bool :=
  (b.cls.extractLsb' 0 2).toNat == 0 && decide (Config.maxSpeed < b.limitOrSides.toNat)

/-! ### Codes written (R204, R205; log entry 20 for those no table gives) -/

/-- A direction that may be absent: NONE 0, UP 1, DOWN 2 (R204). -/
def dirCode : Option Dir → Nat
  | none => 0
  | some .up => 1
  | some .down => 2

/-- The direction of a record: UP 1, DOWN 2, BOTH 3 (R204). -/
def recordDirCode : RecordDir → Nat
  | .up => 1
  | .down => 2
  | .both => 3

/-- A side: LEFT 1, RIGHT 2 (R204). -/
def sideCode : Side → Nat
  | .left => 1
  | .right => 2

/-- The sides of a record (R204). -/
def sidesCode : Sides → Nat
  | .left => 1
  | .right => 2
  | .both => 3

/-- An origin (R204). -/
def originCode : Origin → Nat
  | .vehicle => 0
  | .station n => n

/-- A record kind (R204). -/
def kindCode : RecordKind → Nat
  | .speed => 0
  | .stop => 1
  | .doors => 2

/-- A supervision state (R204). -/
def supCode : SupState → Nat
  | .normal => 0
  | .warning => 1
  | .intervention => 2
  | .emergency => 3

/-- A link mode (R204). -/
def modeCode : LinkMode → Nat
  | .off => 0
  | .config => 1
  | .normal => 2
  | .listen => 3
  | .selftest => 4

/-- The governing source of a target (R204). -/
def sourceCode : TargetSource → Nat
  | .boundary => 1
  | .speedRecord => 2
  | .stopRecord => 3
  | .lineEnd => 4

/-- A door state (R204). -/
def doorStateCode : DoorState → Nat
  | .locked => 0
  | .unlocked => 1
  | .opening => 2
  | .opened => 3
  | .closing => 4
  | .locking => 5
  | .held => 6
  | .fault => 7

/-- A profile state, by its place in R4 (R204). -/
def profileStateCode : ProfileState → Nat
  | .empty => 0
  | .loading => 1
  | .valid => 2

/-- A lock level, by its place in R17 (R204). -/
def lockCode : LockLevel → Nat
  | .levelOpen => 0
  | .profileLocked => 1
  | .configLocked => 2

/-- A unit state, by its place in R116 (R204). -/
def unitCode : UnitState → Nat
  | .safe => 0
  | .armed => 1

/-- A band state: released 0, applying 1, applied 2 (R204). -/
def bandCode : BandState → Nat
  | .released => 0
  | .applying => 1
  | .applied => 2

/-- A link status, by its place in R171 (R204). -/
def linkCode : LinkStatus → Nat
  | .ok => 0
  | .lost => 1

/-- A buffer state, by its place in R159 (R204). -/
def bufCode : BufState → Nat
  | .free => 0
  | .assembling => 1
  | .held => 2
  | .processing => 3

/-- A receive error, NONE first and then the kinds in the order of R165 (log entry 20). -/
def rxErrorCode : Option RxError → Nat
  | none => 0
  | some .lineError => 1
  | some .symbolError => 2
  | some .oversize => 3
  | some .short => 4
  | some .long => 5
  | some .checkError => 6
  | some .receiveOverrun => 7
  | some .silence => 8

/-- A queue entry's origin, by its place in R183: PART 0, VEHICLE 1 (log entry 20). -/
def queueOriginCode : QueueOrigin → Nat
  | .part => 0
  | .vehicle => 1

/-- A transmit result, by its place in R190 (log entry 20). -/
def txResultCode : TxResult → Nat
  | .sent => 0
  | .discarded => 1
  | .displaced => 2
  | .aborted => 3

/-- A notice event (R205). -/
def noticeCode : NoticeEvent → Nat
  | .issued => 0
  | .amended => 1
  | .revoked => 2
  | .passed => 3
  | .expired => 4

/-- A door fault cause, by its place in R151 (log entry 20). -/
def doorCauseCode : DoorCause → Nat
  | .forced => 0
  | .openTime => 1
  | .closeTime => 2
  | .lockTime => 3

/-- A door's number. -/
def doorCode : DoorId → Nat
  | .d0 => 0
  | .d1 => 1
  | .d2 => 2
  | .d3 => 3

/-- A status code (R196). -/
def statusCode : Status → Byte
  | .ok => 0x00
  | .okClamped => 0x01
  | .badValue => 0x10
  | .locked => 0x11
  | .moving => 0x12
  | .wrongState => 0x13
  | .wrongMode => 0x14
  | .notFound => 0x15
  | .full => 0x16
  | .kind => 0x17
  | .empty => 0x18
  | .queueFull => 0x19
  | .causePresent => 0x1A
  | .brakeNotHeld => 0x1B
  | .noRelease => 0x1C
  | .unknownCommand => 0x1E
  | .frameError => 0x1F

/-- The response frame: status, length, data and check byte (R196). -/
def Response.frame (r : Response) : List Byte :=
  let head := statusCode r.status :: BitVec.ofNat 8 r.data.length :: r.data
  head ++ [checkByte head]

/-- The cause set as a number, bits 0 to 9 (R204). -/
def Causes.bits (c : Causes) : Nat :=
  maskOf [c.overspeed, c.overrun, c.rollback, c.pinionSlip, c.pinionSensor, c.bandFault,
    c.loopFault, c.reset, c.doorOpenMoving, c.emergencyLine]

/-! ### Frame kinds (R206) -/

def kindIssue : Byte := 0x01
def kindRevoke : Byte := 0x02
def kindPoll : Byte := 0x03
def kindTableQuery : Byte := 0x04
def kindText : Byte := 0x05
def kindLinkCheck : Byte := 0x06
def kindAnswer : Byte := 0x41
def kindPositionReport : Byte := 0x42
def kindTableReport : Byte := 0x43
def kindAlarm : Byte := 0x44

/-- The body of an ISSUE frame (R206). -/
def issueBytes (b : IssueBody) : List Byte :=
  bytes16 b.number ++ [b.cls] ++ bytes24 b.start ++ bytes24 b.stop ++ bytes16 b.limitOrSides
    ++ [b.lifetime]

/-- An ISSUE body of twelve bytes read into its fields (R206); none for another length. -/
def issueOfBytes : List Byte → Option IssueBody
  | [n1, n0, cls, s2, s1, s0, e2, e1, e0, l1, l0, life] =>
    some ⟨word16 n1 n0, cls, word24 s2 s1 s0, word24 e2 e1 e0, word16 l1 l0, life⟩
  | _ => none

/-! ### Tables -/

/-- The filter times of the pinion filter code, in µs (R19). -/
def pinionFilterMicros : Nat → Nat
  | 0 => 0
  | 1 => 2
  | 2 => 5
  | 3 => 10
  | 4 => 20
  | 5 => 50
  | 6 => 100
  | _ => 200

/-- The edges of one speed capture, from the code of parameter #7 (R11, section 2.6). -/
def captureGroup : Nat → Nat
  | 0 => 1
  | 1 => 2
  | 2 => 4
  | _ => 8

/-- The overlap time in ms, from the handover overlap code (R127). -/
def overlapTime (code : Nat) : Nat :=
  if code < 100 then code * 20
  else if code < 180 then 2000 + (code - 100) * 50
  else 6000 + (code - 180) * 100

/-- The gravity table T[0..10] in mm/s² (R88). -/
def gravityTable : List Nat :=
  [0, 490, 976, 1455, 1923, 2379, 2818, 3240, 3642, 4024, 4386]

/-! ### Configuration parameters by index (R208) -/

/-- The present value of parameter #i. -/
def State.param (s : State) (i : Nat) : Nat := s.profile.params.getD i 0

/-- #0 car address (R155). -/
def State.carAddress (s : State) : Byte := BitVec.ofNat 8 (s.param 0)

/-- #3 car length L in counts. -/
def State.carLength (s : State) : Nat := s.param 3

/-- #7 capture group N, in edges (R11). -/
def State.captureSize (s : State) : Nat := captureGroup (s.param 7)

/-! ### Bytes on the radio line (R155) -/

/-- The parity bit of a sent byte by parameter #2: none at code 0; the bit that makes the number of
ones in the data bits and the parity bit even at code 1, and odd otherwise (R155). -/
def parityBit (code : Nat) (b : Byte) : Option Bool :=
  let odd := (bitsMsbFirst b).foldl xor false
  match code with
  | 0 => none
  | 1 => some odd
  | _ => some (!odd)

/-- A byte in the form in which the line sends it under a parity code (R155). -/
def lineByte (code : Nat) (b : Byte) : LineByte := ⟨b, parityBit code b⟩

/-- The bits of a line byte in the order sent: the start bit, the data bits least significant first, the
parity bit if there is one, and the stop bit; 10 or 11 bit times (R155). -/
def LineByte.bits (x : LineByte) : List Bool :=
  [false] ++ (bitsMsbFirst x.data).reverse ++ x.parity.toList ++ [true]

/-- A received byte is in error when its stop bit is low or its parity does not match (R156). -/
def byteInError (code : Nat) (value : Byte) (parityBit stopBit : Bool) : Bool :=
  !stopBit || !parityOk code value parityBit

/-! ### Relations of directions -/

/-- A record applies to a direction when its direction is that one or BOTH (R43). -/
def RecordDir.appliesTo : RecordDir → Dir → Bool
  | .both, _ => true
  | .up, .up => true
  | .down, .down => true
  | _, _ => false

/-- A record's sides include a side (R140). -/
def Sides.includes : Sides → Side → Bool
  | .both, _ => true
  | .left, .left => true
  | .right, .right => true
  | _, _ => false

/-- A record overlaps the car: position ≤ end and position + L ≥ start (R43). -/
def Record.overlapsCar (r : Record) (position length : Nat) : Bool :=
  decide (position ≤ r.last) && decide (r.first ≤ position + length)

end Sys2Proof.Machine
end

