-- ==== Sys2Proof/Decode.lean ====
section
/-! DEFINITION. What spells a command. No row of spec/opcode_table.json gives bits, so no word spells one;
a host request is spelt by its request frame, whose codes, lengths and parameter layouts R195 and R197
give. -/

namespace Sys2Proof

open Machine

/-- The command that a word spells by the table's bits: no row gives bits, so none. -/
def decodeTableWord (_nbits _w : Nat) : Option Instr := none

/-! ### Request frames (R195, R197) -/

/-- Why the port takes no command from a request frame (R195). -/
inductive RequestFault where
  | frameError
  | unknownCommand
  | badValue
deriving DecidableEq, Repr

/-- The command codes of R197. -/
def commandCodes : List Nat :=
  [0x10, 0x11, 0x12, 0x13, 0x14, 0x18, 0x19, 0x20, 0x21, 0x28, 0x29, 0x2A, 0x2B, 0x2C, 0x2D, 0x30,
    0x31, 0x32, 0x33, 0x38, 0x39, 0x40, 0x41, 0x42, 0x43, 0x44, 0x45, 0x50, 0x51, 0x52, 0x53]

/-- The parameters of a code read into its command; none when their length is not the one R197 gives
(check 5 of R195). -/
def parseParams : Nat → List Byte → Option Instr
  | 0x10, [i, s2, s1, s0, g1, g0, u1, u0, d1, d0, m] =>
    some (.profileWrite i (word24 s2 s1 s0) (word16 g1 g0) (word16 u1 u0) (word16 d1 d0) m)
  | 0x11, [e2, e1, e0] => some (.profileClose (word24 e2 e1 e0))
  | 0x12, [] => some .profileClear
  | 0x13, [i] => some (.profileRead i)
  | 0x14, [] => some .lockRaise
  | 0x18, [i, v2, v1, v0] => some (.configWrite i (word24 v2 v1 v0))
  | 0x19, [i] => some (.configRead i)
  | 0x20, [p2, p1, p0] => some (.positionSet (word24 p2 p1 p0))
  | 0x21, [d] => some (.directionSelect d)
  | 0x28, o :: body => (issueOfBytes body).map (.recordIssue o)
  | 0x29, [o, n1, n0] => some (.recordRevoke o (word16 n1 n0))
  | 0x2A, [i] => some (.recordRead i)
  | 0x2B, [o, n1, n0] => some (.recordFind o (word16 n1 n0))
  | 0x2C, [] => some .tableList
  | 0x2D, [] => some .lossAck
  | 0x30, [d, o] => some (.doorRelease d o)
  | 0x31, [d] => some (.doorOpen d)
  | 0x32, [d] => some (.doorClose d)
  | 0x33, [d] => some (.doorReset d)
  | 0x38, [l, r] => some (.brakeDemand l r)
  | 0x39, [] => some .emergencyAck
  | 0x40, [m] => some (.radioMode m)
  | 0x41, d :: p :: body => if body.length ≤ Config.maxBody then some (.radioSend d p body) else none
  | 0x42, [h] => some (.radioAbort h)
  | 0x43, [] => some .radioAbortAll
  | 0x44, [] => some .mailboxRead
  | 0x45, [] => some .mailboxRelease
  | 0x50, [x] => some (.statusRead x)
  | 0x51, [m1, m0] => some (.flagsReadClear (word16 m1 m0))
  | 0x52, [m1, m0] => some (.flagsEnable (word16 m1 m0))
  | 0x53, [] => some .softReset
  | _, _ => none

/-- A request frame read by the port: the five checks of R195 in order, then the command. -/
def decodeRequest (bytes : List Byte) (wholeBytes : Bool) : Except RequestFault Instr :=
  let code := (bytes.getD 0 0).toNat
  let len := (bytes.getD 1 0).toNat
  if !wholeBytes || decide (bytes.length < 3) then .error .frameError
  else if Config.maxRequestLength < len ∨ bytes.length ≠ len + 3 then .error .frameError
  else if byteSum bytes ≠ 0 then .error .frameError
  else if code ∉ commandCodes then .error .unknownCommand
  else
    match parseParams code ((bytes.drop 2).take len) with
    | some i => .ok i
    | none => .error .badValue

/-- The code and the parameter bytes of a host request (R197); none for a command that is no host
request. -/
def requestParams : Instr → Option (Byte × List Byte)
  | .profileWrite i st g u d m =>
    some (0x10, [i] ++ bytes24 st ++ bytes16 g ++ bytes16 u ++ bytes16 d ++ [m])
  | .profileClose e => some (0x11, bytes24 e)
  | .profileClear => some (0x12, [])
  | .profileRead i => some (0x13, [i])
  | .lockRaise => some (0x14, [])
  | .configWrite i v => some (0x18, [i] ++ bytes24 v)
  | .configRead i => some (0x19, [i])
  | .positionSet p => some (0x20, bytes24 p)
  | .directionSelect d => some (0x21, [d])
  | .recordIssue o b => some (0x28, o :: issueBytes b)
  | .recordRevoke o n => some (0x29, [o] ++ bytes16 n)
  | .recordRead i => some (0x2A, [i])
  | .recordFind o n => some (0x2B, [o] ++ bytes16 n)
  | .tableList => some (0x2C, [])
  | .lossAck => some (0x2D, [])
  | .doorRelease d o => some (0x30, [d, o])
  | .doorOpen d => some (0x31, [d])
  | .doorClose d => some (0x32, [d])
  | .doorReset d => some (0x33, [d])
  | .brakeDemand l r => some (0x38, [l, r])
  | .emergencyAck => some (0x39, [])
  | .radioMode m => some (0x40, [m])
  | .radioSend d p body => some (0x41, d :: p :: body)
  | .radioAbort h => some (0x42, [h])
  | .radioAbortAll => some (0x43, [])
  | .mailboxRead => some (0x44, [])
  | .mailboxRelease => some (0x45, [])
  | .statusRead x => some (0x50, [x])
  | .flagsReadClear m => some (0x51, bytes16 m)
  | .flagsEnable m => some (0x52, bytes16 m)
  | .softReset => some (0x53, [])
  | .powerOnReset => none
  | .frameError _ _ => none
  | .responseReadout _ => none
  | .protocolBytesIgnored => none
  | .rawInputChange _ _ _ => none
  | .acceptedStep _ _ _ => none
  | .standstillTimerExpiry => none
  | .wheelPulse _ => none
  | .markerPulse _ => none
  | .minuteTimerExpiry => none
  | .evaluationTimerExpiry => none
  | .emergInAsserted => none
  | .emergInReleased => none
  | .loopSenseChange _ => none
  | .bandSenseChange _ => none
  | .rampTimerExpiry => none
  | .overlapTimerExpiry => none
  | .bandApplyTimerExpiry => none
  | .loopAgreementTimerExpiry => none
  | .doorButtonPress _ _ => none
  | .doorObstruction _ _ => none
  | .doorOpenEnd _ _ => none
  | .doorClosedChange _ _ => none
  | .doorLockedChange _ _ => none
  | .doorMotionTimerExpiry _ => none
  | .doorLockTimerExpiry _ => none
  | .receivedByte _ => none
  | .silenceTimerExpiry => none
  | .linkTimerExpiry => none
  | .carrierChange _ => none
  | .modeChange => none
  | .transmissionStart => none
  | .endOfTransmission => none
  | .waitingItemsPlaced => none
  | .issue _ _ _ => none
  | .revoke _ _ _ => none
  | .poll _ _ => none
  | .tableQuery _ _ => none
  | .text _ _ _ => none
  | .linkCheck _ _ => none
  | .frameNotUsed _ _ _ _ => none
  | .loopedFrame => none
  | .reportTimerExpiry => none
  | .requestSelectionFirstClock => none

/-- The request frame of a host request (R195, R197). -/
def encodeRequest (i : Instr) : Option (List Byte) :=
  (requestParams i).map fun x => requestFrame x.1 x.2

end Sys2Proof
end

