-- ==== Sys2Proof/Machine/Flags.lean ====
section
/-! DEFINITION. The condition flags, the enable mask, ATTENTION and READY (R193, R198 to R200). -/

namespace Sys2Proof.Machine

/-- A flag's bit position in every mask (R198). -/
def Flag.bit : Flag → Nat
  | .supervision => 0
  | .shortfall => 1
  | .restrictionLost => 2
  | .tableChanged => 3
  | .link => 4
  | .radio => 5
  | .radioRxError => 6
  | .txDone => 7
  | .mailbox => 8
  | .doorEvent => 9
  | .brakeFault => 10
  | .odometryFault => 11
  | .markerMiss => 12
  | .offProfile => 13
  | .portProtocol => 14

/-- The flag word with one flag set: a flag set again while set stays set (R198). -/
def setBit (flags : BitVec 15) (f : Flag) : BitVec 15 := flags ||| BitVec.twoPow 15 f.bit

/-- Whether a flag is set in a flag word. -/
def hasFlag (flags : BitVec 15) (f : Flag) : Bool := flags.getLsbD f.bit

/-- A received mask: bit 15 is ignored (R198). -/
def maskOfWord (mask : U16) : BitVec 15 := mask.truncate 15

/-- Flags as sent: bit 15 is 0 (R198). -/
def wordOfFlags (flags : BitVec 15) : U16 := flags.zeroExtend 16

/-- The flags left after the ones named in a mask are cleared (R199). -/
def clearFlags (flags mask : BitVec 15) : BitVec 15 := flags &&& ~~~mask

/-- A block hands the setting of a flag to the port (R198). -/
def State.setFlag (f : Flag) (s : State) : State :=
  { s with port := { s.port with flags := setBit s.port.flags f } }

/-- Set a flag when a condition holds. -/
def State.setFlagIf (c : Bool) (f : Flag) (s : State) : State := if c then s.setFlag f else s

/-- ATTENTION is asserted while at least one enabled flag is set (R198). -/
def State.attention (s : State) : Bool := decide (s.port.flags &&& s.port.enables ≠ 0)

/-- READY is high in RECEIVING and low in the other port states (R193). -/
def State.readyHigh (s : State) : Bool := s.port.state == .receiving

end Sys2Proof.Machine
end

