-- ==== Sys2Proof/Machine/Ops.lean ====
section
/-! DEFINITION. Operations that several blocks share: the filtered inputs, and the host link: the
readout, the taking of a request frame and its response. -/

namespace Sys2Proof.Machine

/-- What a command answers. -/
abbrev Result := Host.Outcome State Fault Refusal

/-! ### Filtered inputs (R19, R117, R137) -/

/-- A raw change of an input: it begins the timing of the filter when the raw level now differs from the
filtered one, and cancels it when the raw level is back there. A level the raw input already has is no
change. -/
def InputLine.rawChange (filterMicros : Nat) (level : Bool) (i : InputLine) : InputLine :=
  if level == i.raw then i
  else { i with raw := level, timing := if level == i.level then none else some filterMicros }

/-- The accepted change of an input: the raw input has held the level for the filter time, so the
filtered level takes it and the timing ends. Log entry 8. -/
def InputLine.accept (level : Bool) (_ : InputLine) : InputLine := .steady level

/-- An input at power-on reset: the filtered level is taken from the raw input, and no filter runs. -/
def InputLine.powerOn (i : InputLine) : InputLine := .steady i.raw

/-! ### The RESET pin (R202) -/

/-- While RESET is asserted every block stands at its power-on values, so a command then acts on the
wires that it carries and on nothing else: `held` is the state with those wires changed. DEDUCED
(log entry 32). -/
def State.unlessReset (s held : State) (r : Result) : Result := if s.resetHeld then .next held else r

/-! ### The host link: selections (R193, R194) -/

/-- Apply an operation to the host port. -/
def State.onPort (f : Port → Port) (s : State) : State := { s with port := f s.port }

/-- The n bytes that a readout puts on SDO after k others: the response frame in order, then 0x00
(R193). -/
def readoutBytes (frame : List Byte) (k n : Nat) : List Byte :=
  (List.range n).map fun i => frame.getD (k + i) 0x00

/-- A request selection's first SCLK edge: RECEIVING, with the byte count at 0 (R193). -/
def Port.beginRequest (p : Port) : Port :=
  { p with state := .receiving, request := [], bits := [], closed := false, selected := true }

/-- The bit that stands on SDO when k bits of the held response have gone out (R193). -/
def Port.sdoBit (k : Nat) (p : Port) : Bool :=
  match p.response with
  | some r => frameBit r.frame k
  | none => p.sdo

/-- SELECT is asserted: in IDLE a request selection begins, with a response held a readout selection,
whose first bit stands on SDO before the first rising edge; within RECEIVING the request's selection
has ended, and its buffer takes no more bytes (R193, R194; log entry 25). -/
def Port.select (p : Port) : Port :=
  match p.state with
  | .idle => { p with selected := true }
  | .receiving => { p with closed := true }
  | .responseReady =>
    { p with state := .readout, selected := true, shifted := [], bits := [], sdo := p.sdoBit 0 }
  | .readout => p

/-- The end of a selection that the port ignores (R194). -/
def Port.endIgnored (p : Port) : Port := { p with selected := false, ignoring := false }

/-- SELECT is deasserted where no request ends: a readout's response is discarded and the port is
IDLE, and the rest of a selection cut by a reset ends. The deselection that ends a request is the
taking of the request, which is no operation of the port alone (R193, R194). -/
def Port.deselect (p : Port) : Port :=
  match p.state with
  | .idle => p.endIgnored
  | .receiving => p
  | .responseReady => { p with selected := false }
  | .readout =>
    { p with state := .idle, request := [], response := none, bits := [], selected := false }

/-- The clocks of n bytes in READOUT to the end of the last of them: the next n bytes have gone out on
SDO. With SCLK low at rest the last falling edge has put the bit after them there, with SCLK high
their last bit stands (R193). -/
def Port.shiftOut (n : Nat) (p : Port) : Port :=
  match p.state, p.response with
  | .readout, some r =>
    if n = 0 then p
    else { p with
      shifted := p.shifted ++ readoutBytes r.frame p.shifted.length n, bits := []
      sdo := frameBit r.frame (8 * (p.shifted.length + n) - p.sclk.toNat) }
  | _, _ => p

/-- A selection of n bytes to its end, where the port takes no request: with a response held it is a
readout (R193). -/
def Port.endSelection (n : Nat) (p : Port) : Port :=
  ((if p.state = .responseReady then p.select else p).shiftOut n).deselect

/-! ### The host link: SCLK, SDI and SDO (R193, R194) -/

/-- A bit of the request is sampled on SDI; the eighth completes the byte, most significant bit first,
and the byte is appended to the request buffer (R193). -/
def Port.takeBit (p : Port) : Port :=
  let bits := p.bits ++ [p.sdi]
  if bits.length = 8 then { p with request := p.request ++ [byteOfBits bits], bits := [] }
  else { p with bits := bits }

/-- A bit of the response is sampled on SDO, where SDI is ignored; the eighth completes the byte (R193).
-/
def Port.giveBit (p : Port) : Port :=
  let bits := p.bits ++ [p.sdo]
  if bits.length = 8 then { p with shifted := p.shifted ++ [byteOfBits bits], bits := [] }
  else { p with bits := bits }

/-- Data is sampled on a rising edge of SCLK: SDI's bit belongs to the request, and within RECEIVING
after the request's selection it is ignored with PORT_PROTOCOL; SDO's bit belongs to the response. The
edge that begins a request is its first. Edges while SELECT is deasserted, and in the rest of a
selection that a reset cut, are ignored (R193, R194). -/
def Port.sample (p : Port) : Port :=
  if p.selected then
    match p.state with
    | .idle => if p.ignoring then p else p.beginRequest.takeBit
    | .receiving =>
      if p.closed then { p with flags := setBit p.flags .portProtocol } else p.takeBit
    | .responseReady => p
    | .readout => p.giveBit
  else p

/-- Data is changed on a falling edge of SCLK: in READOUT the next bit of the response goes to SDO, and
in IDLE the edge may be the first of a request selection (R193, R194). -/
def Port.change (p : Port) : Port :=
  if p.selected then
    match p.state with
    | .idle => if p.ignoring then p else p.beginRequest
    | .receiving => p
    | .responseReady => p
    | .readout => { p with sdo := p.sdoBit (8 * p.shifted.length + p.bits.length) }
  else p

/-- SCLK takes a level; the level it has is no edge (R193). -/
def Port.clock (level : Bool) (p : Port) : Port :=
  if level = p.sclk then p
  else if level then { p with sclk := level }.sample
  else { p with sclk := level }.change

/-- One clock with a bit on SDI: the two edges of SCLK, which comes back to the level it had. -/
def Port.cycle (p : Port) (bit : Bool) : Port :=
  let p := { p with sdi := bit }
  (p.clock (!p.sclk)).clock p.sclk

/-- The clocks of one byte on the host link, most significant bit first on SDI and on SDO (R193). -/
def Port.takeByte (value : Byte) (p : Port) : Port := (bitsMsbFirst value).foldl Port.cycle p

/-! ### Host requests (R193 to R196) -/

/-- The bits of the request that have come on SDI. -/
def Port.heard (p : Port) : List Bool := p.request.flatMap bitsMsbFirst ++ p.bits

/-- The port takes these bytes at the selection's end, with no broken byte after them (`whole`) or with
one: the selection begins as a request selection in IDLE, or it continues what the RECEIVING port has
heard; where the buffer takes no more, the bytes are just those that it has (R193, R194). -/
abbrev Port.Takes (frame : List Byte) (whole : Bool) (p : Port) : Prop :=
  (p.state = .idle ∧ p.ignoring = false)
    ∨ (p.state = .receiving ∧ p.closed = false ∧ (p.heard <+: frame.flatMap bitsMsbFirst
        ∨ (whole = false ∧ p.request = frame)))
    ∨ (p.state = .receiving ∧ p.closed = true ∧ p.request = frame ∧ whole = p.bits.isEmpty)

/-- The taking of a request frame at its deselection: the port holds the response and is
RESPONSE_READY, with READY low (R193). Log entry 6. -/
def State.respond (frame : List Byte) (r : Response) (s : State) : State :=
  s.onPort fun p => { p with
    state := .responseReady, request := frame, bits := [], closed := false, response := some r
    selected := false }

/-- A selection that carries a frame to its end: where the port takes the frame, what taking it does;
otherwise the selection is a readout of as many bytes, or the rest of one that a reset cut (R193,
R194). A RECEIVING port whose bytes are another frame's stays as it is (log entry 5), and while RESET
is asserted the selection is ignored to its end (R202). -/
def takeSelection (frame : List Byte) (whole : Bool) (s : State) (taken : Result) : Result :=
  s.unlessReset (s.onPort Port.endIgnored) <|
    if s.port.Takes frame whole then taken
    else .next (s.onPort (Port.endSelection frame.length))

/-- A host request: the selection that carries its frame (R195, R197). -/
def hostRequest (code : Byte) (params : List Byte) (s : State) (taken : Result) : Result :=
  takeSelection (requestFrame code params) true s taken

/-- A host command's outcome: the command's effect, then the response to its request frame. -/
def answer (code : Byte) (params : List Byte) (status : Status) (data : List Byte) (s : State) :
    Result :=
  .next (s.respond (requestFrame code params) ⟨status, data⟩)

end Sys2Proof.Machine
end

