-- ==== Sys2Proof/Machine/BrakeOps.lean ====
section
/-! DEFINITION. The brake output unit's shared operations (chapter 6): the forming of LOOP, BAND and SERVICE,
the two feedback supervisions, and the handings from the other blocks. The operations act on the
unit alone; the durations and rates they read are arguments. -/

namespace Sys2Proof.Machine

/-- EMERG_IN is asserted while its filtered level is low (R117). -/
def Brake.emergAsserted (b : Brake) : Bool := !b.emergIn.level

/-- The band state (R124). -/
def Brake.bandState (b : Brake) : BandState :=
  if b.band then .released else if b.bandSense.level then .applied else .applying

/-- The host term of the merged demand: 0 while the handover hold is set (R122). -/
def Brake.hostTerm (b : Brake) : Nat := if b.hold then 0 else b.hostLevel

/-- The line term of the merged demand (R122). -/
def Brake.lineTerm (b : Brake) : Nat := if b.emergAsserted || b.lineHold then 100 else 0

/-- The overlap floor, in force while the overlap timer runs (R122, R127). -/
def Brake.floorTerm (b : Brake) : Nat := if b.overlap.isSome then b.floor else 0

/-- The merged demand, the largest of its four terms (R122). -/
def Brake.merged (b : Brake) : Nat :=
  max (max b.hostTerm b.supDemand.level) (max b.lineTerm b.floorTerm)

/-- Whether LOOP is energized (R116, R119). -/
def Brake.loopWanted (b : Brake) : Bool :=
  b.unit == .armed && b.supState != .emergency && !b.emergAsserted && !b.lineHold

/-- Whether BAND is energized (R125). -/
def Brake.bandWanted (b : Brake) : Bool :=
  b.unit == .armed && b.secure && !b.emergAsserted && !b.lineHold && b.supState != .emergency
    && b.hostRelease && !b.hold

/-- LOOP and LOOP_SENSE agree (R132). -/
def Brake.loopAgrees (b : Brake) : Bool := b.loop == b.loopSense.level

/-- Judge loop agreement afresh: start the timer on a disagreement when it is stopped, stop it on an
agreement (R132). -/
def Brake.judgeLoop (b : Brake) : Brake :=
  if b.loopAgrees then { b with loopTimer := none }
  else { b with loopTimer := some (b.loopTimer.getD Config.loopAgreementTime) }

/-- Drive LOOP; agreement is judged when it changes (R132). -/
def Brake.driveLoop (on : Bool) (b : Brake) : Brake :=
  if on == b.loop then b else { b with loop := on }.judgeLoop

/-- Drive BAND; the band apply supervision is driven when it changes (R130). -/
def Brake.driveBand (applyTime : Nat) (on : Bool) (b : Brake) : Brake :=
  if on == b.band then b
  else if on then { b with band := true, bandTimer := none }
  else { b with band := false, bandTimer := if b.bandSense.level then b.bandTimer else some applyTime }

/-- SERVICE follows the merged demand: it steps up at once, starts the ramp timer on a fall, and stops
it at equality (R123). While the unit is SAFE it is 100 % with no ramp (R116). -/
def Brake.driveService (b : Brake) : Brake :=
  match b.unit with
  | .safe => { b with service := 100, ramp := none }
  | .armed =>
    if b.service < b.merged then { b with service := b.merged, ramp := none }
    else if b.merged < b.service then { b with ramp := some (b.ramp.getD Config.rampPeriod) }
    else { b with ramp := none }

/-- Re-form the three outputs from what the unit keeps (R119, R123, R125). -/
def Brake.reform (applyTime : Nat) (b : Brake) : Brake :=
  ((b.driveLoop b.loopWanted).driveBand applyTime b.bandWanted).driveService

/-- The overlap ends: its timer stops and the floor becomes 0 (R128, R129). -/
def Brake.endOverlap (b : Brake) : Brake := { b with overlap := none, floor := 0 }

/-- The supervisor hands its state and demand (R118). EMERGENCY clears the line hold (R119) and ends the
overlap (R129). -/
def Brake.takeSupervisor (applyTime : Nat) (st : SupState) (d : Demand) (b : Brake) : Brake :=
  let b := { b with supState := st, supDemand := d }
  (if st = .emergency then { b.endOverlap with lineHold := false } else b).reform applyTime

/-- The door controller hands DOORS_SECURE (R118, R125). -/
def Brake.takeSecure (applyTime : Nat) (secure : Bool) (b : Brake) : Brake :=
  { b with secure := secure }.reform applyTime

/-- The odometry unit hands MOTION (R118). MOTION false clears the handover hold and ends the overlap
(R128). -/
def Brake.takeMotion (applyTime : Nat) (motion : Bool) (b : Brake) : Brake :=
  if motion then { b with motion := true }.reform applyTime
  else { b.endOverlap with motion := false, hold := false }.reform applyTime

/-- The conditions under which a handed speed starts a handover (R126). -/
def Brake.handoverStarts (fade v : Nat) (b : Brake) : Bool :=
  decide (v < fade) && decide (fade ≤ b.speed) && b.motion && decide (0 < b.service) && b.band

/-- The odometry unit hands a new speed; a handover may start, which sets the hold and, unless the
overlap time is 0, the floor and the overlap timer (R126, R127). -/
def Brake.takeSpeed (applyTime fade overlapMs v : Nat) (b : Brake) : Brake :=
  if b.handoverStarts fade v then
    (if overlapMs = 0 then { b.endOverlap with speed := v, hold := true }
     else { b with speed := v, hold := true, overlap := some overlapMs, floor := b.service }).reform
      applyTime
  else { b with speed := v }.reform applyTime

/-- The filtered EMERG_IN becomes asserted: the line hold is set and the overlap ends (R120, R129). -/
def Brake.takeEmergAsserted (applyTime : Nat) (b : Brake) : Brake :=
  { b.endOverlap with emergIn := b.emergIn.accept false, lineHold := true }.reform applyTime

/-- The filtered EMERG_IN becomes released (R120). -/
def Brake.takeEmergReleased (applyTime : Nat) (b : Brake) : Brake :=
  { b with emergIn := b.emergIn.accept true }.reform applyTime

/-- An accepted BRAKE_DEMAND stores the host demand and re-forms the outputs (R121). -/
def Brake.takeDemand (applyTime level : Nat) (release : Bool) (b : Brake) : Brake :=
  { b with hostLevel := level, hostRelease := release }.reform applyTime

/-- The supervisor hands an accepted EMERGENCY_ACK: fault latches and line hold are cleared, and both
supervisions are judged afresh (R133). -/
def Brake.takeAck (applyTime : Nat) (b : Brake) : Brake :=
  let b := { b with bandFault := false, loopFault := false, lineHold := false }
  let b := if !b.band && !b.bandSense.level then { b with bandTimer := some applyTime } else b
  (if b.loopAgrees then b
   else { b with loopTimer := some (b.loopTimer.getD Config.loopAgreementTime) }).reform applyTime

/-- A ramp step (R123). -/
def Brake.rampStep (rate : Nat) (b : Brake) : Brake :=
  let level := max b.merged (b.service - rate)
  { b with service := level, ramp := if b.merged < level then some Config.rampPeriod else none }

/-- A change of filtered BAND_SENSE drives the band apply timer (R130). -/
def Brake.takeBandSense (applyTime : Nat) (level : Bool) (b : Brake) : Brake :=
  let b := { b with bandSense := b.bandSense.accept level }
  if level then { b with bandTimer := none }
  else if b.band then b
  else { b with bandTimer := some (b.bandTimer.getD applyTime) }

/-- A change of filtered LOOP_SENSE (R132). -/
def Brake.takeLoopSense (level : Bool) (b : Brake) : Brake :=
  { b with loopSense := b.loopSense.accept level }.judgeLoop

/-- The change of the lock level to CONFIG_LOCKED arms the unit, which forms its outputs at once
(R116). -/
def Brake.arm (applyTime : Nat) (b : Brake) : Brake := { b with unit := .armed }.reform applyTime

/-- The values of a reset, given the inputs after it, the DOORS_SECURE of the doors and the unit state
(R135). -/
def Brake.afterReset (applyTime : Nat) (unit : UnitState) (secure : Bool)
    (emergIn loopSense bandSense : InputLine) : Brake where
  unit := unit
  hostLevel := 100
  hostRelease := false
  supState := .emergency
  supDemand := .emergency
  secure := secure
  motion := false
  speed := 0
  emergIn := emergIn
  loopSense := loopSense
  bandSense := bandSense
  loop := false
  band := false
  service := 100
  ramp := none
  hold := false
  overlap := none
  floor := 0
  bandTimer := if bandSense.level then none else some applyTime
  loopTimer := if loopSense.level then some Config.loopAgreementTime else none
  bandFault := false
  loopFault := false
  lineHold := false

/-! ### The unit within the part -/

/-- #27, the band apply time (R130). -/
def State.bandApplyTime (s : State) : Nat := s.param 27

/-- Apply an operation of the unit that reads the band apply time. -/
def State.onBrake (f : Nat → Brake → Brake) (s : State) : State :=
  { s with brake := f s.bandApplyTime s.brake }

/-- Hand a new speed to the unit, with the electric fade speed (#24) and the overlap time (#25) as
they stand (R126, R127). -/
def State.handSpeed (v : Nat) (s : State) : State :=
  s.onBrake fun t b => b.takeSpeed t (s.param 24) (overlapTime (s.param 25)) v

end Sys2Proof.Machine
end

