-- ==== Sys2Proof/Machine/Curve.lean ====
section
/-! DEFINITION. The permitted-speed computation (chapter 4): the lookups of R2 and R10, the ceiling at the
car, the targets, gravity, the braking curves, and the choice of the governing target. All arithmetic
is exact (R95). -/

namespace Sys2Proof.Machine

/-! ### Profile lookups (R2, R10) -/

/-- Each segment with its end: the start of the next one, and the line end for the last (R2). -/
def withEnds (lineEnd : Nat) : List Segment → List (Segment × Nat)
  | [] => []
  | [g] => [(g, lineEnd)]
  | g :: h :: rest => (g, h.start) :: withEnds lineEnd (h :: rest)

/-- The segments as the store serves them to its readers: none unless the profile is VALID (R10). -/
def Profile.track (p : Profile) : List (Segment × Nat) :=
  match p.state, p.lineEnd with
  | .valid, some e => withEnds e p.segments
  | _, _ => []

/-- The line end as the store serves it (R10). -/
def Profile.servedLineEnd (p : Profile) : Option Nat :=
  match p.state with
  | .valid => p.lineEnd
  | _ => none

/-- A segment with its end overlaps the closed span [a, b] (R2). -/
def overlapsSpan (a b : Nat) (g : Segment × Nat) : Bool :=
  decide (g.1.start ≤ b) && decide (a < g.2)

/-- The segment that covers a position, if one does (R10). -/
def Profile.covering (p : Profile) (x : Nat) : Option Segment :=
  (p.track.find? fun g => decide (g.1.start ≤ x) && decide (x < g.2)).map Prod.fst

/-- The marker positions, in ascending order (R10). -/
def Profile.markers (p : Profile) : List Nat :=
  (p.track.filter fun g => g.1.marker).map fun g => g.1.start

/-- Each boundary with the segment below it and the segment above it (R10). -/
def pairs : List (Segment × Nat) → List (Segment × Segment)
  | [] => []
  | [_] => []
  | g :: h :: rest => (g.1, h.1) :: pairs (h :: rest)

/-- The boundaries as the store serves them (R10). -/
def Profile.boundaries (p : Profile) : List (Segment × Segment) := pairs p.track

/-- The static limit of a segment for a direction. -/
def Segment.limit (g : Segment) : Dir → Nat
  | .up => g.limitUp
  | .down => g.limitDown

/-- The effective gradient of a segment for a direction (5.5). -/
def Segment.effective (g : Segment) : Dir → Int
  | .up => g.gradient
  | .down => -g.gradient

/-! ### The car (5.2, 5.3) -/

/-- The front of the car for a direction. -/
def State.front (s : State) : Dir → Nat
  | .up => s.odo.position + s.carLength
  | .down => s.odo.position

/-- The rear of the car for a direction. -/
def State.rear (s : State) : Dir → Nat
  | .up => s.odo.position
  | .down => s.odo.position + s.carLength

/-- The live records with their slots, in ascending slot order. -/
def Table.live (t : Table) : List (Nat × Record) :=
  t.slots.zipIdx.filterMap fun x => x.1.map fun r => (x.2, r)

/-! ### The ceiling at the car (R78 to R81) -/

/-- Whether a fallback cause holds (R78). -/
def State.fallbackCause (s : State) : Bool :=
  (s.radio.link == .lost && s.param 33 == 1) || s.table.lossLatch || !s.odo.positionValid
    || s.profile.state != .valid

/-- An evaluation is degraded when the position or the profile has no meaning (R80). -/
def State.degraded (s : State) : Bool := !s.odo.positionValid || s.profile.state != .valid

/-- The car reaches beyond the line end, in a full evaluation (R81). -/
def State.beyondLineEnd (s : State) : Bool :=
  !s.degraded && match s.profile.servedLineEnd with
    | some e => decide (e < s.odo.position + s.carLength)
    | none => false

/-- The limits of the segments under the car (R79). -/
def State.staticLimits (s : State) (dir : Dir) : List Nat :=
  (s.profile.track.filter (overlapsSpan s.odo.position (s.odo.position + s.carLength))).map
    fun g => g.1.limit dir

/-- The limit of a SPEED record that applies to the direction and overlaps the car (R79). -/
def State.recordLimit (s : State) (dir : Dir) (r : Record) : Option Nat :=
  match r.imposes with
  | .speed limit =>
    if r.dir.appliesTo dir && r.overlapsCar s.odo.position s.carLength then some limit else none
  | _ => none

/-- The terms of the ceiling at the car besides 1023 (R79). -/
def State.ceilingTerms (s : State) (dir : Dir) : List Nat :=
  s.staticLimits dir ++ s.table.live.filterMap (fun x => s.recordLimit dir x.2)
    ++ (if s.fallbackCause || s.beyondLineEnd then [s.param 22] else [])

/-- The ceiling at the car for a direction, C_here (R79). -/
def State.ceiling (s : State) (dir : Dir) : Nat :=
  (s.ceilingTerms dir).foldl min Config.maxSpeed

/-! ### Targets (R82 to R85) -/

/-- A target ahead: a point with the speed that must not be exceeded on reaching it. -/
structure Target where
  source : TargetSource
  point : Nat
  dist : Nat
  speed : Nat
  slot : Option Nat
deriving DecidableEq, Repr

/-- The distance of a point from the front, |p - F| (R82). -/
def distance (p f : Nat) : Nat := (p - f) + (f - p)

/-- A point lies ahead of the front and within the lookahead, the front itself included (R82, for STOP
points and the line end). -/
def inWindow (dir : Dir) (f a p : Nat) : Bool :=
  match dir with
  | .up => decide (f ≤ p) && decide (p ≤ f + a)
  | .down => decide (f ≤ p + a) && decide (p ≤ f)

/-- The window for SPEED record points: the front itself is not in it (R82). -/
def inSpeedWindow (dir : Dir) (f a p : Nat) : Bool := inWindow dir f a p && p != f

/-- The window for segment boundaries: the UP front is not in it, the DOWN front is (R82). -/
def inBoundaryWindow (dir : Dir) (f a p : Nat) : Bool :=
  inWindow dir f a p && (dir == .down || p != f)

/-- #18, the lookahead in counts. -/
def State.lookahead (s : State) : Nat := s.param 18

/-- The boundary targets (R83). -/
def State.boundaryTargets (s : State) (dir : Dir) : List Target :=
  s.profile.boundaries.filterMap fun (below, above) =>
    let p := above.start
    if inBoundaryWindow dir (s.front dir) s.lookahead p then
      let entered := match dir with
        | .up => above
        | .down => below
      some ⟨.boundary, p, distance p (s.front dir), entered.limit dir, none⟩
    else none

/-- The target of one live record, if it is one (R84, R85). -/
def State.recordTarget (s : State) (dir : Dir) (slot : Nat) (r : Record) : Option Target :=
  let f := s.front dir
  match r.imposes with
  | .speed limit =>
    let p := match dir with
      | .up => r.first
      | .down => r.last
    if r.dir.appliesTo dir && !r.overlapsCar s.odo.position s.carLength
        && inSpeedWindow dir f s.lookahead p then
      some ⟨.speedRecord, p, distance p f, limit, some slot⟩
    else none
  | .stop =>
    if r.dir.appliesTo dir && inWindow dir f s.lookahead r.first then
      some ⟨.stopRecord, r.first, distance r.first f, 0, some slot⟩
    else none
  | .doors _ => none

/-- The line end for UP and position 0 for DOWN, targets of speed 0 (R85). -/
def State.lineEndTargets (s : State) (dir : Dir) : List Target :=
  let point := match dir with
    | .up => s.profile.servedLineEnd
    | .down => some 0
  match point with
  | some p =>
    if inWindow dir (s.front dir) s.lookahead p then
      [⟨.lineEnd, p, distance p (s.front dir), 0, none⟩]
    else []
  | none => []

/-- All targets of a direction (R82). -/
def State.targets (s : State) (dir : Dir) : List Target :=
  s.boundaryTargets dir ++ s.table.live.filterMap (fun x => s.recordTarget dir x.1 x.2)
    ++ s.lineEndTargets dir

/-! ### Overrun STOP records (R86) -/

/-- A live STOP record that applies and that the front has passed strictly (R86). -/
def State.overrunBy (s : State) (dir : Dir) (r : Record) : Bool :=
  match r.imposes with
  | .stop =>
    r.dir.appliesTo dir && match dir with
      | .up => decide (r.first < s.front .up)
      | .down => decide (s.front .down < r.first)
  | _ => false

/-- The lowest slot whose STOP record is overrun, with its record (R86). -/
def State.overrun (s : State) (dir : Dir) : Option (Nat × Record) :=
  s.table.live.find? fun x => s.overrunBy dir x.2

/-! ### Gravity and deceleration (R87 to R91) -/

/-- The adverse gradient toward a point: the lowest effective gradient from the rear to the point,
-500 when no segment overlaps the span (R87). -/
def State.adverse (s : State) (dir : Dir) (p : Nat) : Int :=
  let span := match dir with
    | .up => (s.rear .up, p)
    | .down => (p, s.rear .down)
  match (s.profile.track.filter (overlapsSpan span.1 span.2)).map fun g => g.1.effective dir with
  | [] => -500
  | e :: rest => rest.foldl min e

/-- The gravity component G(g) in mm/s² (R89). -/
def gravity (g : Nat) : Nat :=
  let g := min g 500
  let k := g / 50
  let t := gravityTable.getD k 0
  if g = 500 then t else t + (gravityTable.getD (k + 1) 0 - t) * (g - 50 * k) / 50

/-- The effective deceleration before the floor, which may be negative (R90). -/
def rawDeceleration (capability credit : Nat) (e : Int) : Int :=
  if e < 0 then (capability : Int) - gravity e.natAbs
  else capability + ((gravity e.natAbs * credit / 100 : Nat) : Int)

/-- Whether a deceleration falls short of the floor (R91). -/
def fallsShort (floor : Nat) (a : Int) : Bool := decide (a < floor)

/-- The effective deceleration with the floor applied (R91). -/
def decelerationWithFloor (floor : Nat) (a : Int) : Nat := if a < floor then floor else a.toNat

/-! ### Distance and curve speed (R93, R94) -/

/-- The available distance in mm, 0 when the reaction travel and the guard use it up (R93). -/
def availableDistance (d v reaction guard : Nat) : Nat :=
  Config.mmPerCount * d - v * 10 * reaction / 1000 - guard

/-- The bits of the integer square root of n below 2^k, found from the top, on from r. -/
def isqrtFrom (n : Nat) : Nat → Nat → Nat
  | 0, r => r
  | k + 1, r => if (r + 2 ^ k) * (r + 2 ^ k) ≤ n then isqrtFrom n k (r + 2 ^ k) else isqrtFrom n k r

/-- The integer square root, rounded down (5.1, R94). -/
def isqrt (n : Nat) : Nat := isqrtFrom n (n.log2 / 2 + 1) 0

/-- The curve speed of a target in cm/s (R94). -/
def curveSpeed (targetSpeed a s : Nat) : Nat :=
  min Config.maxSpeed (isqrt ((10 * targetSpeed) ^ 2 + 2 * a * s) / 10)

/-- The effective deceleration toward a target before the floor, with the parameters as they stand. -/
def State.decelerationTo (s : State) (dir : Dir) (t : Target) : Int :=
  rawDeceleration (s.param 13) (s.param 15) (s.adverse dir t.point)

/-- Whether a target has a shortfall (R91). -/
def State.targetShort (s : State) (dir : Dir) (t : Target) : Bool :=
  fallsShort (s.param 14) (s.decelerationTo dir t)

/-- The curve speed of a target with the parameters and the speed as they stand (R90 to R94). -/
def State.targetCurve (s : State) (dir : Dir) (t : Target) : Nat :=
  curveSpeed t.speed (decelerationWithFloor (s.param 14) (s.decelerationTo dir t))
    (availableDistance t.dist s.odo.speed (s.param 16) (s.param 17))

/-! ### The result of a direction (R80, R81, R86, R96) -/

/-- What the computation gives for one direction. -/
structure DirResult where
  permitted : Nat
  governing : Option Governing
  shortfall : Bool
  overrun : Option Nat
deriving DecidableEq, Repr

/-- The order among sources at equal curve speed and distance: STOP, line end, SPEED, boundary (R96). -/
def sourceRank : TargetSource → Nat
  | .stopRecord => 0
  | .lineEnd => 1
  | .speedRecord => 2
  | .boundary => 3

/-- Whether the first of two targets with their curve speeds is taken before the second: lowest curve,
then smallest d, then source, then slot (R96). -/
def takenBefore (x y : Nat × Target) : Bool :=
  if x.1 ≠ y.1 then decide (x.1 < y.1)
  else if x.2.dist ≠ y.2.dist then decide (x.2.dist < y.2.dist)
  else if sourceRank x.2.source ≠ sourceRank y.2.source then
    decide (sourceRank x.2.source < sourceRank y.2.source)
  else decide (x.2.slot.getD 0 < y.2.slot.getD 0)

/-- The target that governs among those with their curve speeds, if there is one. -/
def lowestTarget : List (Nat × Target) → Option (Nat × Target)
  | [] => none
  | x :: rest =>
    match lowestTarget rest with
    | none => some x
    | some y => if takenBefore y x then some y else some x

/-- A target as a governing target by its curve (R96). -/
def Target.governing (t : Target) : Governing :=
  ⟨t.source, t.point, t.dist, t.speed, t.slot, false⟩

/-- The governing target of an overrun STOP record (R86). -/
def overrunGoverning (slot : Nat) (r : Record) : Governing :=
  ⟨.stopRecord, r.first, 0, 0, some slot, true⟩

/-- The governing target beyond the line end (R81). -/
def beyondGoverning (lineEnd : Nat) : Governing := ⟨.lineEnd, lineEnd, 0, 0, none, true⟩

/-- The curves of a direction; none are computed for UP beyond the line end (R81). DEDUCED (log entry
31): with no curve no target is judged for a shortfall, so UP beyond the line end leaves the
indication clear, which R92's list of clear cases does not say. DESIGN CHOICE (log entry 15): where a
STOP record is overrun there too, R86 still has them computed for the shortfall indication, against
R81, and the free constant says which of the two rules is followed. -/
def State.curves (s : State) (dir : Dir) : List (Nat × Target) :=
  if dir = .up ∧ s.beyondLineEnd ∧ ¬((s.overrun dir).isSome ∧ Config.overrunGovernsLineEnd) then []
  else (s.targets dir).map fun t => (s.targetCurve dir t, t)

/-- The result of a full evaluation for a direction (R81, R86, R92, R96). Where R81 and R86 each name a
governing target, the free constant chooses (log entry 15): the permitted speed is 0 by either. -/
def State.fullResult (s : State) (dir : Dir) : DirResult :=
  let curves := s.curves dir
  let short := curves.any fun x => s.targetShort dir x.2
  let beyond := decide (dir = .up) && s.beyondLineEnd
  let lineEnd := beyondGoverning (s.profile.servedLineEnd.getD 0)
  match s.overrun dir with
  | some (slot, r) =>
    ⟨0, some (if beyond && !Config.overrunGovernsLineEnd then lineEnd else overrunGoverning slot r),
      short, some slot⟩
  | none =>
    if beyond then ⟨0, some lineEnd, short, none⟩
    else
      match lowestTarget curves with
      | none => ⟨s.ceiling dir, none, short, none⟩
      | some (v, t) =>
        if s.ceiling dir ≤ v then ⟨s.ceiling dir, none, short, none⟩
        else ⟨v, some t.governing, short, none⟩

/-- The result of a direction, degraded or full (R80). -/
def State.dirResult (s : State) (dir : Dir) : DirResult :=
  if s.degraded then ⟨s.ceiling dir, none, false, none⟩ else s.fullResult dir

/-- Both directions combined: the lower permitted speed, UP when they are equal, and a shortfall of
either (R77). -/
def combine (up down : DirResult) : Dir × DirResult :=
  let short := up.shortfall || down.shortfall
  if up.permitted ≤ down.permitted then (.up, { up with shortfall := short })
  else (.down, { down with shortfall := short })

/-- The direction evaluated, none for both (R76). -/
def State.evaluated (s : State) : Option Dir :=
  if s.odo.motion then some (s.odo.measured.getD .up) else s.odo.selected

/-- The permitted-speed computation (R74 to R96). -/
def State.compute (s : State) : Dir × DirResult :=
  match s.evaluated with
  | some dir => (dir, s.dirResult dir)
  | none => combine (s.dirResult .up) (s.dirResult .down)

end Sys2Proof.Machine
end

