-- ==== Sys2Proof/Machine/QueueOps.lean ====
section
/-! DEFINITION. The transmit queue and the transmitter (R173, R174, R183 to R186, R190): placing and removing
entries, TX_DONE reports, the start of a frame, and the placing of an ALARM. -/

namespace Sys2Proof.Machine

/-- Apply an operation to the radio controller. -/
def State.onRadio (f : Radio → Radio) (s : State) : State := { s with radio := f s.radio }

/-! ### Modes and the line -/

/-- Items are placed on the car's behalf, and RADIO_SEND is taken, in NORMAL and SELFTEST (R183,
R188). -/
def LinkMode.places : LinkMode → Bool
  | .normal => true
  | .selftest => true
  | _ => false

/-- The line is quiet: the assembler is OUTSIDE and the transmitter IDLE (R167). -/
def Radio.quiet (r : Radio) : Bool := r.assembler.isNone && r.tx.isNone

/-- A mode change waits: the requested and the current mode differ (R167). -/
def Radio.changeWaits (r : Radio) : Bool := r.requested != r.current

/-! ### The queue -/

/-- The queue has a free slot (R183). -/
def Radio.hasRoom (r : Radio) : Bool := decide (r.queue.length < Config.queueSize)

/-- Place an entry at the end of the queue; it takes the next handle (R183). -/
def Radio.place (kind : Byte) (priority : Nat) (origin : QueueOrigin) (destination : Byte)
    (body : List Byte) (spontaneous : Bool) (r : Radio) : Radio :=
  { r with
    queue := r.queue ++ [⟨r.nextHandle, kind, priority, origin, destination, body, spontaneous, false⟩]
    nextHandle := (r.nextHandle + 1) % 256 }

/-- One TX_DONE report: the last transmit result, and the sequence number raised with wrap (R190). -/
def Radio.reportTx (handle : Nat) (result : TxResult) (r : Radio) : Radio :=
  { r with lastTx := some ⟨handle, result⟩, txSeq := (r.txSeq + 1) % 256 }

/-- The TX_DONE report of an entry that leaves the queue; a PART entry makes none (R190). -/
def State.reportLeaving (result : TxResult) (s : State) (e : QueueEntry) : State :=
  match e.origin with
  | .part => s
  | .vehicle => (s.onRadio (Radio.reportTx e.handle result)).setFlag .txDone

/-- Remove the entries that meet a test, each reporting in the order of placement (R190). -/
def State.removeEntries (test : QueueEntry → Bool) (result : TxResult) (s : State) : State :=
  let leaving := s.radio.queue.filter test
  leaving.foldl (State.reportLeaving result)
    (s.onRadio fun r => { r with queue := r.queue.filter fun e => !test e })

/-- Remove the first entry in the order of placement that meets a test, with its report. -/
def State.removeFirst (test : QueueEntry → Bool) (result : TxResult) (s : State) : State :=
  match s.radio.queue.find? test with
  | some e => (s.onRadio fun r => { r with queue := r.queue.eraseP test }).reportLeaving result e
  | none => s

/-- Remove the newest entry that meets a test, with its report. -/
def State.removeNewest (test : QueueEntry → Bool) (result : TxResult) (s : State) : State :=
  match s.radio.queue.reverse.find? test with
  | some e =>
    (s.onRadio fun r => { r with queue := (r.queue.reverse.eraseP test).reverse }).reportLeaving
      result e
  | none => s

/-! ### The transmitter -/

/-- The unsent entry with the highest priority, the earliest placed among those (R184). -/
def selectEntry : List QueueEntry → Option QueueEntry
  | [] => none
  | e :: rest =>
    match selectEntry rest with
    | none => if e.started then none else some e
    | some b => if !e.started && decide (b.priority ≤ e.priority) then some e else some b

/-- Whether the transmitter may start a frame: IDLE, an unsent entry, the assembler OUTSIDE, and in
NORMAL a low CARRIER; in OFF, CONFIG and LISTEN it starts nothing (R173). -/
def Radio.canStart (r : Radio) : Bool :=
  r.tx.isNone && r.assembler.isNone && (selectEntry r.queue).isSome
    && match r.current with
      | .normal => !r.carrier
      | .selftest => true
      | _ => false

/-- The first entry in the order of placement that equals the given one becomes started. -/
def markStarted (e : QueueEntry) : List QueueEntry → List QueueEntry
  | [] => []
  | q :: rest => if q = e then { q with started := true } :: rest else q :: markStarted e rest

/-- Start an entry: it becomes started, and its content, source and check value are fixed; its line
bytes are formed with the line parity as it stands, which cannot change in flight (R155, R174); KEY is
asserted in NORMAL and not in SELFTEST (R169, R173, R174). -/
def Radio.start (parity : Nat) (address : Byte) (e : QueueEntry) (r : Radio) : Radio :=
  let content := frameContent e.destination address e.kind e.body
  { r with
    queue := markStarted e r.queue
    tx := some ⟨e.handle, content, (lineBytes content).map (lineByte parity)⟩
    key := r.current == .normal }

/-- Start the entry that the queue selects, when the conditions of R173 hold. -/
def State.startFrame (s : State) : State :=
  match s.radio.canStart, selectEntry s.radio.queue with
  | true, some e => s.onRadio (Radio.start (s.param 2) s.carAddress e)
  | _, _ => s

/-- Judge the start at an event that can make its conditions hold (R173). A line that is quiet with a
mode change waiting is left to the event that made it quiet (log entry 14). -/
def State.judgeStart (s : State) : State :=
  if s.radio.changeWaits then s else s.startFrame

/-! ### Alarms (R186) -/

/-- The body of an ALARM: the supervision state and the cause set as they stand (R113, R207). -/
def State.alarmBody (s : State) : List Byte := u8 (supCode s.sup.state) ++ u16 s.sup.causes.bits

/-- An unsent entry of priority 0 or 1, which an ALARM may displace (R186). -/
def QueueEntry.displaceable (e : QueueEntry) : Bool := !e.started && decide (e.priority ≤ 1)

/-- Place an ALARM frame with priority 2 to all (R182, R186). -/
def Radio.placeAlarm (body : List Byte) (r : Radio) : Radio :=
  r.place kindAlarm 2 .part 0 body false

/-- The supervisor hands an ALARM: dropped in LISTEN, OFF and CONFIG; otherwise placed, placed over a
displaced entry, or kept in the pending-alarm latch (R186). A placed ALARM is a start event (R173). -/
def State.handAlarm (s : State) : State :=
  let body := s.alarmBody
  if !s.radio.current.places then s
  else if s.radio.hasRoom then (s.onRadio (Radio.placeAlarm body)).judgeStart
  else if s.radio.queue.any QueueEntry.displaceable then
    ((s.removeNewest QueueEntry.displaceable .displaced).onRadio (Radio.placeAlarm body)).judgeStart
  else s.onRadio fun r => { r with pendingAlarm := some body }

end Sys2Proof.Machine
end

