-- ==== Sys2Proof/Machine/SupervisorOps.lean ====
section
/-! DEFINITION. The speed supervisor's shared operations (chapter 5): one evaluation, the handing of a state
change, the emergency causes, and the acknowledgment. -/

namespace Sys2Proof.Machine

/-! ### Causes (R105) -/

/-- At least one latched cause is present. -/
def Causes.anyLatched (c : Causes) : Bool :=
  c.overspeed || c.overrun || c.rollback || c.pinionSlip || c.pinionSensor || c.bandFault
    || c.loopFault || c.reset

/-- At least one live cause is present. -/
def Causes.anyLive (c : Causes) : Bool := c.doorOpenMoving || c.emergencyLine

/-- At least one cause is present (R102). -/
def Causes.any (c : Causes) : Bool := c.anyLatched || c.anyLive

/-- Every latched cause absent, the live ones as they are (R110). -/
def Causes.clearLatched (c : Causes) : Causes :=
  { c with
    overspeed := false, overrun := false, rollback := false, pinionSlip := false
    pinionSensor := false, bandFault := false, loopFault := false, reset := false }

/-- The latched causes alone, as the acknowledgment reports what it cleared (R110). -/
def Causes.latchedOnly (c : Causes) : Causes :=
  { c with doorOpenMoving := false, emergencyLine := false }

/-! ### The state step (R102, R103) -/

/-- The next supervision state, with excess x, speed v, permitted speed, margins m_i and m_e and
hysteresis h (R102). -/
def SupState.next (cause : Bool) (x : Int) (v permitted mi me h : Nat) : SupState → SupState
  | .emergency => .emergency
  | .intervention =>
    if cause || decide ((me : Int) < x) then .emergency
    else if v ≤ permitted - h then .normal
    else .intervention
  | _ =>
    if cause || decide ((me : Int) < x) then .emergency
    else if (mi : Int) < x then .intervention
    else if 0 < x then .warning
    else .normal

/-- The demand of each state (R112). -/
def SupState.demand : SupState → Demand
  | .normal => ⟨0, false, false⟩
  | .warning => ⟨0, false, false⟩
  | .intervention => ⟨100, false, false⟩
  | .emergency => .emergency

/-! ### Handing a state change on (R101 step 6, R112, R113) -/

/-- The change from one state to another is an entry to or an exit from EMERGENCY (R113). -/
def alarms (old new : SupState) : Bool := (old == .emergency) != (new == .emergency)

/-- A change of the supervision state: the new demand is formed, state and demand are handed to the
brake output unit, SUPERVISION is set, and an ALARM is handed on entry to or exit from EMERGENCY
(R101, R112, R113). -/
def State.changeSupState (new : SupState) (s : State) : State :=
  let old := s.sup.state
  let s := { s with sup := { s.sup with state := new, demand := new.demand } }
  let s := (s.onBrake fun t b => b.takeSupervisor t new new.demand).setFlag .supervision
  if alarms old new then s.handAlarm else s

/-! ### One evaluation (R101) -/

/-- Steps 1 to 4 of an evaluation: the computation's results, the excess, and the causes the supervisor
keeps itself (R101, R106, R108). -/
def State.judge (s : State) : Supervisor :=
  let (dir, r) := s.compute
  let x : Int := (s.odo.speed : Int) - r.permitted
  { s.sup with
    permitted := r.permitted
    evalDir := some dir
    governing := r.governing
    shortfall := r.shortfall
    overrunFinding := r.overrun
    excess := x
    causes := { s.sup.causes with
      doorOpenMoving := !s.sup.doorsSecure && s.odo.motion
      overspeed := s.sup.causes.overspeed || decide ((s.param 20 : Int) < x)
      overrun := s.sup.causes.overrun || (r.overrun.isSome && s.odo.motion) } }

/-- The state that step 5 of an evaluation moves to, from the results of steps 1 to 4 (R102). -/
def State.nextSupState (s : State) (j : Supervisor) : SupState :=
  j.state.next j.causes.any j.excess s.odo.speed j.permitted (s.param 19) (s.param 20) (s.param 21)

/-- One evaluation, taken whole (R101). SHORTFALL is set when the indication goes from clear to set
(R92); the evaluation timer restarts with a full period (R99). -/
def State.evaluate (s : State) : State :=
  let j := s.judge
  let new := s.nextSupState j
  let t := ({ s with sup := j }).setFlagIf (j.shortfall && !s.sup.shortfall) .shortfall
  let t := if new = j.state then t else t.changeSupState new
  { t with sup := { t.sup with evalTimer := some (s.param 23) } }

/-- Make one evaluation when a condition holds. -/
def State.evaluateIf (c : Bool) (s : State) : State := if c then s.evaluate else s

/-! ### Causes handed by other blocks (R107, R108) -/

/-- Change the cause set and evaluate: the handing of a cause is an evaluation event (R98). -/
def State.handCause (f : Causes → Causes) (s : State) : State :=
  State.evaluate { s with sup := { s.sup with causes := f s.sup.causes } }

/-- The brake output unit hands a change of the EMERG_IN line (R108). -/
def State.handEmergIn (asserted : Bool) (s : State) : State :=
  State.evaluate { s with sup := { s.sup with
    emergIn := asserted, causes := { s.sup.causes with emergencyLine := asserted } } }

/-- The door controller hands a change of DOORS_SECURE to the brake output unit and to the supervisor
(R152). -/
def State.handSecure (secure : Bool) (s : State) : State :=
  let s := s.onBrake fun t b => b.takeSecure t secure
  State.evaluate { s with sup := { s.sup with doorsSecure := secure } }

/-! ### Reset (R115) -/

/-- The supervisor after either reset, given the EMERG_IN level and DOORS_SECURE at the reset and the
evaluation period (R74, R99, R108, R115). -/
def Supervisor.afterReset (emergIn secure : Bool) (period : Nat) : Supervisor where
  state := .emergency
  causes := .afterReset emergIn
  excess := 0
  demand := .emergency
  evalTimer := some period
  emergIn := emergIn
  doorsSecure := secure
  permitted := 0
  evalDir := none
  governing := none
  shortfall := false
  overrunFinding := none

end Sys2Proof.Machine
end

