-- ==== Sys2Proof/Machine/TableOps.lean ====
section
/-! DEFINITION. The table engine's shared operations (chapter 3): finding, issuing, freeing, the passage and
expiry evaluations, the minute timer, notices and the triggers of the supervisor. The engine's
operations act on the table alone; the wrappers at the end hand on flags and evaluation events. -/

namespace Sys2Proof.Machine

/-! ### Looking up (R41, R47) -/

/-- A record is named by its origin and number (section 3.1). -/
def Record.named (origin : Origin) (number : Nat) (r : Record) : Bool :=
  decide (r.origin = origin) && decide (r.number = number)

/-- The first slot whose content meets a test. -/
def findSlot (test : Option Record → Bool) (slots : List (Option Record)) : Option Nat :=
  slots.findIdx? test

/-- The slot of the live record with an origin and number (R47). -/
def Table.find (t : Table) (origin : Origin) (number : Nat) : Option Nat :=
  findSlot (fun o => o.any (Record.named origin number)) t.slots

/-- The record in a slot, if it is live (R41). -/
def Table.get (t : Table) (slot : Nat) : Option Record := (t.slots[slot]?).join

/-- The lowest-numbered FREE slot (R41). -/
def Table.lowestFree (t : Table) : Option Nat := findSlot Option.isNone t.slots

/-- The slot of a live STOP record of an origin (R49). -/
def Table.stopOf (t : Table) (origin : Origin) : Option Nat :=
  findSlot (fun o => o.any fun r => decide (r.imposes = .stop) && decide (r.origin = origin)) t.slots

/-- The live record count (R41). -/
def Table.count (t : Table) : Nat := t.live.length

/-! ### The minute timer (R58) -/

/-- A record whose lifetime keeps the minute timer running: 1..255 (R58). -/
def Record.counts (r : Record) : Bool := r.lifetime.any fun n => decide (0 < n)

/-- Some live record holds a lifetime of 1..255. -/
def Table.anyLifetime (t : Table) : Bool := t.slots.any fun o => o.any Record.counts

/-- After a table change: the timer runs exactly while some live record holds a lifetime of 1..255,
keeps its phase when it runs, and starts with a full period (R48, R50, R58). -/
def Table.settleTimer (t : Table) : Table :=
  { t with minuteTimer :=
      if t.anyLifetime then some (t.minuteTimer.getD Config.minutePeriod) else none }

/-! ### Notices (R62) -/

/-- Write a notice and raise the sequence number with wrap (R62). -/
def Table.note (event : NoticeEvent) (slot : Nat) (r : Record) (replaced : Option Nat) (t : Table) :
    Table :=
  { t with
    notice := ⟨event, slot, r.imposes.kind, r.origin, r.number, replaced⟩
    noticeSeq := (t.noticeSeq + 1) % 65536 }

/-- Free a slot (R41). -/
def Table.freeSlot (slot : Nat) (t : Table) : Table := { t with slots := t.slots.set slot none }

/-- Free a slot with a notice of the reason; a slot that holds no record is left as it is. -/
def Table.freeWithNotice (event : NoticeEvent) (slot : Nat) (t : Table) : Table :=
  match t.get slot with
  | some r => (t.freeSlot slot).note event slot r none
  | none => t

/-- Free several slots, one notice each, in the order of the list (R62). -/
def Table.freeAll (frees : List (Nat × NoticeEvent)) (t : Table) : Table :=
  frees.foldl (fun t x => t.freeWithNotice x.2 x.1) t

/-! ### Issuing (R44 to R51) -/

/-- Who made an issue: the host, or a station by radio (R44). -/
inductive IssueSource where
  | host
  | radio
deriving DecidableEq, Repr

/-- The result of an issue (R44), with what the host's answer carries (R52). -/
inductive IssueResult where
  | new (slot : Nat) (replaced : Option Nat)
  | amended (slot : Nat)
  | value
  | kind (slot : Nat) (live : RecordKind)
  | full
deriving DecidableEq, Repr

/-- The content that an issue stores once it has passed checks 2 to 6 of R45 and the bounds of R46; none
when a check fails. -/
def recordOfIssue (origin : Origin) (b : IssueBody) : Option Record :=
  match imposesOfIssue b, recordDirOfClass b.cls with
  | some imposes, some dir =>
    let stop := decide (imposes = .stop)
    if b.start.toNat ≤ b.stop.toNat ∧ b.stop.toNat ≤ Config.maxPosition
        ∧ (stop → b.start.toNat = b.stop.toNat) then
      some {
        imposes := imposes
        origin := origin
        number := b.number.toNat
        dir := dir
        first := b.start.toNat
        last := b.stop.toNat
        lifetime := if stop || b.lifetime.toNat == 0 then none else some b.lifetime.toNat
        passage := !stop && passageOfClass b.cls
        expiring := false }
    else none
  | _, _ => none

/-- Store a record in a slot. -/
def Table.store (slot : Nat) (r : Record) (t : Table) : Table :=
  { t with slots := t.slots.set slot (some r) }

/-- A radio issue writes a notice, a host issue none (R62). -/
def Table.noteIssue (source : IssueSource) (event : NoticeEvent) (slot : Nat) (r : Record)
    (replaced : Option Nat) (t : Table) : Table :=
  match source with
  | .radio => t.note event slot r replaced
  | .host => t

/-- The number of the record in a slot. -/
def Table.numberAt (t : Table) (slot : Nat) : Option Nat := (t.get slot).map Record.number

/-- Create a record in the lowest FREE slot, or answer FULL (R50, R51). -/
def Table.create (source : IssueSource) (r : Record) (replaced : Option Nat) (t : Table) :
    Table × IssueResult :=
  match t.lowestFree with
  | some slot =>
    (((t.store slot r).noteIssue source .issued slot r replaced).settleTimer, .new slot replaced)
  | none => (t, .full)

/-- The engine's classification of a bounded issue and its table change (R47 to R51). -/
def Table.classify (source : IssueSource) (r : Record) (t : Table) : Table × IssueResult :=
  match t.find r.origin r.number with
  | some slot =>
    let live := ((t.get slot).map fun x => x.imposes.kind).getD r.imposes.kind
    if live = r.imposes.kind then
      (((t.store slot r).noteIssue source .amended slot r none).settleTimer, .amended slot)
    else (t, .kind slot live)
  | none =>
    match r.imposes, t.stopOf r.origin with
    | .stop, some old => (t.freeSlot old).create source r (t.numberAt old)
    | _, _ => t.create source r none

/-- A FULL refusal of SPEED or STOP sets the restriction-lost latch (R51). -/
def Table.loseIfFull (r : Record) (result : IssueResult) (t : Table) : Table :=
  if result = .full ∧ r.imposes.kind ≠ .doors then { t with lossLatch := true } else t

/-- Whether the table changed for the notices of R62: a radio issue that created or amended. -/
def IssueResult.changes : IssueResult → Bool
  | .new _ _ => true
  | .amended _ => true
  | _ => false

/-- An issue at the table engine, with its flags and its evaluation event (R44 to R51, R62, R63). -/
def State.issueRecord (source : IssueSource) (origin : Origin) (b : IssueBody) (s : State) :
    State × IssueResult :=
  match recordOfIssue origin b with
  | none => (s, .value)
  | some r =>
    let (t, result) := s.table.classify source r
    let lost := decide (result = .full ∧ r.imposes.kind ≠ .doors)
    let s' := { s with table := t.loseIfFull r result }
    let s' := s'.setFlagIf (source == .radio && result.changes) .tableChanged
    let s' := s'.setFlagIf lost .restrictionLost
    let trigger := (result.changes && r.imposes.kind != .doors) || (lost && !s.table.lossLatch)
    (s'.evaluateIf trigger, result)

/-! ### Revoking (R53, R54) -/

/-- Free the record in a slot with reason REVOKED: a notice, TABLE_CHANGED and an evaluation event
(R62, R63). -/
def State.revokeSlot (slot : Nat) (s : State) : State :=
  let s := { s with table := (s.table.freeWithNotice .revoked slot).settleTimer }
  (s.setFlag .tableChanged).evaluate

/-! ### Passage and EXPIRING records at a count-driven position change (R56, R57, R60) -/

/-- The car's rear lies beyond a record that asks for passage and applies to the edge's direction
(R57). -/
def Record.passed (dir : Dir) (position length : Nat) (r : Record) : Bool :=
  r.passage && r.dir.appliesTo dir && match dir with
    | .up => decide (r.last < position)
    | .down => decide (position + length < r.first)

/-- Why the evaluation at a count-driven position change frees a record, if it does: passage first
(R56), then an EXPIRING record the car no longer overlaps (R60). -/
def Record.retires (dir : Dir) (position length : Nat) (r : Record) : Option NoticeEvent :=
  if r.passed dir position length then some .passed
  else if r.expiring && !r.overlapsCar position length then some .expired
  else none

/-- The slots that the evaluation frees, in ascending order (R56). -/
def Table.retirements (dir : Dir) (position length : Nat) (t : Table) : List (Nat × NoticeEvent) :=
  t.live.filterMap fun x => (x.2.retires dir position length).map fun e => (x.1, e)

/-- The evaluation at a count-driven position change; the result says whether a record was freed, which
is an evaluation event for the supervisor (R56, R62, R63). -/
def State.retireRecords (dir : Dir) (s : State) : State × Bool :=
  let frees := s.table.retirements dir s.odo.position s.carLength
  if s.odo.positionValid && !frees.isEmpty then
    (State.setFlag .tableChanged { s with table := (s.table.freeAll frees).settleTimer }, true)
  else (s, false)

/-! ### The minute expiry (R58, R59) -/

/-- One live record at a minute expiry: its lifetime lowered by 1, and EXPIRING when it reaches 0 under
the car (R58, R59). -/
def Record.minute (underCar : Bool) (r : Record) : Record :=
  match r.lifetime with
  | some (n + 1) => { r with lifetime := some n, expiring := r.expiring || (n == 0 && underCar) }
  | _ => r

/-- A record whose lifetime reaches 0 at this expiry (R59). -/
def Record.runsOut (r : Record) : Bool := r.lifetime == some 1

/-- The car is on the record, as R59 judges it: POSITION_VALID is true and the record overlaps. -/
def State.onRecord (s : State) (r : Record) : Bool :=
  s.odo.positionValid && r.overlapsCar s.odo.position s.carLength

/-- The slots freed at a minute expiry, in ascending order (R59). -/
def State.minuteFrees (s : State) : List (Nat × NoticeEvent) :=
  s.table.live.filterMap fun x =>
    if x.2.runsOut && !s.onRecord x.2 then some (x.1, .expired) else none

/-- A SPEED record becomes EXPIRING at this minute expiry (R63). -/
def State.speedExpires (s : State) : Bool :=
  s.table.live.any fun x => x.2.runsOut && s.onRecord x.2 && x.2.imposes.kind == .speed

/-- The minute expiry (R58, R59, R62, R63). -/
def State.minuteExpiry (s : State) : State :=
  let frees := s.minuteFrees
  let lowered := s.table.slots.map fun o => o.map fun r => r.minute (s.onRecord r)
  let t := ({ s.table with slots := lowered, minuteTimer := none }.freeAll frees).settleTimer
  let s' := ({ s with table := t }).setFlagIf (!frees.isEmpty) .tableChanged
  s'.evaluateIf (!frees.isEmpty || s.speedExpires)

/-! ### Suspension (R61) -/

/-- A STATION-origin DOORS record is suspended while the link status is LINK_LOST (R61). -/
def State.suspended (s : State) (r : Record) : Bool :=
  r.imposes.kind == .doors && r.origin != .vehicle && s.radio.link == .lost

end Sys2Proof.Machine
end

