-- ==== Sys2Proof/Machine/OdometryOps.lean ====
section
/-! DEFINITION. The odometry unit's shared operations (chapter 2): the decoding of an accepted step, the
parts of a counted edge in the order of R20, the capture, the engagement comparison, the marker snap
and the fault latches. -/

namespace Sys2Proof.Machine

/-! ### Fault latches (R39) -/

/-- The three faults of the unit. -/
inductive OdoFault where
  | pinionSensor
  | pinionSlip
  | rollback
deriving DecidableEq, Repr

/-- Whether a fault is latched. -/
def Odometry.latched (o : Odometry) : OdoFault → Bool
  | .pinionSensor => o.pinionSensor
  | .pinionSlip => o.pinionSlip
  | .rollback => o.rollbackLatch

/-- Latch a fault. -/
def Odometry.latch (o : Odometry) : OdoFault → Odometry
  | .pinionSensor => { o with pinionSensor := true }
  | .pinionSlip => { o with pinionSlip := true }
  | .rollback => { o with rollbackLatch := true }

/-- The emergency cause of the same name becomes present (R107). -/
def OdoFault.cause : OdoFault → Causes → Causes
  | .pinionSensor, c => { c with pinionSensor := true }
  | .pinionSlip, c => { c with pinionSlip := true }
  | .rollback, c => { c with rollback := true }

/-- A fault found: when its latch is clear it becomes latched, ODOMETRY_FAULT is set and the fault is
handed to the supervisor; a latched fault changes nothing further (R39, R107). -/
def State.odoFault (f : OdoFault) (s : State) : State :=
  if s.odo.latched f then s
  else (({ s with odo := s.odo.latch f }).setFlag .odometryFault).handCause f.cause

/-! ### The pinion pair (R20, R21) -/

/-- How the pinion pair changed. -/
inductive Step where
  | noChange
  | edge (dir : Dir)
  | illegal
deriving DecidableEq, Repr

/-- The decoding of a step from the pair before and after it (R20, R21). -/
def decodeStep : Bool × Bool → Bool × Bool → Step
  | (false, false), (true, false) => .edge .up
  | (true, false), (true, true) => .edge .up
  | (true, true), (false, true) => .edge .up
  | (false, true), (false, false) => .edge .up
  | (false, false), (false, true) => .edge .down
  | (true, false), (false, false) => .edge .down
  | (true, true), (true, false) => .edge .down
  | (false, true), (true, true) => .edge .down
  | before, after => if before = after then .noChange else .illegal

/-! ### The parts of a counted edge, in the order of R20 -/

/-- An edge that would carry position outside 0..400,000 is withheld (R22). -/
def withheld : Dir → Nat → Bool
  | .up, p => decide (Config.maxPosition ≤ p)
  | .down, p => p == 0

/-- Position after an edge that is not withheld (R22). -/
def movedPosition : Dir → Nat → Nat
  | .up, p => p + 1
  | .down, p => p - 1

/-- Position: a withheld edge sets OFF_PROFILE; any other moves position by one count and is handed to
the table engine (R22). The result says whether the engine freed a record. -/
def State.edgePosition (dir : Dir) (s : State) : State × Bool :=
  if withheld dir s.odo.position then (s.setFlag .offProfile, false)
  else
    State.retireRecords dir
      { s with odo := { s.odo with position := movedPosition dir s.odo.position } }

/-- MOTION and the standstill timer: MOTION becomes true and the timer restarts (R24). The first edge
after standstill hands MOTION true to the brake output unit and the door controller (R40). -/
def State.edgeMotion (s : State) : State :=
  let first := !s.odo.motion
  let s := { s with odo := { s.odo with motion := true, standstillTimer := some (s.param 8) } }
  if first then
    { (s.onBrake fun t b => b.takeMotion t true) with doors := { s.doors with motion := true } }
  else s

/-- A counted edge is a direction change when it differs from the measured direction, and NONE before
it is no direction (R25). -/
def Odometry.changesDirection (o : Odometry) (dir : Dir) : Bool :=
  match o.measured with
  | some d => d != dir
  | none => false

/-- Measured direction: a direction change discards the history, makes speed 0 and restarts the
engagement window (R25, R28, R35). -/
def Odometry.turn (dir : Dir) (o : Odometry) : Odometry :=
  if o.changesDirection dir then
    { o with measured := some dir, history := none, speed := 0, wheelTravel := 0, netCounts := 0 }
  else { o with measured := some dir }

/-- The measured direction of an edge, with speed 0 handed on at a direction change (R25, R40). -/
def State.edgeDirection (dir : Dir) (s : State) : State :=
  let changed := s.odo.changesDirection dir
  let s := { s with odo := s.odo.turn dir }
  if changed then s.handSpeed 0 else s

/-- The speed of a capture of N edges over an interval in µs (R27). -/
def captureSpeed (n micros : Nat) : Nat :=
  min Config.maxSpeed (n * 25000000 / max micros 1 / 10)

/-- The interval between two readings of the microsecond counter, exact below 2^32 µs (section 2.6). -/
def elapsed (now stamp : Micros) : Nat := (now - stamp).toNat

/-- Speed capture: the history after an edge, and the new speed when the edge is a capture that gives
one (R26, R27). -/
def captureEdge (dir : Dir) (n : Nat) (now : Micros) : Option Capture → Capture × Option Nat
  | some h =>
    if h.dir = dir ∧ h.size = n then
      if h.count + 1 = n then (⟨dir, n, 0, now⟩, some (captureSpeed n (elapsed now h.stamp)))
      else ({ h with count := h.count + 1 }, none)
    else (⟨dir, n, 0, now⟩, none)
  | none => (⟨dir, n, 0, now⟩, none)

/-- The capture part of an edge; a new speed is handed to the brake output unit (R26, R27). -/
def State.edgeCapture (dir : Dir) (now : Micros) (s : State) : State :=
  let (h, v) := captureEdge dir s.captureSize now s.odo.history
  let s := { s with odo := { s.odo with history := some h } }
  match v with
  | some v => ({ s with odo := { s.odo with speed := v } }).handSpeed v
  | none => s

/-- The engagement part of an edge: +1 for UP and -1 for DOWN (R33). -/
def Odometry.engage (dir : Dir) (o : Odometry) : Odometry :=
  { o with netCounts := o.netCounts + (match dir with
      | .up => 1
      | .down => -1) }

/-- The rollback count after an edge (R37). -/
def rollbackAfter (selected : Option Dir) (dir : Dir) (count : Nat) : Nat :=
  if selected = some dir then count - 1 else min (count + 1) Config.maxRollback

/-- One counted edge with its parts in the order of R20; the evaluations it starts are made after the
edge has been taken whole (log entry 11). -/
def State.countedEdge (dir : Dir) (now : Micros) (s : State) : State :=
  let (s, freed) := s.edgePosition dir
  let s := ((s.edgeMotion).edgeDirection dir).edgeCapture dir now
  let s := { s with odo := s.odo.engage dir }
  let s := { s with odo := { s.odo with
    rollback := rollbackAfter s.odo.selected dir s.odo.rollback } }
  let s := s.evaluateIf freed
  if s.param 12 < s.odo.rollback then s.odoFault .rollback else s

/-- An illegal transition: the capture history is discarded and PINION_SENSOR is latched (R21). -/
def State.illegalStep (s : State) : State :=
  State.odoFault .pinionSensor { s with odo := { s.odo with history := none } }

/-- The filtered pinion pair takes new levels at a reading of the counter. A pair that does not change
is no accepted step (R19). -/
def State.pinionStep (a b : Bool) (now : Micros) (s : State) : State :=
  let before := (s.odo.pinA.level, s.odo.pinB.level)
  let s := { s with odo := { s.odo with
    pinA := if a == s.odo.pinA.level then s.odo.pinA else s.odo.pinA.accept a
    pinB := if b == s.odo.pinB.level then s.odo.pinB else s.odo.pinB.accept b
    timebase := now } }
  match decodeStep before (a, b) with
  | .noChange => s
  | .edge dir => s.countedEdge dir now
  | .illegal => s.illegalStep

/-! ### Standstill (R24) -/

/-- The unit at entry to standstill (R24, R35). -/
def Odometry.standstill (o : Odometry) : Odometry :=
  { o with
    motion := false, standstillTimer := none, measured := none, speed := 0, history := none
    wheelTravel := 0, netCounts := 0, rollback := 0 }

/-- Entry to standstill, with MOTION false handed before speed 0 (R24, R40; log entry 12). -/
def State.enterStandstill (s : State) : State :=
  let s := { s with odo := s.odo.standstill }
  let s := { (s.onBrake fun t b => b.takeMotion t false) with
    doors := { s.doors with motion := false } }
  s.handSpeed 0

/-! ### The engagement monitor (R33 to R35) -/

/-- The comparison of pinion travel with wheel travel finds a slip (R34). -/
def slips (tolerance wheelMm : Nat) (netCounts : Int) : Bool :=
  let p : Int := netCounts.natAbs * Config.mmPerCount
  decide ((tolerance * wheelMm : Nat) < (p - wheelMm).natAbs * 100)

/-- One WHEEL pulse: the wheel travel grows, and a full window is compared and restarted (R33 to R35).
-/
def State.wheelTurn (s : State) : State :=
  let w := s.odo.wheelTravel + s.param 9
  if w < 1000 * s.param 10 then { s with odo := { s.odo with wheelTravel := w } }
  else
    let slip := slips (s.param 11) w s.odo.netCounts
    let s := { s with odo := { s.odo with wheelTravel := 0, netCounts := 0 } }
    if slip then s.odoFault .pinionSlip else s

/-- An accepted change of WHEEL; the change to high is a pulse and the change to low is not used (R19;
log entry 9). -/
def State.wheelChange (level : Bool) (s : State) : State :=
  let s := { s with odo := { s.odo with wheel := s.odo.wheel.accept level } }
  if level then s.wheelTurn else s

/-! ### The marker snap (R30 to R32) -/

/-- The marker position nearest to the sensor, the lower of two that are equally near; the list is
ascending (R31). -/
def nearest (x : Nat) : List Nat → Option Nat
  | [] => none
  | m :: rest =>
    match nearest x rest with
    | none => some m
    | some n => if (((m : Int) - x).natAbs ≤ ((n : Int) - x).natAbs) then some m else some n

/-- The correction of a snap, if it is made: no greater than the window, and not carrying position below
0 (R31). -/
def snapCorrection (position offset window : Nat) (markers : List Nat) : Option Int :=
  match nearest (position + offset) markers with
  | none => none
  | some m =>
    let c : Int := (m : Int) - ((position + offset : Nat) : Int)
    if c.natAbs ≤ window ∧ 0 ≤ (position : Int) + c then some c else none

/-- A MARKER pulse: taken for a snap in motion with a valid position, and ignored otherwise; a made snap
is an evaluation event and a miss sets MARKER_MISS (R30 to R32). -/
def State.markerPass (s : State) : State :=
  if s.odo.motion && s.odo.positionValid then
    match snapCorrection s.odo.position (s.param 4) (s.param 5) s.profile.markers with
    | some c =>
      State.evaluate { s with odo := { s.odo with
        position := (s.odo.position + c).toNat, lastCorrection := c } }
    | none => s.setFlag .markerMiss
  else s

/-- An accepted change of MARKER; the change to high is a pulse (R19; log entry 9). -/
def State.markerChange (level : Bool) (s : State) : State :=
  let s := { s with odo := { s.odo with marker := s.odo.marker.accept level } }
  if level then s.markerPass else s

/-! ### Acknowledgment and resets -/

/-- The unit takes an accepted emergency acknowledgment (R39). -/
def Odometry.takeAck (o : Odometry) : Odometry :=
  { o with pinionSensor := false, pinionSlip := false, rollbackLatch := false, rollback := 0 }

/-- The unit at SOFT_RESET (section 2.1, R24, R26, R35, R37, R39). -/
def Odometry.softReset (o : Odometry) : Odometry := o.standstill.takeAck

/-- The unit at power-on reset: the filtered levels are taken from the raw inputs (R19), and the
free-running counter runs on (log entry 3). -/
def Odometry.powerOn (o : Odometry) : Odometry :=
  { State.reset.odo with
    pinA := o.pinA.powerOn, pinB := o.pinB.powerOn, wheel := o.wheel.powerOn
    marker := o.marker.powerOn, timebase := o.timebase }

end Sys2Proof.Machine
end

