-- ==== Sys2Proof/Machine/DoorOps.lean ====
section
/-! DEFINITION. The door controller's shared operations (chapter 7): the entries to the door states, one
door's answers to its events, and the effect of a change of doors on the last door event, DOOR_EVENT
and DOORS_SECURE. -/

namespace Sys2Proof.Machine

/-! ### Doors and sides -/

/-- One door of the four. -/
def Doors.get (ds : Doors) : DoorId → Door
  | .d0 => ds.d0
  | .d1 => ds.d1
  | .d2 => ds.d2
  | .d3 => ds.d3

/-- Replace one door. -/
def Doors.put (ds : Doors) (d : Door) : DoorId → Doors
  | .d0 => { ds with d0 := d }
  | .d1 => { ds with d1 := d }
  | .d2 => { ds with d2 := d }
  | .d3 => { ds with d3 := d }

/-- The side a door stands on (section 7.1). -/
def doorSide : DoorId → Side
  | .d0 => .left
  | .d1 => .left
  | .d2 => .right
  | .d3 => .right

/-- The four doors in ascending order. -/
def allDoors : List DoorId := [.d0, .d1, .d2, .d3]

/-- DOORS_SECURE is true exactly when all four doors are LOCKED (R152). -/
def Doors.secure (ds : Doors) : Bool :=
  ds.d0.state == .locked && ds.d1.state == .locked && ds.d2.state == .locked
    && ds.d3.state == .locked

/-- The release state of a side (R139). -/
def Doors.released (ds : Doors) : Side → Bool
  | .left => ds.leftReleased
  | .right => ds.rightReleased

/-- Set the release state of a side. -/
def Doors.setReleased (value : Bool) (ds : Doors) : Side → Doors
  | .left => { ds with leftReleased := value }
  | .right => { ds with rightReleased := value }

/-- The three outputs of a door, fixed by its state: UNLOCK, DRIVE_OPEN, DRIVE_CLOSE (R138). -/
def DoorState.outputs : DoorState → Bool × Bool × Bool
  | .locked => (false, false, false)
  | .unlocked => (true, false, false)
  | .opening => (true, true, false)
  | .opened => (true, false, false)
  | .closing => (true, false, true)
  | .locking => (false, false, false)
  | .held => (true, false, false)
  | .fault => (true, false, false)

/-! ### Entries to the door states -/

/-- What one door writes as a door event: held by an obstruction, or a fault with its cause (R151). -/
inductive DoorNote where
  | held
  | fault (cause : DoorCause)
deriving DecidableEq, Repr

/-- The parameters a door reads: motion time #28, lock time #29, reopen limit #30 (R147, R148). -/
structure DoorTimes where
  motion : Nat
  lock : Nat
  limit : Nat
deriving DecidableEq, Repr

/-- A door after an event, with what it writes. -/
abbrev DoorStep := Door × Option DoorNote

/-- Entry to FAULT: both timers stop (R148, R149). -/
def Door.enterFault (cause : DoorCause) (d : Door) : DoorStep :=
  ({ d with state := .fault, motionTimer := none, lockTimer := none }, some (.fault cause))

/-- Entry to LOCKING: the lock timer starts, and a door with LOCKED already true goes on to LOCKED
(R146, R148). -/
def Door.enterLocking (t : DoorTimes) (d : Door) : Door :=
  if d.locked.level then { d with state := .locked, motionTimer := none, lockTimer := none }
  else { d with state := .locking, motionTimer := none, lockTimer := some t.lock }

/-- Entry to OPENING: the motion timer starts, and a door with OPEN_END already true goes on at once
to OPEN (R143, R148). -/
def Door.enterOpening (t : DoorTimes) (d : Door) : Door :=
  if d.openEnd.level then { d with state := .opened, motionTimer := none, lockTimer := none }
  else { d with state := .opening, motionTimer := some t.motion, lockTimer := none }

/-- CLOSED is judged at entry to CLOSING before OBSTRUCT, or after it when the free constant says so
(R145, R146; log entry 16). -/
def Door.locksAtEntry (d : Door) : Bool :=
  d.closed.level && (!d.obstruct.level || Config.closedBeforeObstruct)

/-- Entry to CLOSING with at most `left` reopenings left: the door locks at once when it is closed; an
obstructed door reopens while reopenings are left, coming back here through OPEN when OPEN_END is
true, and is HELD when none is left (R144, R145, R147). -/
def Door.closeWith (t : DoorTimes) : Nat → Door → DoorStep
  | left, d =>
    if d.locksAtEntry then (d.enterLocking t, none)
    else if d.obstruct.level then
      match left with
      | 0 => ({ d with state := .held, motionTimer := none, lockTimer := none }, some .held)
      | k + 1 =>
        let d := { d with reopen := d.reopen + 1 }
        if d.openEnd.level then Door.closeWith t k { d with reclose := false }
        else ({ d with
          state := .opening, reclose := true, motionTimer := some t.motion, lockTimer := none }, none)
    else ({ d with state := .closing, motionTimer := some t.motion, lockTimer := none }, none)

/-- Entry to CLOSING (R145, R147, R148). -/
def Door.enterClosing (t : DoorTimes) (d : Door) : DoorStep := d.closeWith t (t.limit - d.reopen)

/-- An obstruction of a CLOSING door (R147). -/
def Door.obstructed (t : DoorTimes) (d : Door) : DoorStep :=
  if d.reopen < t.limit then
    let d := { d with reopen := d.reopen + 1 }
    if d.openEnd.level then Door.enterClosing t { d with reclose := false }
    else ({ d with
      state := .opening, reclose := true, motionTimer := some t.motion, lockTimer := none }, none)
  else ({ d with state := .held, motionTimer := none, lockTimer := none }, some .held)

/-! ### One door's answers to its events -/

/-- The opening of an UNLOCKED door by its button or by DOOR_OPEN: the reclose mark is cleared (R143).
-/
def Door.startOpening (t : DoorTimes) (d : Door) : Door :=
  if d.state = .unlocked then Door.enterOpening t { d with reclose := false } else d

/-- A grant moves a LOCKED door to UNLOCKED (R141). -/
def Door.unlock (d : Door) : Door :=
  if d.state = .locked then { d with state := .unlocked } else d

/-- A DOOR_CLOSE at one door of a side it names (R145). -/
def Door.close (t : DoorTimes) (d : Door) : DoorStep :=
  let d := { d with reopen := 0, reclose := false }
  match d.state with
  | .opened => d.enterClosing t
  | .opening => d.enterClosing t
  | .held => d.enterClosing t
  | .unlocked => if d.closed.level then (d.enterLocking t, none) else d.enterClosing t
  | .closing => (d, none)
  | .locking => (d, none)
  | .locked => (d, none)
  | .fault => (d, none)

/-- OPEN_END becomes true (R144). -/
def Door.openEndReached (t : DoorTimes) (d : Door) : DoorStep :=
  match d.state with
  | .opening =>
    if d.reclose then Door.enterClosing t { d with reclose := false }
    else ({ d with state := .opened, motionTimer := none }, none)
  | _ => (d, none)

/-- OBSTRUCT becomes true (R144, R147). -/
def Door.obstructSeen (t : DoorTimes) (d : Door) : DoorStep :=
  match d.state with
  | .closing => d.obstructed t
  | _ => (d, none)

/-- CLOSED changes to a value (R146, R149). -/
def Door.closedChanged (t : DoorTimes) (value : Bool) (d : Door) : DoorStep :=
  match d.state, value with
  | .closing, true => (d.enterLocking t, none)
  | .locking, false => d.enterFault .forced
  | .locked, false => d.enterFault .forced
  | _, _ => (d, none)

/-- LOCKED changes to a value (R146, R149). -/
def Door.lockedChanged (value : Bool) (d : Door) : DoorStep :=
  match d.state, value with
  | .locking, true => ({ d with state := .locked, lockTimer := none }, none)
  | .locked, false => d.enterFault .forced
  | _, _ => (d, none)

/-- The motion timer expires (R148). -/
def Door.motionExpired (d : Door) : DoorStep :=
  match d.state with
  | .opening => d.enterFault .openTime
  | .closing => d.enterFault .closeTime
  | _ => (d, none)

/-- The lock timer expires (R148). -/
def Door.lockExpired (d : Door) : DoorStep :=
  match d.state with
  | .locking => d.enterFault .lockTime
  | _ => (d, none)

/-- A DOOR_RESET at a door in FAULT with CLOSED true (R150). -/
def Door.reset (t : DoorTimes) (d : Door) : Door :=
  Door.enterLocking t { d with reopen := 0, reclose := false }

/-! ### The four doors -/

/-- The door event of one door's note (R151). -/
def DoorNote.event (id : DoorId) : DoorNote → DoorEvent
  | .held => .held id
  | .fault cause => .fault id cause

/-- Let one door take an event; a note is written as the last door event (R151). -/
def Doors.step (f : Door → DoorStep) (id : DoorId) (ds : Doors) : Doors × Bool :=
  let (d, note) := f (ds.get id)
  match note with
  | some n => ({ ds.put d id with lastEvent := n.event id }, true)
  | none => (ds.put d id, false)

/-- Let the doors of some sides take an event, in ascending door order; the result says whether a door
event was written (R151). -/
def Doors.stepSides (sides : List Side) (f : Door → DoorStep) (ds : Doors) : Doors × Bool :=
  allDoors.foldl (fun acc id =>
    if doorSide id ∈ sides then
      let (ds, written) := acc.1.step f id
      (ds, acc.2 || written)
    else acc) (ds, false)

/-- A door operation that writes no event. -/
def Door.quietly (f : Door → Door) (d : Door) : DoorStep := (f d, none)

/-! ### The controller within the part -/

/-- The door parameters as they stand. -/
def State.doorTimes (s : State) : DoorTimes := ⟨s.param 28, s.param 29, s.param 30⟩

/-- The doors after an event: a written door event sets DOOR_EVENT (R151), and a change of DOORS_SECURE
is handed to the brake output unit and to the supervisor, formed after all the doors (R152). -/
def State.commitDoors (x : Doors × Bool) (s : State) : State :=
  let old := s.doors.secure
  let s := ({ s with doors := x.1 }).setFlagIf x.2 .doorEvent
  if x.1.secure = old then s else s.handSecure x.1.secure

/-- One door takes an event. -/
def State.doorEvent (f : DoorTimes → Door → DoorStep) (id : DoorId) (s : State) : State :=
  s.commitDoors (s.doors.step (f s.doorTimes) id)

/-- A record covers the car for a side (R140). -/
def State.covers (s : State) (side : Side) (r : Record) : Bool :=
  match r.imposes with
  | .doors sides =>
    s.odo.positionValid && s.profile.state == .valid && !s.suspended r && sides.includes side
      && decide (r.first ≤ s.odo.position) && decide (s.odo.position + s.carLength ≤ r.last)
  | _ => false

/-- Some live DOORS record covers the car for a side (R140). -/
def State.covered (s : State) (side : Side) : Bool := s.table.live.any fun x => s.covers side x.2

/-- The sides named by a DOOR_CLOSE become NOT_RELEASED and their doors close (R145). -/
def Doors.closeSides (t : DoorTimes) (sides : List Side) (ds : Doors) : Doors × Bool :=
  (sides.foldl (Doors.setReleased false) ds).stepSides sides (Door.close t)

/-- The door states and release states that every door command answers with (R153, R205). -/
def Doors.answer (ds : Doors) : List Byte :=
  u8 (doorStateCode ds.d0.state) ++ u8 (doorStateCode ds.d1.state)
    ++ u8 (doorStateCode ds.d2.state) ++ u8 (doorStateCode ds.d3.state)
    ++ bool ds.leftReleased ++ bool ds.rightReleased

/-! ### Resets (R154) -/

/-- One door at power-on reset: LOCKED when CLOSED and LOCKED are both true, HELD otherwise (R154). -/
def Door.powerOn (d : Door) : Door where
  state := if d.closed.raw && d.locked.raw then .locked else .held
  closed := d.closed.powerOn
  locked := d.locked.powerOn
  openEnd := d.openEnd.powerOn
  obstruct := d.obstruct.powerOn
  button := d.button.powerOn
  reopen := 0
  reclose := false
  motionTimer := none
  lockTimer := none

/-- The controller at power-on reset (R151, R154). -/
def Doors.powerOn (ds : Doors) : Doors :=
  ⟨ds.d0.powerOn, ds.d1.powerOn, ds.d2.powerOn, ds.d3.powerOn, false, false, false, .held .d0⟩

/-- The controller at SOFT_RESET: as by DOOR_CLOSE(ALL), with no event written (R154). -/
def Doors.softReset (t : DoorTimes) (ds : Doors) : Doors :=
  { (ds.closeSides t [.left, .right]).1 with motion := false, lastEvent := .held .d0 }

end Sys2Proof.Machine
end

