-- ==== Sys2Proof/Machine/RadioOps.lean ====
section
/-! DEFINITION. The valley radio controller's shared operations (chapters 8 and 9): link supervision, the
message processor, waiting items, the mode change, the receive assembler, and the end of a
transmission. -/

namespace Sys2Proof.Machine

/-! ### Frame buffers (R159) -/

/-- One of the two frame buffers. -/
def Radio.buf (r : Radio) : BufId → FrameBuffer
  | .buf0 => r.buf0
  | .buf1 => r.buf1

/-- Replace a frame buffer. -/
def Radio.setBuf (r : Radio) (b : FrameBuffer) : BufId → Radio
  | .buf0 => { r with buf0 := b }
  | .buf1 => { r with buf1 := b }

/-- A buffer that becomes FREE loses its content (R159). -/
def FrameBuffer.freed : FrameBuffer := ⟨.free, []⟩

/-- Make a buffer FREE. -/
def Radio.freeBuf (i : BufId) (r : Radio) : Radio := r.setBuf .freed i

/-- The lowest buffer in a state (R160: buffer 0 is taken when both are FREE). -/
def Radio.findBuf (st : BufState) (r : Radio) : Option BufId :=
  if r.buf0.state = st then some .buf0 else if r.buf1.state = st then some .buf1 else none

/-- A buffer moves to another state with its content. -/
def Radio.moveBuf (st : BufState) (i : BufId) (r : Radio) : Radio :=
  r.setBuf { r.buf i with state := st } i

/-! ### Link supervision (R171, R172) -/

/-- The link status takes a value: a change sets LINK, sets the link-lost latch on a loss, and is handed
to the supervisor (R171, R172). -/
def State.setLink (status : LinkStatus) (s : State) : State :=
  if s.radio.link = status then s
  else
    State.evaluate ((s.onRadio fun r => { r with
      link := status, linkLost := r.linkLost || status == .lost }).setFlag .link)

/-- A complete frame in NORMAL or LISTEN restarts the link timer with the link timeout (#31, s) and
makes the link status LINK_OK (R171). -/
def State.linkHeard (s : State) : State :=
  (s.onRadio fun r => { r with linkTimer := some (s.param 31) }).setLink .ok

/-! ### The bodies the car sends (R179, R182, R207) -/

/-- The body of an ANSWER (R207). -/
def answerBody (kindAnswered : Byte) (number : U16) (result : Nat) : List Byte :=
  [kindAnswered] ++ bytes16 number ++ u8 result

/-- The result codes of an ANSWER to an ISSUE (R207). -/
def issueResultCode : IssueResult → Nat
  | .new _ _ => 0
  | .amended _ => 1
  | .value => 2
  | .kind _ _ => 3
  | .full => 4

/-- The body of a POSITION_REPORT as things stand (R182, R207). -/
def State.positionReport (s : State) : List Byte :=
  u24 s.odo.position
    ++ u8 (maskOf [s.odo.positionValid, s.doors.secure, s.radio.linkLost])
    ++ u8 (dirCode s.odo.measured) ++ u16 s.odo.speed ++ u8 (supCode s.sup.state)
    ++ u16 s.sup.permitted ++ u8 s.table.count

/-- The body of a POSITION_REPORT carries the link-lost latch set (R172, R207). -/
def carriesLinkLost (body : List Byte) : Bool := (body.getD 3 0).getLsbD 2

/-- The live records of a station, in ascending slot order (R67). -/
def Table.recordsOf (origin : Origin) (t : Table) : List Record :=
  (t.live.map Prod.snd).filter fun r => decide (r.origin = origin)

/-- The body of a TABLE_REPORT to a station (R67, R207). -/
def State.tableReport (n : Nat) (s : State) : List Byte :=
  let rs := s.table.recordsOf (.station n)
  u8 rs.length ++ bool (decide (Config.reportEntries < rs.length))
    ++ (rs.take Config.reportEntries).flatMap fun r => u16 r.number ++ u8 (kindCode r.imposes.kind)

/-! ### The message processor (R176 to R181) -/

/-- A frame as the processor reads it from a complete content. -/
structure Frame where
  destination : Byte
  source : Byte
  kind : Byte
  body : List Byte
deriving DecidableEq, Repr

/-- The frame in a complete content: four header bytes, the body, and two check bytes (R206). -/
def frameOf (content : List Byte) : Frame :=
  ⟨content.getD 0 0, content.getD 1 0, content.getD 2 0, (content.drop 4).take (content.length - 6)⟩

/-- A frame is addressed to the car rather than broadcast (R163, R176). -/
def Frame.addressed (f : Frame) : Bool := f.destination != 0

/-- Deliver a frame to the host mailbox as its youngest entry and set MAILBOX, when there is room; the
result says whether it was delivered (R180, R181, R191). -/
def State.deliver (f : Frame) (s : State) : State × Bool :=
  if s.radio.mailbox.length < Config.mailboxSize then
    ((s.onRadio fun r => { r with
      mailbox := r.mailbox ++ [⟨f.kind, f.source, f.addressed, f.body⟩] }).setFlag .mailbox, true)
  else (s, false)

/-- The station a frame comes from. -/
def Frame.station (f : Frame) : Nat := f.source.toNat

/-- What the processor does with an ISSUE frame, and the answer's body (R178). -/
def State.processIssue (f : Frame) (b : IssueBody) (s : State) : State × Byte × List Byte :=
  let (s, result) := s.issueRecord .radio (.station f.station) b
  (s, kindAnswer, answerBody kindIssue b.number (issueResultCode result))

/-- What the processor does with a REVOKE frame, and the answer's body (R54, R178). -/
def State.processRevoke (f : Frame) (number : U16) (s : State) : State × Byte × List Byte :=
  match s.table.find (.station f.station) number.toNat with
  | some slot => (s.revokeSlot slot, kindAnswer, answerBody kindRevoke number 5)
  | none => (s, kindAnswer, answerBody kindRevoke number 6)

/-- What the processor does with a TEXT frame, and the answer's body (R180). -/
def State.processText (f : Frame) (s : State) : State × Byte × List Byte :=
  let (s, delivered) := s.deliver f
  (s, kindAnswer, answerBody kindText 0 (if delivered then 7 else 8))

/-- What the processor does with a frame from a station: the changes at the handover, and the kind and
body of the frame that answers it, if its kind is answered. A frame that is not used gives neither
(R177 to R180). -/
def State.processStation (f : Frame) (s : State) : State × Option (Byte × List Byte) :=
  if f.kind = kindIssue then
    match issueOfBytes f.body with
    | some b => let (s, k, body) := s.processIssue f b; (s, some (k, body))
    | none => (s, none)
  else if f.kind = kindRevoke then
    match f.body with
    | [h, l] => let (s, k, body) := s.processRevoke f (word16 h l); (s, some (k, body))
    | _ => (s, none)
  else if f.kind = kindPoll ∧ f.body = [] then (s, some (kindPositionReport, s.positionReport))
  else if f.kind = kindTableQuery ∧ f.body = [] then
    (s, some (kindTableReport, s.tableReport f.station))
  else if f.kind = kindText then
    let (s, k, body) := s.processText f; (s, some (k, body))
  else (s, none)

/-- Place an answer in the queue with priority 3; a placed entry is a start event (R173, R182). -/
def State.placeAnswer (a : Answer) (s : State) : State :=
  (s.onRadio (Radio.place a.kind 3 .part a.destination a.body false)).judgeStart

/-- The processor takes a frame: its work at the handover, and its answer when the frame is addressed
and the mode NORMAL. The result says whether the processing has finished; it has not while the answer
waits for a slot (R176). -/
def State.processFrame (f : Frame) (s : State) : State × Bool :=
  let s := s.onRadio fun r => { r with busy := true }
  if s.radio.current = .selftest then ((s.deliver f).1, true)
  else
    let (s, reply) := s.processStation f
    match reply with
    | some (kind, body) =>
      if f.addressed ∧ s.radio.current = .normal then
        let a : Answer := ⟨kind, f.source, body⟩
        if s.radio.hasRoom then (s.placeAnswer a, true)
        else (s.onRadio fun r => { r with waiting := some a }, false)
      else (s, true)
    | none => (s, true)

/-- The processor takes the frame of a buffer, finishes when it can, and takes the HELD frame at the
finish; the bound is the number of frames that can be taken, two (R164, R176). -/
def State.takeFrames : Nat → BufId → State → State
  | 0, _, s => s
  | n + 1, i, s =>
    let s := s.onRadio (Radio.moveBuf .processing i)
    let (s, finished) := s.processFrame (frameOf (s.radio.buf i).content)
    if finished then
      let s := s.onRadio (Radio.freeBuf i)
      match s.radio.findBuf .held with
      | some j => State.takeFrames n j s
      | none => s.onRadio fun r => { r with busy := false }
    else s

/-- The finish of the frame in the PROCESSING buffer: the buffer becomes FREE, and a HELD frame is taken
at the same event (R164). -/
def State.finishProcessing (s : State) : State :=
  let s := match s.radio.findBuf .processing with
    | some i => s.onRadio (Radio.freeBuf i)
    | none => s
  match s.radio.findBuf .held with
  | some j => s.takeFrames 2 j
  | none => s.onRadio fun r => { r with busy := false }

/-- A complete frame is handed on: taken at once by an idle processor, HELD otherwise (R163). -/
def State.handFrame (i : BufId) (s : State) : State :=
  if s.radio.busy then s.onRadio (Radio.moveBuf .held i) else s.takeFrames 2 i

/-! ### Waiting items (R185) -/

/-- The pending alarm takes a free slot (R185, R186). -/
def State.placePending (s : State) : State :=
  match s.radio.pendingAlarm with
  | some body =>
    if s.radio.current.places && s.radio.hasRoom then
      s.onRadio fun r => { r.placeAlarm body with pendingAlarm := none }
    else s
  | none => s

/-- The waiting answer takes a free slot, which finishes the processing (R176, R185). -/
def State.placeWaitingAnswer (s : State) : State :=
  match s.radio.waiting with
  | some a =>
    if s.radio.current.places && s.radio.hasRoom then
      State.finishProcessing (s.onRadio fun r =>
        { r.place a.kind 3 .part a.destination a.body false with waiting := none })
    else s
  | none => s

/-- At an event that leaves a slot free, waiting items are placed: the pending alarm first, then the
waiting answer (R185). -/
def State.placeWaiting (s : State) : State := s.placePending.placeWaitingAnswer

/-! ### The mode change (R167, R168) -/

/-- On entry to OFF or CONFIG: unsent frames are discarded, the pending alarm is cleared, a HELD frame
is discarded, and a processing that waits ends (R168). -/
def State.enterQuietMode (s : State) : State :=
  let s := s.removeEntries (fun e => !e.started) .discarded
  s.onRadio fun r => { r with
    pendingAlarm := none, waiting := none, busy := false
    buf0 := if r.buf0.state = .assembling then r.buf0 else .freed
    buf1 := if r.buf1.state = .assembling then r.buf1 else .freed }

/-- Make a HELD frame's buffer FREE (R168). -/
def Radio.discardHeld (r : Radio) : Radio :=
  match r.findBuf .held with
  | some i => r.freeBuf i
  | none => r

/-- Whether an entry discards a HELD frame: into SELFTEST, and from SELFTEST into NORMAL or LISTEN
(R168). -/
def discardsHeld (old new : LinkMode) : Bool :=
  new == .selftest || (old == .selftest && (new == .normal || new == .listen))

/-- The current mode becomes the requested mode, with the entry effects of the new mode: RADIO is set,
the link status becomes LINK_LOST and the link timer stops, and waiting items are placed; a loss of
the link is handed to the supervisor last (R167, R168, R171, R185; log entry 13). -/
def State.changeMode (s : State) : State :=
  let old := s.radio.current
  let new := s.radio.requested
  let s := (s.onRadio fun r => { r with current := new, markLatch := false, linkTimer := none }).setFlag
    .radio
  let s :=
    if new = .off ∨ new = .config then s.enterQuietMode
    else if discardsHeld old new then s.onRadio Radio.discardHeld
    else s
  let lost := decide (s.radio.link = .ok)
  let s := s.onRadio fun r => { r with link := .lost, linkLost := r.linkLost || lost }
  let s := s.setFlagIf lost .link
  (s.placeWaiting.evaluateIf lost).startFrame

/-- The waiting change is made when the line is quiet (R167). -/
def State.judgeMode (s : State) : State :=
  if s.radio.changeWaits && s.radio.quiet then s.changeMode else s

/-- An event that leaves the line quiet, or may: a FRAME_END, an abort, or the end of a transmission. A
waiting mode change and a start may both be possible then, and the free value says which is taken
first (R167, R173; log entry 14). -/
def State.lineEvent (s : State) : State :=
  if s.radio.changeWaits && s.radio.quiet then
    if s.radio.canStart then
      let first := Config.transmitterFirst s.free
      let s := { s with free := s.free + 1 }
      if first then s.startFrame else s.changeMode
    else s.changeMode
  else s.judgeStart

/-! ### The receive assembler (R156 to R165) -/

/-- A receive error records its kind and sets RADIO_RX_ERROR (R165). -/
def State.rxError (e : RxError) (s : State) : State :=
  (s.onRadio fun r => { r with lastError := some e }).setFlag .radioRxError

/-- An abort: the ASSEMBLING buffer becomes FREE, the assembler OUTSIDE, the silence timer stops, and
the error kind is recorded (R161). -/
def State.abortFrame (e : RxError) (i : BufId) (s : State) : State :=
  (s.onRadio fun r => { r.freeBuf i with assembler := none, silence := none }).rxError e

/-- What the mark decoding gives for a byte (R157). -/
inductive Symbol where
  | nothing
  | data (b : Byte)
  | frameStart
  | frameEnd
  | symbolError
deriving DecidableEq, Repr

/-- The mark decoding of a byte with the latch, and the latch after it (R157). -/
def decodeMark (latch : Bool) (b : Byte) : Symbol × Bool :=
  if latch then
    if b = markByte then (.data markByte, false)
    else if b = startByte then (.frameStart, false)
    else if b = endByte then (.frameEnd, false)
    else (.symbolError, false)
  else if b = markByte then (.nothing, true)
  else (.data b, false)

/-- A FRAME_START at the assembler (R160). -/
def State.takeFrameStart (s : State) : State :=
  match s.radio.assembler with
  | some i => s.onRadio (Radio.setBuf · ⟨.assembling, []⟩ i)
  | none =>
    match s.radio.findBuf .free with
    | some i => s.onRadio fun r => { r.setBuf ⟨.assembling, []⟩ i with assembler := some i }
    | none => s.rxError .receiveOverrun

/-- A data byte at the assembler: appended INSIDE a frame, with an abort at the 65th, and ignored
OUTSIDE (R161). -/
def State.takeData (b : Byte) (s : State) : State :=
  match s.radio.assembler with
  | some i =>
    let c := (s.radio.buf i).content
    if c.length < Config.bufferSize then s.onRadio (Radio.setBuf · ⟨.assembling, c ++ [b]⟩ i)
    else s.abortFrame .oversize i
  | none => s

/-- The checks of a frame at its FRAME_END, in order; none when it passes (R162). -/
def checkContent (c : List Byte) : Option RxError :=
  let n := c.length
  let len := (c.getD 3 0).toNat
  if n < 6 then some .short
  else if Config.maxBody < len then some .long
  else if len + 6 < n then some .long
  else if n < len + 6 then some .short
  else if word16 (c.getD (n - 2) 0) (c.getD (n - 1) 0) = checkValue (c.take (n - 2)) then none
  else some .checkError

/-- The addressing check: addressed to the car or to all, from a station (R163). -/
def State.addressingPasses (s : State) (f : Frame) : Bool :=
  (f.destination == s.carAddress || f.destination == 0)
    && decide (1 ≤ f.source.toNat) && decide (f.source.toNat ≤ 15)

/-- A frame that passed R162: in SELFTEST it is complete; otherwise it is dropped when it fails the
addressing check, and when it passes it is complete, restarts the link timer and is handed on (R163,
R169). -/
def State.frameChecked (i : BufId) (s : State) : State :=
  if s.radio.current = .selftest then s.handFrame i
  else if s.addressingPasses (frameOf (s.radio.buf i).content) then s.linkHeard.handFrame i
  else s.onRadio (Radio.freeBuf i)

/-- A FRAME_END at the assembler: OUTSIDE it is ignored; INSIDE the assembler goes OUTSIDE and the frame
is checked (R162). -/
def State.takeFrameEnd (s : State) : State :=
  match s.radio.assembler with
  | some i =>
    let s := s.onRadio fun r => { r with assembler := none, silence := none }
    match checkContent (s.radio.buf i).content with
    | some e => (s.onRadio (Radio.freeBuf i)).rxError e
    | none => s.frameChecked i
  | none => s

/-- A symbol at the assembler (R157, R159 to R163). -/
def State.takeSymbol (x : Symbol) (s : State) : State :=
  match x with
  | .nothing => s
  | .data b => s.takeData b
  | .frameStart => s.takeFrameStart
  | .frameEnd => s.takeFrameEnd
  | .symbolError =>
    match s.radio.assembler with
    | some i => s.abortFrame .symbolError i
    | none => s

/-- A line error: the mark latch becomes clear, and a frame being assembled is aborted (R156). -/
def State.takeLineError (s : State) : State :=
  let s := s.onRadio fun r => { r with markLatch := false }
  match s.radio.assembler with
  | some i => s.abortFrame .lineError i
  | none => s

/-- A received byte in error or not (R156, R157). The silence timer restarts while the assembler stays
INSIDE (R161), and a frame that ends here is an event that may leave the line quiet (R167, R173). -/
def State.takeByte (b : Byte) (inError : Bool) (s : State) : State :=
  let wasInside := s.radio.assembler.isSome
  let s :=
    if inError then s.takeLineError
    else
      let (x, latch) := decodeMark s.radio.markLatch b
      State.takeSymbol x (s.onRadio fun r => { r with markLatch := latch })
  let s := s.onRadio fun r => { r with
    silence := if r.assembler.isSome then some Config.silenceTime else none }
  if wasInside && s.radio.assembler.isNone then s.lineEvent else s

/-- The next looped byte: the head of the line bytes not yet handed to the receiver, checked as a byte
from the modem is (R156, R169). -/
def State.takeLooped (s : State) : State :=
  match s.radio.current, s.radio.tx with
  | .selftest, some t =>
    match t.line with
    | x :: rest =>
      State.takeByte x.data (byteInError (s.param 2) x.data (x.parity.getD false) true)
        (s.onRadio fun r => { r with tx := some { t with line := rest } })
    | [] => s
  | _, _ => s

/-- Every line byte of the frame in flight that has not been looped yet, in order (R169). -/
def State.loopRest (s : State) : State :=
  match s.radio.tx with
  | some t => t.line.foldl (fun s _ => s.takeLooped) s
  | none => s

/-! ### Whole frames -/

/-- A whole frame arrives from the modem without a receive error: its FRAME_START, its content and its
FRAME_END, as R157 to R163 take them. It is taken in NORMAL and LISTEN only (R156, R168). Log
entry 18. -/
def State.frameArrives (destination source kind : Byte) (body : List Byte) (s : State) : State :=
  if s.radio.current = .normal ∨ s.radio.current = .listen then
    let s := s.onRadio fun r => { r with markLatch := false }
    let s := s.takeFrameStart
    match s.radio.assembler with
    | some i =>
      let c := frameContent destination source kind body
      if c.length ≤ Config.bufferSize then
        (s.onRadio (Radio.setBuf · ⟨.assembling, c⟩ i)).takeFrameEnd.lineEvent
      else (s.abortFrame .oversize i).lineEvent
    | none => s
  else s

/-! ### The end of a transmission (R174) -/

/-- The started entry leaves the queue with its report, and a POSITION_REPORT that carried the link-lost
latch clears it (R172, R174, R190). -/
def State.endEntry (s : State) : State :=
  match s.radio.queue.find? QueueEntry.started with
  | some e =>
    let s := s.removeFirst QueueEntry.started .sent
    if e.kind = kindPositionReport ∧ carriesLinkLost e.body then
      s.onRadio fun r => { r with linkLost := false }
    else s
  | none => s

/-- The end of a transmission: the transmitter is IDLE, KEY is released, and the started entry ends
(R174, R184). -/
def State.finishTransmission (s : State) : State :=
  match s.radio.tx with
  | none => s
  | some _ => (s.onRadio fun r => { r with tx := none, key := false }).endEntry

/-! ### Spontaneous reports (R187) -/

/-- An unsent spontaneous POSITION_REPORT. -/
def QueueEntry.unsentReport (e : QueueEntry) : Bool := e.spontaneous && !e.started

/-- The report at an expiry of the report timer: the queued one refreshed, or a new one placed when a
slot is free (R187). -/
def State.makeReport (s : State) : State :=
  if !s.radio.current.places then s
  else
    let body := s.positionReport
    if s.radio.queue.any QueueEntry.unsentReport then
      s.onRadio fun r => { r with
        queue := r.queue.map fun e => if e.unsentReport then { e with body := body } else e }
    else if s.radio.hasRoom then
      (s.onRadio (Radio.place kindPositionReport 1 .part 0 body true)).judgeStart
    else s

/-- The report timer as a value of #32 starts it: running with it, or stopped at 0 (R187). -/
def reportTimerOf (interval : Nat) : Option Nat := if interval = 0 then none else some interval

/-! ### Resets (R175, R192) -/

/-- The controller after either reset: the CARRIER level stays as the input is, and the report timer is
started when #32 is not 0 (R175, R187, R192). -/
def Radio.afterReset (interval : Nat) (carrier : Bool) : Radio :=
  { State.reset.radio with carrier := carrier, reportTimer := reportTimerOf interval }

end Sys2Proof.Machine
end

