-- ==== Sys2Proof/Machine/BrakeCommands.lean ====
section
/-! DEFINITION. The commands of the brake output unit (chapter 6): BRAKE_DEMAND, the accepted changes of its
inputs and its four timers. -/

namespace Sys2Proof.Machine

/-- The stored host demand as the response carries it (R121, R205). -/
def Brake.stored (b : Brake) : List Byte := u8 b.hostLevel ++ bool b.hostRelease

/-- BRAKE_DEMAND (R121). -/
def execBrakeDemand (level release : Byte) (s : State) : Result :=
  let params := [level, release]
  hostRequest 0x38 params s <|
    match yesNoOfCode release with
    | none => answer 0x38 params .badValue s.brake.stored s
    | some r =>
      let s' := s.onBrake fun t b => b.takeDemand t (min level.toNat 100) r
      answer 0x38 params (if 100 < level.toNat then .okClamped else .ok) s'.brake.stored s'

/-- EMERG_IN_ASSERTED: the unit acts at the assertion, and hands it to the supervisor (R120, R108). -/
def execEmergInAsserted (s : State) : Result :=
  s.unlessReset s <|
    .next (if s.brake.emergAsserted then s
      else (s.onBrake fun t b => b.takeEmergAsserted t).handEmergIn true)

/-- EMERG_IN_RELEASED (R120, R108). -/
def execEmergInReleased (s : State) : Result :=
  s.unlessReset s <|
    .next (if s.brake.emergAsserted then
        (s.onBrake fun t b => b.takeEmergReleased t).handEmergIn false
      else s)

/-- LOOP_SENSE_CHANGE (R132). -/
def execLoopSenseChange (level : Bool) (s : State) : Result :=
  s.unlessReset s <|
    .next (if level = s.brake.loopSense.level then s
      else s.onBrake fun _ b => b.takeLoopSense level)

/-- BAND_SENSE_CHANGE (R124, R130). -/
def execBandSenseChange (level : Bool) (s : State) : Result :=
  s.unlessReset s <|
    .next (if level = s.brake.bandSense.level then s
      else s.onBrake fun t b => b.takeBandSense t level)

/-- RAMP_TIMER_EXPIRY (R123). -/
def execRampTimerExpiry (s : State) : Result :=
  s.unlessReset s <|
    .next (if s.brake.ramp.isSome then s.onBrake fun _ b => b.rampStep (s.param 26) else s)

/-- OVERLAP_TIMER_EXPIRY (R128). -/
def execOverlapTimerExpiry (s : State) : Result :=
  s.unlessReset s <|
    .next (if s.brake.overlap.isSome then s.onBrake fun t b => b.endOverlap.reform t else s)

/-- A brake fault is latched: BRAKE_FAULT is set and the fault is handed to the supervisor (R131, R132,
R107). -/
def State.brakeFault (latch : Brake → Brake) (cause : Causes → Causes) (s : State) : State :=
  (({ s with brake := latch s.brake }).setFlag .brakeFault).handCause cause

/-- The band apply timer expires: BAND_FAULT is latched when it is clear (R131). -/
def State.bandApplyExpiry (s : State) : State :=
  let s := { s with brake := { s.brake with bandTimer := none } }
  if s.brake.bandFault then s
  else s.brakeFault (fun b => { b with bandFault := true }) fun c => { c with bandFault := true }

/-- The loop agreement timer expires: LOOP_FAULT is latched when it is clear (R132). -/
def State.loopAgreementExpiry (s : State) : State :=
  let s := { s with brake := { s.brake with loopTimer := none } }
  if s.brake.loopFault then s
  else s.brakeFault (fun b => { b with loopFault := true }) fun c => { c with loopFault := true }

/-- BAND_APPLY_TIMER_EXPIRY (R131). -/
def execBandApplyTimerExpiry (s : State) : Result :=
  s.unlessReset s (.next (if s.brake.bandTimer.isSome then s.bandApplyExpiry else s))

/-- LOOP_AGREEMENT_TIMER_EXPIRY (R132). -/
def execLoopAgreementTimerExpiry (s : State) : Result :=
  s.unlessReset s (.next (if s.brake.loopTimer.isSome then s.loopAgreementExpiry else s))

end Sys2Proof.Machine
end

