-- ==== Sys2Proof/Machine/DoorCommands.lean ====
section
/-! DEFINITION. The commands of the door controller (chapter 7): the four host commands, the accepted changes of
the door inputs and the two timers of each door. -/

namespace Sys2Proof.Machine

/-- The answer of a door command: every status carries the door states and the release states as they
stand after the command (R153, R205). -/
def doorAnswer (code : Byte) (params : List Byte) (status : Status) (s : State) : Result :=
  answer code params status s.doors.answer s

/-- The last door event and DOOR_EVENT of an override grant (R141, R151). -/
def State.noteOverride (side : Side) (s : State) : State :=
  State.setFlag .doorEvent { s with doors := { s.doors with lastEvent := .override side } }

/-- An accepted DOOR_RELEASE: the side is RELEASED and its LOCKED doors are UNLOCKED (R141). -/
def State.grant (side : Side) (override : Bool) (s : State) : State :=
  let s := if override then s.noteOverride side else s
  s.commitDoors ((s.doors.setReleased true side).stepSides [side] (Door.quietly Door.unlock))

/-- DOOR_RELEASE (R140, R141). -/
def execDoorRelease (side override : Byte) (s : State) : Result :=
  let params := [side, override]
  hostRequest 0x30 params s <|
    match sideOfCode side, yesNoOfCode override with
    | some d, some o =>
      if s.doors.motion then doorAnswer 0x30 params .moving s
      else if s.brake.bandState ≠ .applied then doorAnswer 0x30 params .brakeNotHeld s
      else if o || s.covered d then doorAnswer 0x30 params .ok (s.grant d o)
      else doorAnswer 0x30 params .noRelease s
    | _, _ => doorAnswer 0x30 params .badValue s

/-- DOOR_OPEN (R143). -/
def execDoorOpen (side : Byte) (s : State) : Result :=
  hostRequest 0x31 [side] s <|
    match sideOfCode side with
    | none => doorAnswer 0x31 [side] .badValue s
    | some d =>
      if s.doors.motion then doorAnswer 0x31 [side] .moving s
      else if s.doors.released d then
        doorAnswer 0x31 [side] .ok
          (s.commitDoors (s.doors.stepSides [d] (Door.quietly (Door.startOpening s.doorTimes))))
      else doorAnswer 0x31 [side] .noRelease s

/-- DOOR_CLOSE (R145). -/
def execDoorClose (side : Byte) (s : State) : Result :=
  hostRequest 0x32 [side] s <|
    match closeSidesOfCode side with
    | none => doorAnswer 0x32 [side] .badValue s
    | some sides =>
      doorAnswer 0x32 [side] .ok (s.commitDoors (s.doors.closeSides s.doorTimes sides))

/-- DOOR_RESET (R150). -/
def execDoorReset (door : Byte) (s : State) : Result :=
  hostRequest 0x33 [door] s <|
    match doorOfCode door with
    | none => doorAnswer 0x33 [door] .badValue s
    | some id =>
      let d := s.doors.get id
      if d.state = .fault ∧ d.closed.level then
        doorAnswer 0x33 [door] .ok (s.doorEvent (fun t => Door.quietly (Door.reset t)) id)
      else doorAnswer 0x33 [door] .wrongState s

/-! ### Accepted changes of the inputs -/

/-- DOOR_BUTTON_PRESS: a press opens an UNLOCKED door while the kept MOTION is false; the change back is
not used (R137, R143). -/
def execDoorButtonPress (door : DoorId) (level : Bool) (s : State) : Result :=
  s.unlessReset s <|
    if level = (s.doors.get door).button.level then .next s
    else
      .next (s.doorEvent (fun t => Door.quietly fun d =>
        let d := { d with button := d.button.accept level }
        if level && !s.doors.motion then d.startOpening t else d) door)

/-- DOOR_OBSTRUCTION: the change of OBSTRUCT to true obstructs a CLOSING door (R137, R147). -/
def execDoorObstruction (door : DoorId) (level : Bool) (s : State) : Result :=
  s.unlessReset s <|
    if level = (s.doors.get door).obstruct.level then .next s
    else
      .next (s.doorEvent (fun t d =>
        let d := { d with obstruct := d.obstruct.accept level }
        if level then d.obstructSeen t else (d, none)) door)

/-- DOOR_OPEN_END: OPEN_END becoming true ends an OPENING (R144). -/
def execDoorOpenEnd (door : DoorId) (level : Bool) (s : State) : Result :=
  s.unlessReset s <|
    if level = (s.doors.get door).openEnd.level then .next s
    else
      .next (s.doorEvent (fun t d =>
        let d := { d with openEnd := d.openEnd.accept level }
        if level then d.openEndReached t else (d, none)) door)

/-- DOOR_CLOSED_CHANGE (R146, R149). -/
def execDoorClosedChange (door : DoorId) (level : Bool) (s : State) : Result :=
  s.unlessReset s <|
    if level = (s.doors.get door).closed.level then .next s
    else
      .next (s.doorEvent (fun t d =>
        Door.closedChanged t level { d with closed := d.closed.accept level }) door)

/-- DOOR_LOCKED_CHANGE (R146, R149). -/
def execDoorLockedChange (door : DoorId) (level : Bool) (s : State) : Result :=
  s.unlessReset s <|
    if level = (s.doors.get door).locked.level then .next s
    else
      .next (s.doorEvent (fun _ d =>
        Door.lockedChanged level { d with locked := d.locked.accept level }) door)

/-! ### Timers (R148) -/

/-- DOOR_MOTION_TIMER_EXPIRY (R148). -/
def execDoorMotionTimerExpiry (door : DoorId) (s : State) : Result :=
  s.unlessReset s <|
    .next (if (s.doors.get door).motionTimer.isSome then
        s.doorEvent (fun _ d => Door.motionExpired { d with motionTimer := none }) door
      else s)

/-- DOOR_LOCK_TIMER_EXPIRY (R148). -/
def execDoorLockTimerExpiry (door : DoorId) (s : State) : Result :=
  s.unlessReset s <|
    .next (if (s.doors.get door).lockTimer.isSome then
        s.doorEvent (fun _ d => Door.lockExpired { d with lockTimer := none }) door
      else s)

end Sys2Proof.Machine
end

