-- ==== Sys2Proof/Machine/MessageCommands.lean ====
section
/-! DEFINITION. The commands of the radio's message side (chapter 9): RADIO_SEND, the aborts, the mailbox, the
whole frames that a station sends, the looped frame, and the report timer. -/

namespace Sys2Proof.Machine

/-! ### Host frames (R188, R189) -/

/-- A destination that a host frame may name (R188). -/
def destinationAllowed (d : Byte) : Bool :=
  decide (d.toNat ≤ 15) || (decide (32 ≤ d.toNat) && decide (d.toNat ≤ 95))

/-- The refusal of a RADIO_SEND: by the port when its frame is too long (checks 2 and 5 of R195), then
by R188 in order; none when it is accepted. -/
def State.sendRefusal (destination : Byte) (body : List Byte) (s : State) : Option Status :=
  if Config.maxRequestLength < body.length + 2 then some .frameError
  else if Config.maxBody < body.length then some .badValue
  else if !s.radio.current.places then some .wrongMode
  else if !destinationAllowed destination then some .badValue
  else if !s.radio.hasRoom then some .queueFull
  else none

/-- RADIO_SEND (R188): an accepted frame is placed with origin VEHICLE, and its placement is a start
event (R173). -/
def execRadioSend (destination priority : Byte) (body : List Byte) (s : State) : Result :=
  let params := destination :: priority :: body
  hostRequest 0x41 params s <|
    match s.sendRefusal destination body with
    | some refusal => answer 0x41 params refusal [] s
    | none =>
      answer 0x41 params (if 2 < priority.toNat then .okClamped else .ok) (u8 s.radio.nextHandle)
        (s.onRadio fun r =>
          r.place kindText (min priority.toNat 2) .vehicle destination body false).judgeStart

/-- An entry that a host abort may remove (R189). -/
def QueueEntry.abortable (e : QueueEntry) : Bool :=
  !e.started && match e.origin with
    | .vehicle => true
    | .part => false

/-- RADIO_ABORT: the entry with the handle leaves with report ABORTED when it is an unsent VEHICLE
entry, and the freed slot is offered to waiting items (R185, R189, R190). -/
def execRadioAbort (handle : Byte) (s : State) : Result :=
  hostRequest 0x42 [handle] s <|
    let named := fun e : QueueEntry => e.handle == handle.toNat
    match s.radio.queue.find? named with
    | none => answer 0x42 [handle] .notFound [] s
    | some e =>
      if e.abortable then
        answer 0x42 [handle] .ok [] (s.removeFirst named .aborted).placeWaiting.judgeStart
      else answer 0x42 [handle] .wrongState [] s

/-- RADIO_ABORT_ALL: every unsent VEHICLE entry leaves with report ABORTED, and the freed slots are
offered to waiting items (R185, R189, R190). -/
def execRadioAbortAll (s : State) : Result :=
  hostRequest 0x43 [] s <|
    answer 0x43 [] .ok (u8 (s.radio.queue.filter QueueEntry.abortable).length)
      (s.removeEntries QueueEntry.abortable .aborted).placeWaiting.judgeStart

/-! ### The mailbox (R191) -/

/-- A mailbox entry as MAILBOX_READ sends it (R205). -/
def MailEntry.item (m : MailEntry) : List Byte :=
  [m.kind, m.source] ++ bool m.addressed ++ u8 m.body.length ++ m.body

/-- MAILBOX_READ (R191). -/
def execMailboxRead (s : State) : Result :=
  hostRequest 0x44 [] s <|
    match s.radio.mailbox with
    | [] => answer 0x44 [] .empty [] s
    | m :: rest => answer 0x44 [] .ok (u8 (rest.length + 1) ++ m.item) s

/-- MAILBOX_RELEASE (R191). -/
def execMailboxRelease (s : State) : Result :=
  hostRequest 0x45 [] s <|
    match s.radio.mailbox with
    | [] => answer 0x45 [] .empty [] s
    | _ :: rest =>
      answer 0x45 [] .ok (u8 rest.length) (s.onRadio fun r => { r with mailbox := rest })

/-! ### Frames from stations (R176 to R180; log entry 18) -/

/-- ISSUE: an ISSUE frame arrives (R178). -/
def execIssue (destination source : Byte) (body : IssueBody) (s : State) : Result :=
  s.unlessReset s (.next (s.frameArrives destination source kindIssue (issueBytes body)))

/-- REVOKE: a REVOKE frame arrives (R54, R178). -/
def execRevoke (destination source : Byte) (number : U16) (s : State) : Result :=
  s.unlessReset s (.next (s.frameArrives destination source kindRevoke (bytes16 number)))

/-- POLL: a POLL frame arrives (R179). -/
def execPoll (destination source : Byte) (s : State) : Result :=
  s.unlessReset s (.next (s.frameArrives destination source kindPoll []))

/-- TABLE_QUERY: a TABLE_QUERY frame arrives (R67, R179). -/
def execTableQuery (destination source : Byte) (s : State) : Result :=
  s.unlessReset s (.next (s.frameArrives destination source kindTableQuery []))

/-- TEXT: a TEXT frame arrives (R180). -/
def execText (destination source : Byte) (body : List Byte) (s : State) : Result :=
  s.unlessReset s (.next (s.frameArrives destination source kindText body))

/-- LINK_CHECK: a LINK_CHECK frame arrives (R171, R180). -/
def execLinkCheck (destination source : Byte) (s : State) : Result :=
  s.unlessReset s (.next (s.frameArrives destination source kindLinkCheck []))

/-- FRAME_NOT_USED: a frame of an unknown kind or a wrong body length arrives (R177). -/
def execFrameNotUsed (destination source kind : Byte) (body : List Byte) (s : State) : Result :=
  s.unlessReset s (.next (s.frameArrives destination source kind body))

/-- LOOPED_FRAME: in SELFTEST every line byte of the frame in flight that has not been looped is
handed to the receiver, which delivers a complete frame to the mailbox (R169, R181; log entry 19). -/
def execLoopedFrame (s : State) : Result :=
  s.unlessReset s (.next (if s.radio.current = .selftest then s.loopRest else s))

/-! ### Spontaneous reports (R187) -/

/-- REPORT_TIMER_EXPIRY: the timer restarts with a full interval, and a report is refreshed or placed
(R187). -/
def execReportTimerExpiry (s : State) : Result :=
  s.unlessReset s <|
    .next (if s.radio.reportTimer.isSome then
        (s.onRadio fun r => { r with reportTimer := reportTimerOf (s.param 32) }).makeReport
      else s)

end Sys2Proof.Machine
end

