-- ==== Sys2Proof/Machine/OdometryCommands.lean ====
section
/-! DEFINITION. The commands of the odometry unit (chapter 2): POSITION_SET, DIRECTION_SELECT, the
accepted step, the pulses and the standstill timer. -/

namespace Sys2Proof.Machine

/-- The checks of POSITION_SET in order (R29); none when both pass. -/
def State.positionRefusal (s : State) (position : Nat) : Option Status :=
  if s.odo.motion then some .moving
  else if Config.maxPosition < position then some .badValue
  else none

/-- POSITION_SET; when accepted it is an evaluation event (R29). -/
def execPositionSet (position : U24) (s : State) : Result :=
  hostRequest 0x20 (bytes24 position) s <|
    match s.positionRefusal position.toNat with
    | some refusal => answer 0x20 (bytes24 position) refusal [] s
    | none =>
      answer 0x20 (bytes24 position) .ok []
        (State.evaluate { s with odo := { s.odo with
          position := position.toNat, positionValid := true, lastCorrection := 0 } })

/-- DIRECTION_SELECT; when accepted it is an evaluation event (R36). -/
def execDirectionSelect (direction : Byte) (s : State) : Result :=
  hostRequest 0x21 [direction] s <|
    if s.odo.motion then answer 0x21 [direction] .moving [] s
    else
      match directionOfCode direction with
      | none => answer 0x21 [direction] .badValue [] s
      | some selected =>
        answer 0x21 [direction] .ok []
          (State.evaluate { s with odo := { s.odo with selected := selected } })

/-! ### Accepted changes -/

/-- ACCEPTED_STEP: the filtered pinion pair takes new levels (R20 to R28). -/
def execAcceptedStep (pinA pinB : Bool) (now : Micros) (s : State) : Result :=
  s.unlessReset s (.next (s.pinionStep pinA pinB now))

/-- STANDSTILL_TIMER_EXPIRY (R24). -/
def execStandstillTimerExpiry (s : State) : Result :=
  s.unlessReset s (.next (if s.odo.standstillTimer.isSome then s.enterStandstill else s))

/-- WHEEL_PULSE: the accepted change of WHEEL to a level it does not have (R19, R33 to R35). -/
def execWheelPulse (level : Bool) (s : State) : Result :=
  s.unlessReset s (.next (if level = s.odo.wheel.level then s else s.wheelChange level))

/-- MARKER_PULSE: the accepted change of MARKER to a level it does not have (R19, R30 to R32). -/
def execMarkerPulse (level : Bool) (s : State) : Result :=
  s.unlessReset s (.next (if level = s.odo.marker.level then s else s.markerChange level))

end Sys2Proof.Machine
end

