-- ==== Sys2Proof/Machine/PortCommands.lean ====
section
/-! DEFINITION. The commands of the host port and of the part (chapter 10): the host link, STATUS_READ, the
condition flags and the two resets. -/

namespace Sys2Proof.Machine

/-! ### The host link (R193 to R195) -/

/-- REQUEST_SELECTION_FIRST_CLOCK: the first SCLK edge of a selection, in IDLE that of a request
selection, which goes to RECEIVING with no byte received, unless it is the rest of a selection cut by
a reset. With a response held the selection is a readout selection; in RECEIVING and READOUT the first
edge has been. A bit sampled at that edge comes with its byte or its own edge (R193, R194; log entry
5). -/
def Port.firstClock (p : Port) : Port :=
  match p.state with
  | .idle => if p.ignoring then p else p.beginRequest
  | .responseReady => p.select
  | .receiving => p
  | .readout => p

/-- REQUEST_SELECTION_FIRST_CLOCK (R193); while RESET is asserted the selection is one to be ignored
(R202). -/
def execRequestSelectionFirstClock (s : State) : Result :=
  s.unlessReset (s.onPort fun p => { p with selected := true, ignoring := true })
    (.next (s.onPort Port.firstClock))

/-- The status of a frame that fails R195. -/
def faultStatus : RequestFault → Status
  | .frameError => .frameError
  | .unknownCommand => .unknownCommand
  | .badValue => .badValue

/-- A selection with no byte and no broken byte had no SCLK edge, unless the port is RECEIVING (R193).
-/
def State.noClock (s : State) (bytes : List Byte) (wholeBytes : Bool) : Bool :=
  bytes.isEmpty && wholeBytes && s.port.state != .receiving

/-- FRAME_ERROR: a request frame that fails the checks of R195 is answered with the error status and no
data (R195, R196). Bytes that pass the checks are a request and not this command (log entry 7). -/
def execFrameError (bytes : List Byte) (wholeBytes : Bool) (s : State) : Result :=
  takeSelection bytes wholeBytes s <|
    if s.noClock bytes wholeBytes then .next (s.onPort Port.deselect)
    else
      match decodeRequest bytes wholeBytes with
      | .error e => .next (s.respond bytes ⟨faultStatus e, []⟩)
      | .ok _ => .next s

/-- RESPONSE_READOUT: a readout selection, or the rest of one, shifts out the next bytes of the held
response; its deselection discards the response and leaves the port IDLE (R193). While RESET is
asserted the selection is ignored to its end (R202). -/
def execResponseReadout (clockedBytes : Nat) (s : State) : Result :=
  s.unlessReset (s.onPort Port.endIgnored) (.next (s.onPort (Port.endSelection clockedBytes)))

/-- PROTOCOL_BYTES_IGNORED: a second selection's bytes within RECEIVING, where READY is high, are
ignored and set PORT_PROTOCOL; the request is judged on the bytes of the first selection, so its
buffer takes no more (R194). -/
def execProtocolBytesIgnored (s : State) : Result :=
  s.unlessReset s <|
    .next (if s.readyHigh then (s.onPort Port.select).setFlag .portProtocol else s)

/-! ### Flags (R198 to R200) -/

/-- FLAGS_READ_CLEAR (R199). -/
def execFlagsReadClear (mask : U16) (s : State) : Result :=
  hostRequest 0x51 (bytes16 mask) s <|
    answer 0x51 (bytes16 mask) .ok (bytes16 (wordOfFlags s.port.flags))
      { s with port := { s.port with flags := clearFlags s.port.flags (maskOfWord mask) } }

/-- FLAGS_ENABLE (R200). -/
def execFlagsEnable (mask : U16) (s : State) : Result :=
  hostRequest 0x52 (bytes16 mask) s <|
    answer 0x52 (bytes16 mask) .ok (bytes16 (wordOfFlags (maskOfWord mask)))
      { s with port := { s.port with enables := maskOfWord mask } }

/-! ### STATUS_READ (R201) -/

/-- Section 0, odometry (R40, R201). -/
def Odometry.status (o : Odometry) : List Byte :=
  u24 o.position ++ bool o.positionValid ++ bool o.motion ++ u8 (dirCode o.measured) ++ u16 o.speed
    ++ u8 (dirCode o.selected) ++ u16 o.rollback ++ s16 o.lastCorrection
    ++ u8 (maskOf [o.pinionSensor, o.pinionSlip, o.rollbackLatch])

/-- A governing target, every field 0 for NONE (R201, R204). -/
def governingBytes : Option Governing → List Byte
  | none => u8 0 ++ u24 0 ++ u24 0 ++ u16 0 ++ u8 0 ++ bool false
  | some g =>
    u8 (sourceCode g.source) ++ u24 g.point ++ u24 g.dist ++ u16 g.speed ++ u8 (g.slot.getD 0)
      ++ bool g.overrun

/-- Section 1, supervision (R114, R201). -/
def Supervisor.status (p : Supervisor) : List Byte :=
  u8 (supCode p.state) ++ u16 p.causes.bits ++ s16 p.excess ++ u8 p.demand.level
    ++ bool p.demand.loopOpen ++ bool p.demand.bandApplied ++ u16 p.permitted
    ++ u8 (dirCode p.evalDir) ++ governingBytes p.governing ++ bool p.shortfall

/-- Section 2, brakes, with the merged demand as it is reported (R136, R201; log entry 20 for
EMERG_IN). -/
def Brake.status (merged : Byte) (b : Brake) : List Byte :=
  u8 (unitCode b.unit) ++ b.stored ++ [merged] ++ u8 b.service ++ bool b.ramp.isSome
    ++ u8 (maskOf [b.loop, b.band, b.loopSense.level, b.bandSense.level, b.emergAsserted])
    ++ u8 (bandCode b.bandState) ++ bool b.hold ++ bool b.overlap.isSome ++ u8 b.floor
    ++ u8 (maskOf [b.bandFault, b.loopFault])

/-- The outputs of a door as a mask (R204). -/
def DoorState.outputMask (d : DoorState) : Nat :=
  maskOf [d.outputs.1, d.outputs.2.1, d.outputs.2.2]

/-- One door of section 3 (R153, R201, R204). -/
def Door.status (d : Door) : List Byte :=
  u8 (doorStateCode d.state)
    ++ u8 (maskOf [d.closed.level, d.locked.level, d.openEnd.level, d.obstruct.level,
        d.button.level])
    ++ u8 d.state.outputMask ++ u8 d.reopen ++ bool d.reclose

/-- The last door event: kind, side or door, cause, override mark (R151, R201; log entry 20). -/
def DoorEvent.item : DoorEvent → List Byte
  | .override side => u8 0 ++ u8 (sideCode side) ++ u8 0 ++ bool true
  | .held door => u8 1 ++ u8 (doorCode door) ++ u8 0 ++ bool false
  | .fault door cause => u8 2 ++ u8 (doorCode door) ++ u8 (doorCauseCode cause) ++ bool false

/-- Section 3, doors (R153, R201). -/
def Doors.status (ds : Doors) : List Byte :=
  ds.d0.status ++ ds.d1.status ++ ds.d2.status ++ ds.d3.status ++ bool ds.leftReleased
    ++ bool ds.rightReleased ++ bool ds.secure ++ ds.lastEvent.item

/-- Section 4, radio line (R175, R201). -/
def Radio.lineStatus (r : Radio) : List Byte :=
  u8 (modeCode r.requested) ++ u8 (modeCode r.current) ++ u8 (linkCode r.link) ++ bool r.linkLost
    ++ u8 (rxErrorCode r.lastError) ++ u8 (bufCode r.buf0.state) ++ u8 (bufCode r.buf1.state)
    ++ bool r.tx.isSome ++ bool r.key ++ bool r.carrier

/-- One queue entry of section 5 (R192, R201). DEDUCED (log entry 20): its kind is sent as the frame
kind's code of R206, as R205 has MAILBOX_READ send a kind. -/
def QueueEntry.item (e : QueueEntry) : List Byte :=
  u8 e.handle ++ [e.kind] ++ u8 e.priority ++ u8 (queueOriginCode e.origin) ++ bool e.started

/-- The last transmit result: present, handle, result, 0 for absent (R190, R201). -/
def lastTxBytes : Option LastTx → List Byte
  | none => bool false ++ u8 0 ++ u8 0
  | some t => bool true ++ u8 t.handle ++ u8 (txResultCode t.result)

/-- The message items of section 5 (R192, R201). -/
def Radio.messageStatus (r : Radio) : List Byte :=
  bool r.busy ++ bool r.waiting.isSome ++ u8 r.queue.length ++ r.queue.flatMap QueueEntry.item
    ++ bool r.pendingAlarm.isSome ++ u8 r.mailbox.length ++ lastTxBytes r.lastTx ++ u8 r.txSeq

/-- Section 5, messages, table and port (R201). -/
def State.messageSection (s : State) : List Byte :=
  s.radio.messageStatus ++ u8 s.table.count ++ bool s.table.lossLatch
    ++ u8 (profileStateCode s.profile.state) ++ u8 (lockCode s.profile.lock)
    ++ bytes16 (wordOfFlags s.port.flags) ++ bytes16 (wordOfFlags s.port.enables)

/-- The merged demand that STATUS_READ reports: R122 in ARMED, a free value in SAFE, where "there is no
merged demand in use" (log entry 17). -/
def State.mergedReport (s : State) : Byte :=
  match s.brake.unit with
  | .armed => BitVec.ofNat 8 s.brake.merged
  | .safe => Config.mergedDemandWhileSafe s.free

/-- The items of a section, none above section 5 (R201). -/
def State.sectionBytes (s : State) (sect : Nat) : Option (List Byte) :=
  match sect with
  | 0 => some s.odo.status
  | 1 => some s.sup.status
  | 2 => some (s.brake.status s.mergedReport)
  | 3 => some s.doors.status
  | 4 => some s.radio.lineStatus
  | 5 => some s.messageSection
  | _ => none

/-- The state after a section is read: a free value reported in section 2 has been used (log entry 4).
-/
def State.afterSection (s : State) (sect : Nat) : State :=
  if sect = 2 ∧ s.brake.unit = .safe then { s with free := s.free + 1 } else s

/-- STATUS_READ (R201). -/
def execStatusRead (sect : Byte) (s : State) : Result :=
  hostRequest 0x50 [sect] s <|
    match s.sectionBytes sect.toNat with
    | some data => answer 0x50 [sect] .ok data (s.afterSection sect.toNat)
    | none => answer 0x50 [sect] .badValue [] s

/-! ### Resets (R202, R203) -/

/-- SOFT_RESET at every block: each takes its SOFT_RESET values, and the port clears its flags (R23,
R35, R73, R115, R135, R154, R175, R192, R203). -/
def State.softReset (s : State) : State :=
  let doors := s.doors.softReset s.doorTimes
  { s with
    port := { s.port with flags := 0 }
    odo := s.odo.softReset
    table := .initial
    sup := .afterReset s.brake.emergAsserted doors.secure (s.param 23)
    brake := .afterReset s.bandApplyTime s.brake.unit doors.secure s.brake.emergIn
      s.brake.loopSense s.brake.bandSense
    doors := doors
    radio := .afterReset (s.param 32) s.radio.carrier }

/-- SOFT_RESET (R203). -/
def execSoftReset (s : State) : Result :=
  hostRequest 0x53 [] s <|
    if s.odo.motion then answer 0x53 [] .moving [] s else answer 0x53 [] .ok [] s.softReset

/-- Every block at its power-on values (R1 to R202, each block's reset rule). The raw inputs, SELECT,
SCLK, SDI, RESET, CARRIER, the free-running counter, the free-value counter and the waiting commands
are not the reset's to change (log entries 1 to 4 and 25); the rest of a selection in progress is
ignored (R194). -/
def State.powerOn (s : State) : State :=
  let emergIn := s.brake.emergIn.powerOn
  let secure := s.doors.powerOn.secure
  { State.reset with
    port := { State.reset.port with
      selected := s.port.selected, ignoring := s.port.selected, sclk := s.port.sclk
      sdi := s.port.sdi }
    odo := s.odo.powerOn
    sup := .afterReset (!emergIn.level) secure (State.reset.param 23)
    brake := .afterReset State.reset.bandApplyTime .safe secure emergIn s.brake.loopSense.powerOn
      s.brake.bandSense.powerOn
    doors := s.doors.powerOn
    radio := .afterReset (State.reset.param 32) s.radio.carrier
    resetHeld := s.resetHeld
    free := s.free
    pending := s.pending }

/-- POWER_ON_RESET: the power-on reset, and an assertion of RESET with its release where the changes of
the pin do not come as commands of their own (R194, R202; log entry 30). -/
def execPowerOnReset (s : State) : Result := .next s.powerOn

end Sys2Proof.Machine
end

