-- ==== Sys2Proof/Machine/ProfileCommands.lean ====
section
/-! DEFINITION. The commands of the profile store (chapter 1): PROFILE_WRITE, PROFILE_CLOSE, PROFILE_CLEAR,
PROFILE_READ, LOCK_RAISE, CONFIG_WRITE and CONFIG_READ. -/

namespace Sys2Proof.Machine

/-! ### Segments (R1, R5, R6) -/

/-- The number of segments held (R1). -/
def Profile.count (p : Profile) : Nat := p.segments.length

/-- Checks 1 to 7 of R5 in order; none when all pass. -/
def Profile.writeRefusal (p : Profile) (index start limitUp limitDown : Nat) : Option Status :=
  if p.lock ≠ .levelOpen then some .locked
  else if p.count < index ∨ Config.maxSegments ≤ index then some .badValue
  else if Config.maxSegmentStart < start then some .badValue
  else if index = 0 ∧ start ≠ 0 then some .badValue
  else if 0 < index ∧ (p.segments[index - 1]?).any (fun g => decide (start ≤ g.start)) then
    some .badValue
  else if (p.segments[index + 1]?).any (fun g => decide (g.start ≤ start)) then some .badValue
  else if limitUp = 0 ∨ limitDown = 0 then some .badValue
  else none

/-- The gradient bounded to -500..+500 (R6). -/
def boundGradient (g : Int) : Int := max (-Config.maxGradient) (min g Config.maxGradient)

/-- The segment that an accepted PROFILE_WRITE stores (R6, R204). -/
def segmentOf (start : Nat) (gradient : Int) (limitUp limitDown : Nat) (marker : Byte) : Segment :=
  ⟨start, boundGradient gradient, min limitUp Config.maxSpeed, min limitDown Config.maxSpeed,
    marker != 0⟩

/-- Append at the count, or replace below it (R6). -/
def putSegment (index : Nat) (g : Segment) (segments : List Segment) : List Segment :=
  if index = segments.length then segments ++ [g] else segments.set index g

/-- The store after an accepted PROFILE_WRITE: LOADING, with no line end (R3, R4, R6). -/
def Profile.write (index : Nat) (g : Segment) (p : Profile) : Profile :=
  { p with segments := putSegment index g p.segments, lineEnd := none, state := .loading }

/-- PROFILE_WRITE (R5, R6). -/
def execProfileWrite (index : Byte) (start : U24) (gradient limitUp limitDown : U16)
    (marker : Byte) (s : State) : Result :=
  let params := [index] ++ bytes24 start ++ bytes16 gradient ++ bytes16 limitUp
    ++ bytes16 limitDown ++ [marker]
  hostRequest 0x10 params s <|
    match s.profile.writeRefusal index.toNat start.toNat limitUp.toNat limitDown.toNat with
    | some refusal => answer 0x10 params refusal [] s
    | none =>
      let g := segmentOf start.toNat gradient.toInt limitUp.toNat limitDown.toNat marker
      let clamped := decide (Config.maxSpeed < limitUp.toNat ∨ Config.maxSpeed < limitDown.toNat)
      answer 0x10 params (if clamped then .okClamped else .ok) []
        { s with profile := s.profile.write index.toNat g }

/-- The start of the last segment, if there is one. -/
def Profile.lastStart (p : Profile) : Option Nat := p.segments.getLast?.map Segment.start

/-- The checks of R7 in order; none when all pass. -/
def Profile.closeRefusal (p : Profile) (lineEnd : Nat) : Option Status :=
  if p.lock ≠ .levelOpen then some .locked
  else
    match p.lastStart with
    | none => some .wrongState
    | some start =>
      if start < lineEnd ∧ lineEnd ≤ Config.maxPosition then none else some .badValue

/-- PROFILE_CLOSE (R7). -/
def execProfileClose (lineEnd : U24) (s : State) : Result :=
  hostRequest 0x11 (bytes24 lineEnd) s <|
    match s.profile.closeRefusal lineEnd.toNat with
    | some refusal => answer 0x11 (bytes24 lineEnd) refusal [] s
    | none =>
      answer 0x11 (bytes24 lineEnd) .ok []
        { s with profile := { s.profile with lineEnd := some lineEnd.toNat, state := .valid } }

/-- PROFILE_CLEAR (R8). -/
def execProfileClear (s : State) : Result :=
  hostRequest 0x12 [] s <|
    if s.profile.lock ≠ .levelOpen then answer 0x12 [] .locked [] s
    else
      answer 0x12 [] .ok []
        { s with profile := { s.profile with segments := [], lineEnd := none, state := .loading } }

/-- The summary of PROFILE_READ: state, count, line end with 0 for absent, lock level (R9, R205). -/
def Profile.summary (p : Profile) : List Byte :=
  u8 (profileStateCode p.state) ++ u8 p.count ++ u24 (p.lineEnd.getD 0) ++ u8 (lockCode p.lock)

/-- The segment part of PROFILE_READ (R9, R205). -/
def Segment.item (index : Byte) (g : Segment) : List Byte :=
  [index] ++ u24 g.start ++ s16 g.gradient ++ u16 g.limitUp ++ u16 g.limitDown ++ bool g.marker

/-- PROFILE_READ (R9). -/
def execProfileRead (index : Byte) (s : State) : Result :=
  hostRequest 0x13 [index] s <|
    let segment := match s.profile.segments[index.toNat]? with
      | some g => g.item index
      | none => []
    answer 0x13 [index] .ok (s.profile.summary ++ segment) s

/-! ### Lock levels (R17, R18) -/

/-- LOCK_RAISE; the change to CONFIG_LOCKED is handed to the brake output unit, which arms (R17, R18,
R116). -/
def execLockRaise (s : State) : Result :=
  hostRequest 0x14 [] s <|
    match s.profile.lock with
    | .levelOpen =>
      if s.profile.state = .valid then
        answer 0x14 [] .ok (u8 (lockCode .profileLocked))
          { s with profile := { s.profile with lock := .profileLocked } }
      else answer 0x14 [] .wrongState [] s
    | .profileLocked =>
      answer 0x14 [] .ok (u8 (lockCode .configLocked))
        (State.onBrake Brake.arm { s with profile := { s.profile with lock := .configLocked } })
    | .configLocked => answer 0x14 [] .wrongState [] s

/-! ### Configuration (R11 to R16) -/

/-- The lock check and the mode check of a CONFIG_WRITE (R13); none when both pass. -/
def State.configRefusal (s : State) (index : Nat) : Option Status :=
  if s.profile.lock = .configLocked ∧ index ≠ 32 then some .locked
  else if index ≤ 2 ∧ s.radio.current ≠ .config then some .wrongMode
  else none

/-- A written value bounded to its range; the upper limit of #4 is the present car length (R14). -/
def boundParam (params : List Nat) (index value : Nat) : Nat :=
  let row := Config.paramRows.getD index ⟨0, 0, 0⟩
  let hi := if index = 4 then params.getD 3 0 else row.hi
  max row.lo (min value hi)

/-- The parameter set after an accepted write of a value that is bounded already, with the relations
between #19 and #20 and between #3 and #4 (R15). -/
def storeParam (index bounded : Nat) (params : List Nat) : List Nat :=
  if index = 19 then (params.set 19 bounded).set 20 (max (params.getD 20 0) bounded)
  else if index = 20 then params.set 20 (max (params.getD 19 0) bounded)
  else if index = 3 then (params.set 3 bounded).set 4 (min (params.getD 4 0) bounded)
  else params.set index bounded

/-- An accepted write was clamped: the stored value differs from the written one, or another parameter
was adjusted (R13, R15). -/
def paramClamped (index value : Nat) (before after : List Nat) : Bool :=
  decide (after.getD index 0 ≠ value) || decide (after ≠ before.set index (after.getD index 0))

/-- The report timer at an accepted write of #32: started when the interval goes from 0 to a value above
0, stopped when it becomes 0, and otherwise left as it runs (R187). -/
def reportTimerAfterWrite (old new : Nat) (timer : Option Nat) : Option Nat :=
  if new = 0 then none else if old = 0 then some new else timer

/-- CONFIG_WRITE (R13 to R16). -/
def execConfigWrite (index : Byte) (value : U24) (s : State) : Result :=
  let params := [index] ++ bytes24 value
  hostRequest 0x18 params s <|
    let i := index.toNat
    if Config.paramCount ≤ i then answer 0x18 params .badValue [] s
    else
      match s.configRefusal i with
      | some refusal => answer 0x18 params refusal [] s
      | none =>
        let before := s.profile.params
        let after := storeParam i (boundParam before i value.toNat) before
        let s' := { s with profile := { s.profile with params := after } }
        let s' := if i = 32 then
            s'.onRadio fun r => { r with
              reportTimer := reportTimerAfterWrite (s.param 32) (s'.param 32) r.reportTimer }
          else s'
        answer 0x18 params (if paramClamped i value.toNat before after then .okClamped else .ok) [] s'

/-- CONFIG_READ: the value, and whether a write would pass the lock and mode checks now (R12). -/
def execConfigRead (index : Byte) (s : State) : Result :=
  hostRequest 0x19 [index] s <|
    if Config.paramCount ≤ index.toNat then answer 0x19 [index] .badValue [] s
    else
      answer 0x19 [index] .ok
        (u24 (s.param index.toNat) ++ bool (s.configRefusal index.toNat).isNone) s

end Sys2Proof.Machine
end

