-- ==== Sys2Proof/Machine/RadioLineCommands.lean ====
section
/-! DEFINITION. The commands of the radio line (chapter 8): RADIO_MODE, received bytes, the silence and link
timers, CARRIER, the mode change, and the start and end of a transmission. -/

namespace Sys2Proof.Machine

/-! ### Modes (R166, R167) -/

/-- RADIO_MODE: the requested mode is stored, and the change is made at once when the line is quiet
(R166, R167). -/
def execRadioMode (mode : Byte) (s : State) : Result :=
  hostRequest 0x40 [mode] s <|
    match modeOfCode mode with
    | none => answer 0x40 [mode] .badValue [] s
    | some m =>
      let s' := (s.onRadio fun r => { r with requested := m }).judgeMode
      answer 0x40 [mode] .ok (u8 (modeCode s'.radio.requested) ++ u8 (modeCode s'.radio.current)) s'

/-- MODE_CHANGE: a waiting change is made when the line is quiet (R167, R168). -/
def execModeChange (s : State) : Result :=
  s.unlessReset s (.next s.judgeMode)

/-! ### The receiver (R156 to R165) -/

/-- The modem's bytes are taken in NORMAL and LISTEN only (R156). -/
def LinkMode.receives : LinkMode → Bool
  | .normal => true
  | .listen => true
  | _ => false

/-- RECEIVED_BYTE: a byte from the modem, in error when its stop bit is low or its parity does not
match, the next looped byte of SELFTEST, or the clocks of a byte on the host link, which the port
takes (R156, R169, R193; log entry 5). While RESET is asserted SDI only keeps the level of the byte's
last bit. -/
def execReceivedByte (source : ByteSource) (s : State) : Result :=
  match source with
  | .modem value parityBit stopBit =>
    s.unlessReset s <|
      .next (if s.radio.current.receives then
          s.takeByte value (byteInError (s.param 2) value parityBit stopBit)
        else s)
  | .looped => s.unlessReset s (.next s.takeLooped)
  | .sdi value =>
    s.unlessReset (s.onPort fun p => { p with sdi := value.getLsbD 0 })
      (.next (s.onPort (Port.takeByte value)))

/-- SILENCE_TIMER_EXPIRY: the frame being assembled is aborted, which may leave the line quiet (R161,
R167). -/
def execSilenceTimerExpiry (s : State) : Result :=
  s.unlessReset s <|
    match s.radio.silence, s.radio.assembler with
    | some _, some i => .next (s.abortFrame .silence i).lineEvent
    | _, _ => .next s

/-- LINK_TIMER_EXPIRY (R171, R172). -/
def execLinkTimerExpiry (s : State) : Result :=
  s.unlessReset s <|
    .next (if s.radio.linkTimer.isSome then
        (s.onRadio fun r => { r with linkTimer := none }).setLink .lost
      else s)

/-! ### The transmitter (R173, R174) -/

/-- CARRIER_CHANGE: CARRIER takes a level, and CARRIER going low is a start event (R173; log entry
22). -/
def execCarrierChange (level : Bool) (s : State) : Result :=
  s.unlessReset (s.onRadio fun r => { r with carrier := level }) <|
    .next (s.onRadio fun r => { r with carrier := level }).judgeStart

/-- TRANSMISSION_START: the transmitter starts a frame when the conditions of R173 hold (R173, R184). -/
def execTransmissionStart (s : State) : Result :=
  s.unlessReset s (.next s.startFrame)

/-- The end of the frame in flight: in SELFTEST its last line bytes have been looped; the entry leaves
the queue, waiting items are placed, and the line is quiet for a mode change or a start (R169, R174,
R185). DESIGN CHOICE (log entry 29): the freed slot is offered to the waiting items before a waiting
mode change is made, which the manual does not order. -/
def State.endTransmission (s : State) : State :=
  let s := if s.radio.current = .selftest then s.loopRest else s
  s.finishTransmission.placeWaiting.lineEvent

/-- END_OF_TRANSMISSION (R174). -/
def execEndOfTransmission (s : State) : Result :=
  s.unlessReset s (.next (if s.radio.tx.isSome then s.endTransmission else s))

/-- WAITING_ITEMS_PLACED: at an event that leaves a slot free, waiting items are placed (R185), and a
placed entry is a start event (R173). -/
def execWaitingItemsPlaced (s : State) : Result :=
  s.unlessReset s (.next s.placeWaiting.judgeStart)

end Sys2Proof.Machine
end

