-- ==== Sys2Proof/Machine/SupervisionCommands.lean ====
section
/-! DEFINITION. The commands of the speed supervisor (chapter 5): EMERGENCY_ACK and the evaluation timer. -/

namespace Sys2Proof.Machine

/-- A live cause is present, judged afresh: EMERG_IN and DOORS_SECURE as handed last, MOTION as it
stands (R109). -/
def State.liveCause (s : State) : Bool := s.sup.emergIn || (!s.sup.doorsSecure && s.odo.motion)

/-- The checks of EMERGENCY_ACK in order (R109); none when all pass. -/
def State.ackRefusal (s : State) : Option Status :=
  if s.sup.state ≠ .emergency then some .wrongState
  else if s.brake.unit ≠ .armed then some .wrongState
  else if s.odo.motion then some .moving
  else if s.liveCause then some .causePresent
  else none

/-- Steps 1 and 2 of an accepted acknowledgment: the latched causes become absent, and the odometry unit
and the brake output unit take it (R39, R110, R133). -/
def State.clearCauses (s : State) : State :=
  State.onBrake Brake.takeAck { s with
    sup := { s.sup with causes := s.sup.causes.clearLatched }, odo := s.odo.takeAck }

/-- An accepted acknowledgment: the clearing, the change to NORMAL, and an evaluation (R110). -/
def State.acknowledge (s : State) : State := (s.clearCauses.changeSupState .normal).evaluate

/-- EMERGENCY_ACK (R109, R110). -/
def execEmergencyAck (s : State) : Result :=
  hostRequest 0x39 [] s <|
    match s.ackRefusal with
    | some refusal => answer 0x39 [] refusal [] s
    | none =>
      let s' := s.acknowledge
      answer 0x39 [] .ok (u16 s.sup.causes.latchedOnly.bits ++ u8 (supCode s'.sup.state)) s'

/-- EVALUATION_TIMER_EXPIRY (R99). -/
def execEvaluationTimerExpiry (s : State) : Result :=
  s.unlessReset s (.next (if s.sup.evalTimer.isSome then s.evaluate else s))

end Sys2Proof.Machine
end

