-- ==== Sys2Proof/Machine/TableCommands.lean ====
section
/-! DEFINITION. The commands of the restriction table (chapter 3): RECORD_ISSUE, RECORD_REVOKE, RECORD_READ,
RECORD_FIND, TABLE_LIST, LOSS_ACK and the minute timer. -/

namespace Sys2Proof.Machine

/-! ### Data of the responses (R205) -/

/-- A replaced number as it is sent: present, and the number with 0 for absent (R205). -/
def replacedBytes (replaced : Option Nat) : List Byte :=
  bool replaced.isSome ++ u16 (replaced.getD 0)

/-- The limit field of a record, 0 when its kind has none (R205). -/
def Imposes.limitField : Imposes → Nat
  | .speed limit => limit
  | .stop => 0
  | .doors _ => 0

/-- The sides field of a record, 0 when its kind has none (R205). -/
def Imposes.sidesField : Imposes → Nat
  | .speed _ => 0
  | .stop => 0
  | .doors sides => sidesCode sides

/-- RECORD_READ's data for a live record (R64, R205). -/
def State.recordItem (slot : Nat) (r : Record) (s : State) : List Byte :=
  u8 slot ++ u8 (kindCode r.imposes.kind) ++ u8 (originCode r.origin) ++ u16 r.number
    ++ u24 r.first ++ u24 r.last ++ u8 (recordDirCode r.dir) ++ u16 r.imposes.limitField
    ++ u8 r.imposes.sidesField ++ u8 (r.lifetime.getD 0) ++ bool r.passage ++ bool r.expiring
    ++ bool (s.suspended r)

/-- The last notice as TABLE_LIST sends it (R62, R205). -/
def Notice.item (n : Notice) : List Byte :=
  u8 (noticeCode n.event) ++ u8 n.slot ++ u8 (kindCode n.kind) ++ u8 (originCode n.origin)
    ++ u16 n.number ++ replacedBytes n.replaced

/-- One entry of TABLE_LIST (R66, R205). -/
def Record.listItem (slot : Nat) (r : Record) : List Byte :=
  u8 slot ++ u8 (kindCode r.imposes.kind) ++ u8 (originCode r.origin) ++ u16 r.number
    ++ bool r.expiring

/-- TABLE_LIST's data (R66, R205). -/
def Table.listing (t : Table) : List Byte :=
  u8 t.count ++ bool t.lossLatch ++ u16 t.noticeSeq ++ t.notice.item
    ++ t.live.flatMap fun x => x.2.listItem x.1

/-! ### Issuing and revoking -/

/-- The host's answer to the result of an issue (R52, R205). -/
def issueAnswer (clamped : Bool) : IssueResult → Status × List Byte
  | .new slot replaced =>
    (if clamped then .okClamped else .ok, u8 slot ++ u8 0 ++ replacedBytes replaced)
  | .amended slot => (if clamped then .okClamped else .ok, u8 slot ++ u8 1 ++ replacedBytes none)
  | .value => (.badValue, [])
  | .kind slot live => (.kind, u8 slot ++ u8 (kindCode live))
  | .full => (.full, [])

/-- RECORD_ISSUE (R44 to R52). -/
def execRecordIssue (origin : Byte) (body : IssueBody) (s : State) : Result :=
  let params := origin :: issueBytes body
  hostRequest 0x28 params s <|
    match originOfCode origin with
    | none => answer 0x28 params .badValue [] s
    | some o =>
      let (s', result) := s.issueRecord .host o body
      let (status, data) := issueAnswer (limitClamped body) result
      answer 0x28 params status data s'

/-- RECORD_REVOKE (R53). -/
def execRecordRevoke (origin : Byte) (number : U16) (s : State) : Result :=
  let params := [origin] ++ bytes16 number
  hostRequest 0x29 params s <|
    match originOfCode origin with
    | none => answer 0x29 params .badValue [] s
    | some o =>
      if o ≠ .vehicle ∧ s.odo.motion then answer 0x29 params .moving [] s
      else
        match s.table.find o number.toNat with
        | none => answer 0x29 params .notFound [] s
        | some slot => answer 0x29 params .ok [] (s.revokeSlot slot)

/-! ### Lookups -/

/-- RECORD_READ (R64). -/
def execRecordRead (slot : Byte) (s : State) : Result :=
  hostRequest 0x2A [slot] s <|
    if Config.slotCount ≤ slot.toNat then answer 0x2A [slot] .badValue [] s
    else
      match s.table.get slot.toNat with
      | none => answer 0x2A [slot] .empty [] s
      | some r => answer 0x2A [slot] .ok (s.recordItem slot.toNat r) s

/-- RECORD_FIND (R65). -/
def execRecordFind (origin : Byte) (number : U16) (s : State) : Result :=
  let params := [origin] ++ bytes16 number
  hostRequest 0x2B params s <|
    match originOfCode origin with
    | none => answer 0x2B params .badValue [] s
    | some o =>
      match s.table.find o number.toNat with
      | none => answer 0x2B params .notFound [] s
      | some slot => answer 0x2B params .ok (u8 slot) s

/-- TABLE_LIST (R66). -/
def execTableList (s : State) : Result :=
  hostRequest 0x2C [] s <|
    answer 0x2C [] .ok s.table.listing s

/-! ### The restriction-lost latch and the minute timer -/

/-- LOSS_ACK (R55). -/
def execLossAck (s : State) : Result :=
  hostRequest 0x2D [] s <|
    if s.table.lossLatch then
      answer 0x2D [] .ok [] (State.evaluate { s with table := { s.table with lossLatch := false } })
    else answer 0x2D [] .wrongState [] s

/-- MINUTE_TIMER_EXPIRY (R58, R59). -/
def execMinuteTimerExpiry (s : State) : Result :=
  s.unlessReset s (.next (if s.table.minuteTimer.isSome then s.minuteExpiry else s))

end Sys2Proof.Machine
end

