-- ==== Sys2Proof/Machine/InputCommands.lean ====
section
/-! DEFINITION. RAW_INPUT_CHANGE: the raw changes of every filtered input, of the lines of the host link, and
of RESET. SELECT's deassertion in RECEIVING has the port take the request it has received. -/

namespace Sys2Proof.Machine

/-! ### Raw changes of the filtered inputs (R19, R117, R137) -/

/-- With filter code 0 a raw change is accepted when it is seen (R19). -/
def InputLine.acceptsNow (filterMicros : Nat) (level : Bool) (i : InputLine) : Bool :=
  filterMicros == 0 && level != i.raw && level != i.level

/-- Apply a change to the odometry unit. -/
def State.onOdo (f : Odometry → Odometry) (s : State) : State := { s with odo := f s.odo }

/-- One input of a door. -/
def Door.line (d : Door) : DoorInput → InputLine
  | .closed => d.closed
  | .locked => d.locked
  | .openEnd => d.openEnd
  | .obstruct => d.obstruct
  | .button => d.button

/-- Replace one input of a door. -/
def Door.setLine (d : Door) (i : InputLine) : DoorInput → Door
  | .closed => { d with closed := i }
  | .locked => { d with locked := i }
  | .openEnd => { d with openEnd := i }
  | .obstruct => { d with obstruct := i }
  | .button => { d with button := i }

/-- #6, the filter time of the odometry inputs as a change that begins now would use it (R19). -/
def State.pinionFilter (s : State) : Nat := pinionFilterMicros (s.param 6)

/-! ### The deselection that ends a request (R193 to R195) -/

/-- A frame that passes the checks of R195 is handed to the block that owns its command: the meaning of
each host request. A command that is no host request has no frame. -/
def State.takeRequest (i : Instr) (s : State) : Result :=
  match i with
  | .profileWrite index start gradient limitUp limitDown marker =>
    execProfileWrite index start gradient limitUp limitDown marker s
  | .profileClose lineEnd => execProfileClose lineEnd s
  | .profileClear => execProfileClear s
  | .profileRead index => execProfileRead index s
  | .lockRaise => execLockRaise s
  | .configWrite index value => execConfigWrite index value s
  | .configRead index => execConfigRead index s
  | .positionSet position => execPositionSet position s
  | .directionSelect direction => execDirectionSelect direction s
  | .recordIssue origin body => execRecordIssue origin body s
  | .recordRevoke origin number => execRecordRevoke origin number s
  | .recordRead slot => execRecordRead slot s
  | .recordFind origin number => execRecordFind origin number s
  | .tableList => execTableList s
  | .lossAck => execLossAck s
  | .doorRelease side override => execDoorRelease side override s
  | .doorOpen side => execDoorOpen side s
  | .doorClose side => execDoorClose side s
  | .doorReset door => execDoorReset door s
  | .brakeDemand level release => execBrakeDemand level release s
  | .emergencyAck => execEmergencyAck s
  | .radioMode mode => execRadioMode mode s
  | .radioSend destination priority body => execRadioSend destination priority body s
  | .radioAbort handle => execRadioAbort handle s
  | .radioAbortAll => execRadioAbortAll s
  | .mailboxRead => execMailboxRead s
  | .mailboxRelease => execMailboxRelease s
  | .statusRead sect => execStatusRead sect s
  | .flagsReadClear mask => execFlagsReadClear mask s
  | .flagsEnable mask => execFlagsEnable mask s
  | .softReset => execSoftReset s
  | .powerOnReset | .frameError _ _ | .responseReadout _ | .protocolBytesIgnored
  | .rawInputChange _ _ _ | .acceptedStep _ _ _ | .standstillTimerExpiry | .wheelPulse _
  | .markerPulse _ | .minuteTimerExpiry | .evaluationTimerExpiry | .emergInAsserted
  | .emergInReleased | .loopSenseChange _ | .bandSenseChange _ | .rampTimerExpiry
  | .overlapTimerExpiry | .bandApplyTimerExpiry | .loopAgreementTimerExpiry | .doorButtonPress _ _
  | .doorObstruction _ _ | .doorOpenEnd _ _ | .doorClosedChange _ _ | .doorLockedChange _ _
  | .doorMotionTimerExpiry _ | .doorLockTimerExpiry _ | .receivedByte _ | .silenceTimerExpiry
  | .linkTimerExpiry | .carrierChange _ | .modeChange | .transmissionStart | .endOfTransmission
  | .waitingItemsPlaced | .issue _ _ _ | .revoke _ _ _ | .poll _ _ | .tableQuery _ _ | .text _ _ _
  | .linkCheck _ _ | .frameNotUsed _ _ _ _ | .loopedFrame | .reportTimerExpiry
  | .requestSelectionFirstClock => .next s

/-- SELECT is deasserted in RECEIVING: the port takes the request in its buffer, the bytes of the first
selection, or answers the status of the first check of R195 that they fail; a byte in progress is not
whole (R193 to R195). -/
def State.takeBuffer (s : State) : Result :=
  match decodeRequest s.port.request s.port.bits.isEmpty with
  | .ok i => s.takeRequest i
  | .error _ => execFrameError s.port.request s.port.bits.isEmpty s

/-- A change of SELECT, which has no filter: its deassertion in RECEIVING is the taking of the request
(R193; log entry 5). -/
def State.selectChange (level : Bool) (s : State) : Result :=
  if level then .next (s.onPort Port.select)
  else if s.readyHigh then s.takeBuffer
  else .next (s.onPort Port.deselect)

/-! ### The RESET pin (R194, R202) -/

/-- An input takes a raw level, and nothing else happens. -/
def State.withRaw (input : InputId) (level : Bool) (s : State) : State :=
  let raw (i : InputLine) : InputLine := { i with raw := level }
  match input with
  | .pinA => s.onOdo fun o => { o with pinA := raw o.pinA }
  | .pinB => s.onOdo fun o => { o with pinB := raw o.pinB }
  | .wheel => s.onOdo fun o => { o with wheel := raw o.wheel }
  | .marker => s.onOdo fun o => { o with marker := raw o.marker }
  | .emergIn => { s with brake := { s.brake with emergIn := raw s.brake.emergIn } }
  | .loopSense => { s with brake := { s.brake with loopSense := raw s.brake.loopSense } }
  | .bandSense => { s with brake := { s.brake with bandSense := raw s.brake.bandSense } }
  | .door id line =>
    let d := s.doors.get id
    { s with doors := s.doors.put (d.setLine (raw (d.line line)) line) id }
  | .select => s.onPort fun p => { p with selected := level }
  | .sclk => s.onPort fun p => { p with sclk := level }
  | .sdi => s.onPort fun p => { p with sdi := level }
  | .reset => { s with resetHeld := level }

/-- RAW_INPUT_CHANGE: a raw change begins or cancels the timing of its filter, and with filter code 0
it is accepted when it is seen (R19, R117, R137; log entry 10). The lines of the host link and RESET
have no filter. At the assertion of RESET every block takes its power-on values, and while it stands, to
its release, they are retaken as the wires change (R193, R194, R202; log entry 30). -/
def execRawInputChange (input : InputId) (level : Bool) (now : Micros) (s : State) : Result :=
  let t := s.pinionFilter
  s.unlessReset (s.withRaw input level).powerOn <|
  match input with
  | .pinA =>
    if s.odo.pinA.acceptsNow t level then .next (s.pinionStep level s.odo.pinB.level now)
    else .next (s.onOdo fun o => { o with pinA := o.pinA.rawChange t level })
  | .pinB =>
    if s.odo.pinB.acceptsNow t level then .next (s.pinionStep s.odo.pinA.level level now)
    else .next (s.onOdo fun o => { o with pinB := o.pinB.rawChange t level })
  | .wheel =>
    if s.odo.wheel.acceptsNow t level then .next (s.wheelChange level)
    else .next (s.onOdo fun o => { o with wheel := o.wheel.rawChange t level })
  | .marker =>
    if s.odo.marker.acceptsNow t level then .next (s.markerChange level)
    else .next (s.onOdo fun o => { o with marker := o.marker.rawChange t level })
  | .emergIn =>
    .next { s with brake := { s.brake with
      emergIn := s.brake.emergIn.rawChange Config.brakeFilterMicros level } }
  | .loopSense =>
    .next { s with brake := { s.brake with
      loopSense := s.brake.loopSense.rawChange Config.brakeFilterMicros level } }
  | .bandSense =>
    .next { s with brake := { s.brake with
      bandSense := s.brake.bandSense.rawChange Config.brakeFilterMicros level } }
  | .door id line =>
    let d := s.doors.get id
    let d := d.setLine ((d.line line).rawChange Config.doorFilterMicros level) line
    .next { s with doors := s.doors.put d id }
  | .select => s.selectChange level
  | .sclk => .next (s.onPort (Port.clock level))
  | .sdi => .next (s.onPort fun p => { p with sdi := level })
  | .reset => .next (if level then (s.withRaw .reset level).powerOn else s)

end Sys2Proof.Machine
end

