-- ==== Sys2Proof/Machine/Dispatch.lean ====
section
/-! DEFINITION. The dispatch of every command to its meaning. -/

namespace Sys2Proof.Machine

def exec (i : Instr) (s : State) : Host.Outcome State Fault Refusal :=
  match i with
  | .powerOnReset => Sys2Proof.Machine.execPowerOnReset s
  | .profileWrite index start gradient limitUp limitDown marker => Sys2Proof.Machine.execProfileWrite index start gradient limitUp limitDown marker s
  | .profileClose lineEnd => Sys2Proof.Machine.execProfileClose lineEnd s
  | .profileClear => Sys2Proof.Machine.execProfileClear s
  | .profileRead index => Sys2Proof.Machine.execProfileRead index s
  | .lockRaise => Sys2Proof.Machine.execLockRaise s
  | .configWrite index value => Sys2Proof.Machine.execConfigWrite index value s
  | .configRead index => Sys2Proof.Machine.execConfigRead index s
  | .positionSet position => Sys2Proof.Machine.execPositionSet position s
  | .directionSelect direction => Sys2Proof.Machine.execDirectionSelect direction s
  | .recordIssue origin body => Sys2Proof.Machine.execRecordIssue origin body s
  | .recordRevoke origin number => Sys2Proof.Machine.execRecordRevoke origin number s
  | .recordRead slot => Sys2Proof.Machine.execRecordRead slot s
  | .recordFind origin number => Sys2Proof.Machine.execRecordFind origin number s
  | .tableList => Sys2Proof.Machine.execTableList s
  | .lossAck => Sys2Proof.Machine.execLossAck s
  | .doorRelease side override => Sys2Proof.Machine.execDoorRelease side override s
  | .doorOpen side => Sys2Proof.Machine.execDoorOpen side s
  | .doorClose side => Sys2Proof.Machine.execDoorClose side s
  | .doorReset door => Sys2Proof.Machine.execDoorReset door s
  | .brakeDemand level release => Sys2Proof.Machine.execBrakeDemand level release s
  | .emergencyAck => Sys2Proof.Machine.execEmergencyAck s
  | .radioMode mode => Sys2Proof.Machine.execRadioMode mode s
  | .radioSend destination priority body => Sys2Proof.Machine.execRadioSend destination priority body s
  | .radioAbort handle => Sys2Proof.Machine.execRadioAbort handle s
  | .radioAbortAll => Sys2Proof.Machine.execRadioAbortAll s
  | .mailboxRead => Sys2Proof.Machine.execMailboxRead s
  | .mailboxRelease => Sys2Proof.Machine.execMailboxRelease s
  | .statusRead sect => Sys2Proof.Machine.execStatusRead sect s
  | .flagsReadClear mask => Sys2Proof.Machine.execFlagsReadClear mask s
  | .flagsEnable mask => Sys2Proof.Machine.execFlagsEnable mask s
  | .softReset => Sys2Proof.Machine.execSoftReset s
  | .frameError bytes wholeBytes => Sys2Proof.Machine.execFrameError bytes wholeBytes s
  | .responseReadout clockedBytes => Sys2Proof.Machine.execResponseReadout clockedBytes s
  | .protocolBytesIgnored => Sys2Proof.Machine.execProtocolBytesIgnored s
  | .rawInputChange input level now => Sys2Proof.Machine.execRawInputChange input level now s
  | .acceptedStep pinA pinB now => Sys2Proof.Machine.execAcceptedStep pinA pinB now s
  | .standstillTimerExpiry => Sys2Proof.Machine.execStandstillTimerExpiry s
  | .wheelPulse level => Sys2Proof.Machine.execWheelPulse level s
  | .markerPulse level => Sys2Proof.Machine.execMarkerPulse level s
  | .minuteTimerExpiry => Sys2Proof.Machine.execMinuteTimerExpiry s
  | .evaluationTimerExpiry => Sys2Proof.Machine.execEvaluationTimerExpiry s
  | .emergInAsserted => Sys2Proof.Machine.execEmergInAsserted s
  | .emergInReleased => Sys2Proof.Machine.execEmergInReleased s
  | .loopSenseChange level => Sys2Proof.Machine.execLoopSenseChange level s
  | .bandSenseChange level => Sys2Proof.Machine.execBandSenseChange level s
  | .rampTimerExpiry => Sys2Proof.Machine.execRampTimerExpiry s
  | .overlapTimerExpiry => Sys2Proof.Machine.execOverlapTimerExpiry s
  | .bandApplyTimerExpiry => Sys2Proof.Machine.execBandApplyTimerExpiry s
  | .loopAgreementTimerExpiry => Sys2Proof.Machine.execLoopAgreementTimerExpiry s
  | .doorButtonPress door level => Sys2Proof.Machine.execDoorButtonPress door level s
  | .doorObstruction door level => Sys2Proof.Machine.execDoorObstruction door level s
  | .doorOpenEnd door level => Sys2Proof.Machine.execDoorOpenEnd door level s
  | .doorClosedChange door level => Sys2Proof.Machine.execDoorClosedChange door level s
  | .doorLockedChange door level => Sys2Proof.Machine.execDoorLockedChange door level s
  | .doorMotionTimerExpiry door => Sys2Proof.Machine.execDoorMotionTimerExpiry door s
  | .doorLockTimerExpiry door => Sys2Proof.Machine.execDoorLockTimerExpiry door s
  | .receivedByte source => Sys2Proof.Machine.execReceivedByte source s
  | .silenceTimerExpiry => Sys2Proof.Machine.execSilenceTimerExpiry s
  | .linkTimerExpiry => Sys2Proof.Machine.execLinkTimerExpiry s
  | .carrierChange level => Sys2Proof.Machine.execCarrierChange level s
  | .modeChange => Sys2Proof.Machine.execModeChange s
  | .transmissionStart => Sys2Proof.Machine.execTransmissionStart s
  | .endOfTransmission => Sys2Proof.Machine.execEndOfTransmission s
  | .waitingItemsPlaced => Sys2Proof.Machine.execWaitingItemsPlaced s
  | .issue destination source body => Sys2Proof.Machine.execIssue destination source body s
  | .revoke destination source number => Sys2Proof.Machine.execRevoke destination source number s
  | .poll destination source => Sys2Proof.Machine.execPoll destination source s
  | .tableQuery destination source => Sys2Proof.Machine.execTableQuery destination source s
  | .text destination source body => Sys2Proof.Machine.execText destination source body s
  | .linkCheck destination source => Sys2Proof.Machine.execLinkCheck destination source s
  | .frameNotUsed destination source kind body => Sys2Proof.Machine.execFrameNotUsed destination source kind body s
  | .loopedFrame => Sys2Proof.Machine.execLoopedFrame s
  | .reportTimerExpiry => Sys2Proof.Machine.execReportTimerExpiry s
  | .requestSelectionFirstClock => Sys2Proof.Machine.execRequestSelectionFirstClock s

end Sys2Proof.Machine
end

