-- ==== Sys2Proof/Machine/Step.lean ====
section
/-! DEFINITION. One step of the part: the command at the front of the queue is taken whole, and with an empty
queue the part idles. -/

namespace Sys2Proof.Machine

/-- The state with other waiting commands. -/
def State.withPending (cs : List Instr) (s : State) : State := { s with pending := cs }

/-- One step: the front command is executed with the queue's rest waiting; on an empty queue nothing
happens (log entry 1). -/
def step (s : State) : Host.Outcome State Fault Refusal :=
  match s.pending with
  | [] => .next s
  | c :: rest => exec c (s.withPending rest)

/-- The state with the command that a word spells put at the front of the queue. No row of the opcode
table gives bits, so no word spells one, and the state is as it was. -/
def State.withFetchWord (s : State) (nbits w : Nat) : State :=
  match decodeTableWord nbits w with
  | some c => s.withPending (c :: s.pending)
  | none => s

end Sys2Proof.Machine
end

