-- ==== Sys2Proof/Safety.lean ====
section
/-! DEFINITION. What a good state is: for each block, the bounds and relations that the manual says hold at
all times. Each is a decidable predicate of plain data. Claims state that reset meets them and that
every step keeps them. -/

namespace Sys2Proof.Machine

/-! ### Profile store (R1, R3, R4, R11, R14, R15, R17) -/

/-- The fields of a segment lie in their ranges (R1). -/
abbrev Segment.InRange (g : Segment) : Prop :=
  g.start ≤ Config.maxSegmentStart ∧ -Config.maxGradient ≤ g.gradient
    ∧ g.gradient ≤ Config.maxGradient ∧ 1 ≤ g.limitUp ∧ g.limitUp ≤ Config.maxSpeed
    ∧ 1 ≤ g.limitDown ∧ g.limitDown ≤ Config.maxSpeed

/-- The segment list holds at most 96 segments in strictly ascending order of start, the first at 0,
each with its fields in range (R1). -/
abbrev Profile.SegmentsGood (p : Profile) : Prop :=
  p.segments.length ≤ Config.maxSegments
    ∧ p.segments.Pairwise (fun g h => g.start < h.start)
    ∧ (∀ g ∈ p.segments.head?, g.start = 0)
    ∧ ∀ g ∈ p.segments, g.InRange

/-- The line end is present exactly while the profile is VALID, and then lies beyond the start of the
last segment and within 1..400,000 (R3, R4, R7). -/
abbrev Profile.LineEndGood (p : Profile) : Prop :=
  (p.lineEnd.isSome ↔ p.state = .valid)
    ∧ ∀ e ∈ p.lineEnd, e ≤ Config.maxPosition ∧ ∃ g ∈ p.segments.getLast?, g.start < e

/-- An EMPTY profile holds no segment, and above lock level OPEN the profile is VALID (R4, R17). -/
abbrev Profile.LevelsGood (p : Profile) : Prop :=
  (p.state = .empty → p.segments = []) ∧ (p.lock ≠ .levelOpen → p.state = .valid)

/-- Every parameter lies in its range, #4 up to the car length, and #19 does not exceed #20 (R11, R14,
R15, R208). -/
abbrev Profile.ParamsGood (p : Profile) : Prop :=
  p.params.length = Config.paramCount
    ∧ (∀ i ∈ List.range Config.paramCount,
        (Config.paramRows.getD i ⟨0, 0, 0⟩).lo ≤ p.params.getD i 0
          ∧ (i ≠ 4 → p.params.getD i 0 ≤ (Config.paramRows.getD i ⟨0, 0, 0⟩).hi))
    ∧ p.params.getD 4 0 ≤ p.params.getD 3 0
    ∧ p.params.getD 19 0 ≤ p.params.getD 20 0

/-- The profile store is good. -/
abbrev Profile.Good (p : Profile) : Prop :=
  p.SegmentsGood ∧ p.LineEndGood ∧ p.LevelsGood ∧ p.ParamsGood

/-! ### Odometry unit (R22, R24 to R27, R37) -/

/-- Position, speed and rollback count lie in their ranges; the standstill timer runs and a measured
direction stands exactly while MOTION is true; at standstill speed and rollback count are 0 and the
capture history is empty. -/
abbrev Odometry.Good (o : Odometry) : Prop :=
  o.position ≤ Config.maxPosition ∧ o.speed ≤ Config.maxSpeed ∧ o.rollback ≤ Config.maxRollback
    ∧ (o.standstillTimer.isSome ↔ o.motion = true)
    ∧ (o.measured.isSome ↔ o.motion = true)
    ∧ (o.motion = false → o.speed = 0 ∧ o.rollback = 0 ∧ o.history = none)
    ∧ ∀ h ∈ o.history, h.count < h.size

/-! ### Restriction table (R41, R42, R45, R49, R58, R59) -/

/-- An origin is VEHICLE or a station 1..15 (R42). -/
def Origin.good : Origin → Bool
  | .vehicle => true
  | .station n => decide (1 ≤ n ∧ n ≤ 15)

/-- What a SPEED record imposes is at most 1023 (R46). -/
def Imposes.good : Imposes → Bool
  | .speed limit => decide (limit ≤ Config.maxSpeed)
  | .stop => true
  | .doors _ => true

/-- A live record: start ≤ end ≤ 400,000, a STOP record a point with no lifetime and no passage,
EXPIRING exactly when the lifetime has run out (R42, R45, R46, R59). -/
abbrev Record.Good (r : Record) : Prop :=
  r.first ≤ r.last ∧ r.last ≤ Config.maxPosition ∧ r.imposes.good = true ∧ r.origin.good = true
    ∧ r.number < 65536 ∧ (∀ n ∈ r.lifetime, n ≤ 255)
    ∧ (r.expiring = true ↔ r.lifetime = some 0)
    ∧ (r.imposes = .stop → r.first = r.last ∧ r.lifetime = none ∧ r.passage = false)

/-- Two live records do not share origin and number, and two STOP records do not share an origin (R47,
R49). -/
abbrev Record.Apart (r q : Record) : Prop :=
  ¬(r.origin = q.origin ∧ r.number = q.number)
    ∧ ¬(r.imposes = .stop ∧ q.imposes = .stop ∧ r.origin = q.origin)

/-- The live records, in slot order. -/
abbrev Table.records (t : Table) : List Record := t.slots.filterMap id

/-- The table: 32 slots, every record good and apart from every other, and the minute timer running
exactly while a live record holds a lifetime of 1..255 (R41, R42, R49, R58, R62). -/
abbrev Table.Good (t : Table) : Prop :=
  t.slots.length = Config.slotCount ∧ (∀ r ∈ t.records, r.Good)
    ∧ t.records.Pairwise Record.Apart
    ∧ (t.minuteTimer.isSome ↔ t.anyLifetime = true) ∧ t.noticeSeq < 65536

/-! ### Speed supervisor (R74, R101, R102, R112) -/

/-- Permitted speed and excess lie in their ranges, the demand is the one of the state, the evaluation
timer runs, and a cause is present only in EMERGENCY. -/
abbrev Supervisor.Good (p : Supervisor) : Prop :=
  p.permitted ≤ Config.maxSpeed ∧ -1023 ≤ p.excess ∧ p.excess ≤ 1023
    ∧ p.demand = p.state.demand ∧ p.evalTimer.isSome = true
    ∧ (p.causes.any = true → p.state = .emergency)

/-! ### Brake output unit (R116, R119, R122, R123, R125, R127, R130, R132) -/

/-- LOOP and BAND are as their conditions form them (R116, R119, R125). -/
abbrev Brake.SwitchesFormed (b : Brake) : Prop := b.loop = b.loopWanted ∧ b.band = b.bandWanted

/-- SERVICE is 100 % while SAFE; in ARMED it is never below the merged demand, and the ramp timer runs
exactly while it is above (R116, R123). -/
abbrev Brake.ServiceFormed (b : Brake) : Prop :=
  b.service ≤ 100
    ∧ (b.unit = .safe → b.service = 100 ∧ b.ramp = none)
    ∧ (b.unit = .armed → b.merged ≤ b.service ∧ (b.ramp.isSome ↔ b.merged < b.service))

/-- The brake output unit is good: outputs as formed, the demands within 100 %, the floor 0 while no
overlap runs and an overlap only within the handover hold, and the feedback timers stopped where
there is nothing to supervise. -/
abbrev Brake.Good (b : Brake) : Prop :=
  b.SwitchesFormed ∧ b.ServiceFormed ∧ b.hostLevel ≤ 100 ∧ b.supDemand = b.supState.demand
    ∧ b.floor ≤ 100 ∧ (b.overlap = none → b.floor = 0) ∧ (b.overlap.isSome → b.hold = true)
    ∧ (b.hold = true → b.motion = true)
    ∧ (b.bandTimer.isSome → b.band = false ∧ b.bandSense.level = false)
    ∧ (b.loopTimer.isSome → b.loopAgrees = false)

/-! ### Door controller (R138, R143, R147, R148) -/

/-- A door's timers run exactly in the states that R138 gives, its reopen count is at most 5, and the
reclose mark is set only while it reopens. -/
abbrev Door.Good (d : Door) : Prop :=
  (d.motionTimer.isSome ↔ d.state = .opening ∨ d.state = .closing)
    ∧ (d.lockTimer.isSome ↔ d.state = .locking) ∧ d.reopen ≤ 5

/-- The doors are good, and an UNLOCKED door stands on a RELEASED side (R143). -/
abbrev Doors.Good (ds : Doors) : Prop :=
  ∀ i ∈ allDoors, (ds.get i).Good
    ∧ ((ds.get i).state = .unlocked → ds.released (doorSide i) = true)

/-! ### Radio (R159, R167, R168, R171, R173, R176, R183, R187, R191) -/

/-- A frame buffer holds at most 64 content bytes, a FREE one none, and a HELD or PROCESSING one a frame
that has passed its checks (R159, R161, R162). -/
abbrev FrameBuffer.Good (b : FrameBuffer) : Prop :=
  b.content.length ≤ Config.bufferSize ∧ (b.state = .free → b.content = [])
    ∧ (b.state = .held ∨ b.state = .processing → checkContent b.content = none)

/-- The other buffer. -/
def BufId.other : BufId → BufId
  | .buf0 => .buf1
  | .buf1 => .buf0

/-- The buffers agree with the assembler and the processor: a buffer is ASSEMBLING exactly while the
assembler is INSIDE it, one is PROCESSING exactly while the processor is BUSY, not both are, and a
buffer is HELD only while the other is PROCESSING (R159, R163, R164). -/
abbrev Radio.BuffersGood (r : Radio) : Prop :=
  r.buf0.Good ∧ r.buf1.Good
    ∧ (∀ i ∈ [BufId.buf0, .buf1], ((r.buf i).state = .assembling ↔ r.assembler = some i)
        ∧ ((r.buf i).state = .held → (r.buf i.other).state = .processing)
        ∧ ((r.buf i).state = .processing → (r.buf i.other).state ≠ .processing))
    ∧ (r.busy = true ↔ r.buf0.state = .processing ∨ r.buf1.state = .processing)
    ∧ (r.waiting.isSome ↔ r.busy = true)
    ∧ (r.silence.isSome ↔ r.assembler.isSome)

/-- The transmit queue: at most six entries, at most one unsent spontaneous report, the started entry is
the one in flight, and no body that waits is longer than 56 bytes (R161, R173, R183, R184, R186). -/
abbrev Radio.QueueGood (r : Radio) : Prop :=
  r.queue.length ≤ Config.queueSize ∧ r.nextHandle < 256
    ∧ (r.queue.filter QueueEntry.unsentReport).length ≤ 1
    ∧ (r.queue.filter QueueEntry.started).map QueueEntry.handle = r.tx.toList.map InFlight.handle
    ∧ (∀ e ∈ r.queue, e.handle < 256 ∧ e.priority ≤ 3 ∧ e.body.length ≤ Config.maxBody)
    ∧ (∀ a ∈ r.waiting, a.body.length ≤ Config.maxBody)
    ∧ (∀ b ∈ r.pendingAlarm, b.length ≤ Config.maxBody)

/-- The host mailbox holds at most four entries, with bodies of at most 56 bytes (R191). -/
abbrev Radio.MailboxGood (r : Radio) : Prop :=
  r.mailbox.length ≤ Config.mailboxSize ∧ ∀ m ∈ r.mailbox, m.body.length ≤ Config.maxBody

/-- KEY is asserted exactly while a frame is sent in NORMAL, a frame is sent in NORMAL and SELFTEST
only, and a waiting mode change waits for a line that is not quiet (R167, R168, R174). -/
abbrev Radio.LineGood (r : Radio) : Prop :=
  (r.key = true ↔ r.tx.isSome ∧ r.current = .normal)
    ∧ (r.tx.isSome → r.current = .normal ∨ r.current = .selftest)
    ∧ (r.assembler.isSome → r.current ≠ .off ∧ r.current ≠ .config)
    ∧ (r.changeWaits = true → r.quiet = false)

/-- The link timer runs exactly while the link is OK, and that only in NORMAL and LISTEN (R168, R171).
-/
abbrev Radio.LinkGood (r : Radio) : Prop :=
  (r.linkTimer.isSome ↔ r.link = .ok) ∧ (r.link = .ok → r.current = .normal ∨ r.current = .listen)

/-- A frame that is HELD outside SELFTEST comes from a station 1..15 (R163, R168). -/
abbrev Radio.HeldGood (r : Radio) : Prop :=
  r.current ≠ .selftest → ∀ i ∈ [BufId.buf0, .buf1], (r.buf i).state = .held →
    1 ≤ (frameOf (r.buf i).content).source.toNat ∧ (frameOf (r.buf i).content).source.toNat ≤ 15

/-- The radio: buffers, queue, mailbox, line and link good (R159 to R191). -/
structure Radio.Good (r : Radio) : Prop where
  buffers : r.BuffersGood
  held : r.HeldGood
  queue : r.QueueGood
  mailbox : r.MailboxGood
  line : r.LineGood
  link : r.LinkGood
  sequence : r.txSeq < 256

/-! ### Host port (R193) -/

/-- A response is held exactly in RESPONSE_READY and READOUT and carries at most 250 data bytes; only
a RECEIVING port has a closed buffer; the rest of a cut selection is ignored in IDLE and ends with
SELECT; SELECT is asserted in RECEIVING and READOUT and not in RESPONSE_READY; a byte in progress has
fewer than eight bits and stands in RECEIVING and READOUT only; and in READOUT, with SCLK low, SDO
shows the next bit of the response (R193, R194, R196). -/
abbrev Port.Good (p : Port) : Prop :=
  (p.response.isSome ↔ p.state = .responseReady ∨ p.state = .readout)
    ∧ (p.closed = true → p.state = .receiving)
    ∧ (p.ignoring = true → p.state = .idle ∧ p.selected = true)
    ∧ (p.state = .receiving ∨ p.state = .readout → p.selected = true)
    ∧ (p.state = .responseReady → p.selected = false)
    ∧ p.bits.length < 8 ∧ (p.bits ≠ [] → p.state = .receiving ∨ p.state = .readout)
    ∧ (p.state = .readout ∧ p.sclk = false →
        p.sdo = p.sdoBit (8 * p.shifted.length + p.bits.length))
    ∧ ∀ r ∈ p.response, r.data.length ≤ 250

/-! ### What the blocks keep of each other (R39, R107, R108, R116, R118, R152) -/

/-- Each block's kept values agree with the block they come from: the brake output unit's and the
supervisor's and the door controller's views are those of their sources, a fault latch stands exactly
with its cause, and the unit is ARMED exactly at CONFIG_LOCKED. -/
abbrev State.Agree (s : State) : Prop :=
  (s.brake.unit = .armed ↔ s.profile.lock = .configLocked)
    ∧ s.brake.supState = s.sup.state ∧ s.brake.supDemand = s.sup.demand
    ∧ s.brake.secure = s.doors.secure ∧ s.sup.doorsSecure = s.doors.secure
    ∧ s.brake.motion = s.odo.motion ∧ s.doors.motion = s.odo.motion
    ∧ s.brake.speed = s.odo.speed
    ∧ s.sup.emergIn = s.brake.emergAsserted ∧ s.sup.causes.emergencyLine = s.sup.emergIn
    ∧ s.sup.causes.pinionSensor = s.odo.pinionSensor ∧ s.sup.causes.pinionSlip = s.odo.pinionSlip
    ∧ s.sup.causes.rollback = s.odo.rollbackLatch ∧ s.sup.causes.bandFault = s.brake.bandFault
    ∧ s.sup.causes.loopFault = s.brake.loopFault
    ∧ (s.brake.unit = .safe → s.sup.state = .emergency)

/-- A good state of the whole part: its blocks are good and agree, and while RESET is asserted they
stand at their power-on values (R202). -/
structure State.Good (s : State) : Prop where
  port : s.port.Good
  profile : s.profile.Good
  odo : s.odo.Good
  table : s.table.Good
  sup : s.sup.Good
  brake : s.brake.Good
  doors : s.doors.Good
  radio : s.radio.Good
  agree : s.Agree
  held : s.resetHeld = true → s.powerOn = s

/-! ### Runs -/

/-- Steps from a state, one after the other; a stop ends the run. -/
def runFrom : Nat → State → Option State
  | 0, s => some s
  | n + 1, s =>
    match step s with
    | .next t => runFrom n t
    | .fault _ => none
    | .refused _ => none

/-- The commands of a list, one after the other. -/
def runCommands : List Instr → State → Option State
  | [], s => some s
  | c :: rest, s =>
    match exec c s with
    | .next t => runCommands rest t
    | .fault _ => none
    | .refused _ => none

/-- The part takes the request of a host command: RESET is released, and the port is IDLE, or RECEIVING
the beginning of the command's frame (R193, R194, R202). In every other port state the selection is a
readout or is ignored. -/
abbrev State.Takes (i : Instr) (s : State) : Prop :=
  s.resetHeld = false ∧ s.port.Takes ((encodeRequest i).getD []) true

/-- A command brings a host request: RESET is released, and it is that request, or the change of SELECT
to deasserted at which the port takes it from its buffer (R193, R202). -/
abbrev State.Brings (s : State) (i request : Instr) : Prop :=
  s.resetHeld = false
    ∧ (i = request ∨ (∃ now, i = .rawInputChange .select false now) ∧ s.port.state = .receiving
      ∧ decodeRequest s.port.request s.port.bits.isEmpty = .ok request)

/-- A command resets the part: POWER_ON_RESET, the assertion of RESET, or a change of an input while
RESET is asserted (R202). -/
abbrev State.Resets (s : State) (i : Instr) : Prop :=
  i = .powerOnReset ∨ ∃ input level now, i = .rawInputChange input level now
    ∧ (s.resetHeld = true ∨ (input = .reset ∧ level = true))

/-- The state with the response to a host request held: its request frame taken, RESPONSE_READY
(R193). -/
def State.answers (i : Instr) (status : Status) (data : List Byte) (s : State) : State :=
  s.respond ((encodeRequest i).getD []) ⟨status, data⟩

/-- A safe outcome: a next state in which a band that is released or a loop that is closed stands only
with an ARMED unit out of EMERGENCY, with no emergency line and, for the band, all doors LOCKED (R119,
R125). -/
abbrev State.Safe (s : State) : Prop :=
  (s.brake.loop = true → s.brake.unit = .armed ∧ s.sup.state ≠ .emergency
      ∧ s.brake.emergAsserted = false)
    ∧ (s.brake.band = true → s.brake.unit = .armed ∧ s.sup.state ≠ .emergency
      ∧ s.brake.emergAsserted = false ∧ s.doors.secure = true)

end Sys2Proof.Machine
end

