-- ==== Sys2Proof/WellFormed.lean ====
section
/-! DEFINITION. Which commands are what their row names: the bounds that the manual puts on a command's
operands before any block judges them. `exec` takes ill-formed commands too, and treats them as the
bytes they would be. -/

namespace Sys2Proof

open Machine

/-- A source that is a station (R163). -/
def isStation (source : Byte) : Bool := decide (1 ≤ source.toNat) && decide (source.toNat ≤ 15)

/-- The processor uses a frame of this kind with this body length (R177, R206). -/
def frameUsed (kind : Byte) (length : Nat) : Bool :=
  (kind == kindIssue && length == 12) || (kind == kindRevoke && length == 2)
    || (kind == kindPoll && length == 0) || (kind == kindTableQuery && length == 0)
    || (kind == kindText && decide (length ≤ Config.maxBody))
    || (kind == kindLinkCheck && length == 0)

/-- Bytes that fail the checks of R195. -/
def failsRequest (bytes : List Byte) (wholeBytes : Bool) : Bool :=
  match decodeRequest bytes wholeBytes with
  | .error _ => true
  | .ok _ => false

/-- A body that a frame can carry (R206). -/
def bodyFits (body : List Byte) : Bool := decide (body.length ≤ Config.maxBody)

/-- The well-formed commands (R163, R177, R188, R195, R206). -/
def Instr.wf : Instr → Bool
  | .radioSend _ _ body => bodyFits body
  | .frameError bytes wholeBytes => failsRequest bytes wholeBytes
  | .issue _ source _ => isStation source
  | .revoke _ source _ => isStation source
  | .poll _ source => isStation source
  | .tableQuery _ source => isStation source
  | .text _ source body => isStation source && bodyFits body
  | .linkCheck _ source => isStation source
  | .frameNotUsed _ source kind body =>
    isStation source && bodyFits body && !frameUsed kind body.length
  | .powerOnReset => true
  | .profileWrite _ _ _ _ _ _ => true
  | .profileClose _ => true
  | .profileClear => true
  | .profileRead _ => true
  | .lockRaise => true
  | .configWrite _ _ => true
  | .configRead _ => true
  | .positionSet _ => true
  | .directionSelect _ => true
  | .recordIssue _ _ => true
  | .recordRevoke _ _ => true
  | .recordRead _ => true
  | .recordFind _ _ => true
  | .tableList => true
  | .lossAck => true
  | .doorRelease _ _ => true
  | .doorOpen _ => true
  | .doorClose _ => true
  | .doorReset _ => true
  | .brakeDemand _ _ => true
  | .emergencyAck => true
  | .radioMode _ => true
  | .radioAbort _ => true
  | .radioAbortAll => true
  | .mailboxRead => true
  | .mailboxRelease => true
  | .statusRead _ => true
  | .flagsReadClear _ => true
  | .flagsEnable _ => true
  | .softReset => true
  | .responseReadout _ => true
  | .protocolBytesIgnored => true
  | .rawInputChange _ _ _ => true
  | .acceptedStep _ _ _ => true
  | .standstillTimerExpiry => true
  | .wheelPulse _ => true
  | .markerPulse _ => true
  | .minuteTimerExpiry => true
  | .evaluationTimerExpiry => true
  | .emergInAsserted => true
  | .emergInReleased => true
  | .loopSenseChange _ => true
  | .bandSenseChange _ => true
  | .rampTimerExpiry => true
  | .overlapTimerExpiry => true
  | .bandApplyTimerExpiry => true
  | .loopAgreementTimerExpiry => true
  | .doorButtonPress _ _ => true
  | .doorObstruction _ _ => true
  | .doorOpenEnd _ _ => true
  | .doorClosedChange _ _ => true
  | .doorLockedChange _ _ => true
  | .doorMotionTimerExpiry _ => true
  | .doorLockTimerExpiry _ => true
  | .receivedByte _ => true
  | .silenceTimerExpiry => true
  | .linkTimerExpiry => true
  | .carrierChange _ => true
  | .modeChange => true
  | .transmissionStart => true
  | .endOfTransmission => true
  | .waitingItemsPlaced => true
  | .loopedFrame => true
  | .reportTimerExpiry => true
  | .requestSelectionFirstClock => true

end Sys2Proof
end

