-- ==== Sys2Proof/Certificates/Slice0/Obligations.lean ====
section
/-! DEFINITION. The statements about the K360 for the provers, each formalising rules of spec/ over every state
or over the good states of Safety.lean. None of them rests on what a free value is. A premise
`s.resetHeld = false` says that RESET is released; what every command does while it is asserted is in
ResetsTakeTheirValues (R202). -/

open Sys2Proof Sys2Proof.Machine

/-! ### Steps, runs and what holds at all times -/

/-- A step takes the command at the front of the queue and runs it with the rest waiting; on an empty
queue nothing happens (the model's choice, log entry 1). -/
def Obligations.StepRunsFrontCommand : Prop :=
  (∀ (c : Instr) (rest : List Instr) (s : State), s.pending = c :: rest →
      step s = exec c { s with pending := rest })
    ∧ ∀ s : State, s.pending = [] → step s = .next s

/-- Every command of the table, in every state, is taken whole and answers a next state, and it leaves
the commands that wait as they are (5.6: no rule stops the part). -/
def Obligations.EveryCommandCompletes : Prop :=
  ∀ (i : Instr) (s : State), ∃ t, exec i s = .next t ∧ t.pending = s.pending

/-- The state right after power-on reset is good and safe, and a power-on reset there changes nothing.
Every block has its power-on values: the port IDLE with every flag clear and every enable set, the
profile EMPTY and OPEN, every parameter at its default, the position 0 and not valid, no direction
selected, the table empty, EMERGENCY with the cause RESET, the unit SAFE, the doors LOCKED and
NOT_RELEASED, the radio OFF and LINK_LOST with its buffers FREE, its queue and mailbox empty and its
processor IDLE. The ranges and defaults are those of R208 (#4's range, 0..car length, at the default
car length). The raw inputs and CARRIER, the reading of the counter, the model's own counter, the
empty field that keeps what SDO carried and the levels of the host link and of RESET are the model's
choices (log entries 2, 3, 4, 6, 25 and 30) (R4, R17, R23, R36, R73, R115, R135, R154, R175, R192,
R202, R208). -/
def Obligations.ResetIsGood : Prop :=
  let rows : List (Nat × Nat × Nat) := [(32, 95, 32), (0, 3, 1), (0, 2, 1), (200, 1000, 480),
    (0, 480, 0), (4, 400, 40), (0, 7, 3), (0, 3, 2), (200, 5000, 1000), (5, 200, 40), (2, 50, 10),
    (1, 25, 8), (0, 200, 20), (500, 6000, 2600), (100, 1000, 300), (0, 100, 50), (0, 2550, 800),
    (0, 50000, 5000), (4000, 80000, 40000), (0, 200, 30), (0, 200, 60), (0, 50, 10), (50, 500, 150),
    (10, 100, 20), (0, 300, 50), (0, 255, 60), (1, 100, 20), (200, 2000, 800), (500, 10000, 6000),
    (100, 2000, 1000), (0, 5, 3), (2, 60, 10), (0, 60, 0), (0, 1, 1)]
  let low : InputLine := ⟨false, false, none⟩
  let high : InputLine := ⟨true, true, none⟩
  let door : Door := ⟨.locked, high, high, low, low, low, 0, false, none, none⟩
  State.reset.Good ∧ State.reset.Safe
    ∧ exec .powerOnReset State.reset = .next State.reset
    ∧ Config.paramRows.map (fun r => (r.lo, r.hi, r.default)) = rows
    ∧ State.reset.profile = ⟨[], none, .empty, .levelOpen, rows.map fun r => r.2.2⟩
    ∧ State.reset.port = {
        state := .idle, request := [], closed := false, response := none, shifted := [], bits := []
        selected := false, ignoring := false, sclk := false, sdi := false, sdo := false
        flags := 0, enables := 0x7FFF }
    ∧ State.reset.table = ⟨List.replicate 32 none, none, false,
        ⟨.issued, 0, .speed, .vehicle, 0, none⟩, 0⟩
    ∧ State.reset.odo = {
        pinA := low, pinB := low, wheel := low, marker := low
        position := 0, positionValid := false, motion := false, standstillTimer := none
        measured := none, speed := 0, history := none, timebase := 0, wheelTravel := 0
        netCounts := 0, lastCorrection := 0, selected := none, rollback := 0
        pinionSensor := false, pinionSlip := false, rollbackLatch := false }
    ∧ State.reset.radio = {
        markLatch := false, assembler := none, silence := none, buf0 := ⟨.free, []⟩
        buf1 := ⟨.free, []⟩, lastError := none, requested := .off, current := .off, link := .lost
        linkTimer := none, linkLost := false, tx := none, key := false, carrier := false
        busy := false, waiting := none, queue := [], nextHandle := 0, pendingAlarm := none
        reportTimer := none, mailbox := [], lastTx := none, txSeq := 0 }
    ∧ State.reset.sup = ⟨.emergency,
        ⟨false, false, false, false, false, false, false, true, false, false⟩, 0,
        ⟨100, true, true⟩, some 20, false, true, 0, none, none, false, none⟩
    ∧ State.reset.brake = {
        unit := .safe, hostLevel := 100, hostRelease := false, supState := .emergency
        supDemand := ⟨100, true, true⟩, secure := true, motion := false, speed := 0
        emergIn := high, loopSense := low, bandSense := high
        loop := false, band := false, service := 100, ramp := none, hold := false
        overlap := none, floor := 0, bandTimer := none, loopTimer := none
        bandFault := false, loopFault := false, lineHold := false }
    ∧ State.reset.doors = ⟨door, door, door, door, false, false, false, .held .d0⟩
    ∧ State.reset.resetHeld = false ∧ State.reset.free = 0 ∧ State.reset.pending = []

/-- Every step keeps the profile store good: the ordering of the segments, the line end, the levels and
the ranges and relations of the parameters (R1, R3, R4, R11, R14, R15, R17). -/
def Obligations.ProfileStaysGood : Prop :=
  ∀ s t : State, step s = .next t → s.profile.Good → t.profile.Good

/-- Every step keeps the odometry unit good (R22, R24 to R27, R37). -/
def Obligations.OdometryStaysGood : Prop :=
  ∀ s t : State, step s = .next t → s.profile.SegmentsGood → s.odo.Good → t.odo.Good

/-- Every step keeps the restriction table good: at most 32 records, no two with the same origin and
number, no two STOP records of one origin, every record within its ranges, EXPIRING exactly at lifetime
0, and the minute timer running exactly while a lifetime counts (R41, R42, R45, R49, R58, R59). -/
def Obligations.TableStaysGood : Prop :=
  ∀ s t : State, step s = .next t → s.table.Good → s.radio.BuffersGood → s.radio.HeldGood →
    t.table.Good

/-- Every step keeps the brake outputs as their conditions form them: LOOP and BAND, SERVICE against the
merged demand with its ramp, the overlap within the hold, and the feedback timers (R116, R119, R122,
R123, R125, R127, R130, R132). -/
def Obligations.BrakeOutputsStayFormed : Prop :=
  ∀ s t : State, step s = .next t → s.brake.Good → t.brake.Good

/-- Every step keeps the doors good: timers run exactly in the states that use them, the reopen count is
at most 5, and an UNLOCKED door stands on a RELEASED side (R143, R147, R148). -/
def Obligations.DoorsStayGood : Prop :=
  ∀ s t : State, step s = .next t → s.profile.ParamsGood → s.doors.Good → t.doors.Good

/-- Every step keeps the radio good: buffers, assembler and processor agree, the queue holds at most six
entries and one unsent report, the started entry is the one in flight, KEY follows the frame in flight,
and the link timer follows the link (R159, R163, R164, R167, R171, R173, R174, R183, R191). -/
def Obligations.RadioStaysGood : Prop :=
  ∀ s t : State, step s = .next t → s.radio.Good → t.radio.Good

/-- Every step from a good state keeps the supervisor good and keeps every value that one block holds of
another in agreement with its source, and while RESET is asserted the part stays at its power-on values
(R39, R107, R108, R112, R116, R118, R152, R202). -/
def Obligations.BlocksStayInAgreement : Prop :=
  ∀ s t : State, step s = .next t → s.Good → t.sup.Good ∧ t.Agree ∧ (t.resetHeld = true → t.powerOn = t)

/-- From any good state, with any commands waiting, a run of any length completes in a good state in
which a band is released or a loop closed only with an ARMED unit, out of EMERGENCY, with no plunger
pressed and, for the band, all doors LOCKED (R119, R125). -/
def Obligations.EveryRunStaysSafe : Prop :=
  ∀ (n : Nat) (s : State), s.Good → ∃ t, runFrom n s = some t ∧ t.Good ∧ t.Safe

/-! ### Rules over all commands -/

/-- A door leaves LOCKED only by a grant of its side's release, made at standstill with the band
applied, or to FAULT, or at a reset of the part (R141, R149, R154, R202). A request is taken by its
own command or at the deselection that ends it (log entry 5). -/
def Obligations.DoorsUnlockOnlyWhenHeld : Prop :=
  ∀ (i : Instr) (s t : State) (id : DoorId), exec i s = .next t →
    (s.doors.get id).state = .locked → (t.doors.get id).state ≠ .locked →
      (t.doors.get id).state = .fault ∨ s.Resets i
        ∨ ((t.doors.get id).state = .unlocked ∧ s.doors.motion = false
            ∧ s.brake.bandState = .applied
            ∧ ∃ side override, s.Brings i (.doorRelease side override)
                ∧ side.toNat = if id = .d0 ∨ id = .d1 then 1 else 2)

/-- The supervision state leaves EMERGENCY only by an EMERGENCY_ACK taken at standstill with the brake
unit ARMED and no live cause present (R104, R109). The request is taken by its own command or at the
deselection that ends it (log entry 5). -/
def Obligations.EmergencyEndsOnlyByAcknowledgment : Prop :=
  ∀ (i : Instr) (s t : State), exec i s = .next t → s.sup.state = .emergency →
    t.sup.state ≠ .emergency →
      s.Brings i .emergencyAck ∧ s.brake.unit = .armed ∧ s.odo.motion = false ∧ s.sup.emergIn = false

/-- The lock level never decreases except at a reset of the part; above OPEN the profile stands as it
is, and at CONFIG_LOCKED every parameter but #32 does (R17, R202). -/
def Obligations.LockLevelFreezesTheStore : Prop :=
  ∀ (i : Instr) (s t : State), exec i s = .next t → ¬s.Resets i →
    lockCode s.profile.lock ≤ lockCode t.profile.lock
      ∧ (s.profile.lock ≠ .levelOpen → t.profile.segments = s.profile.segments
          ∧ t.profile.lineEnd = s.profile.lineEnd ∧ t.profile.state = s.profile.state)
      ∧ (s.profile.lock = .configLocked → ∀ k, k ≠ 32 → t.param k = s.param k)

/-- Position changes only by POSITION_SET at standstill, by one count at an accepted step, by a marker
snap in motion within the capture window, and at a reset of the part (R22, R23, R29, R31, R202). The
request is taken by its own command or at the deselection that ends it (log entry 5). -/
def Obligations.PositionMovesOnlyByItsEvents : Prop :=
  ∀ (i : Instr) (s t : State), exec i s = .next t → t.odo.position ≠ s.odo.position →
    (∃ p, s.Brings i (.positionSet p) ∧ s.odo.motion = false ∧ t.odo.position = p.toNat)
      ∨ (s.Resets i ∧ t.odo.position = 0)
      ∨ ((t.odo.position = s.odo.position + 1 ∨ s.odo.position = t.odo.position + 1)
          ∧ ∃ a b now, i = .acceptedStep a b now ∨ i = .rawInputChange .pinA a now
            ∨ i = .rawInputChange .pinB b now)
      ∨ (s.odo.motion = true ∧ s.odo.positionValid = true
          ∧ (t.odo.position : Int) = s.odo.position + t.odo.lastCorrection
          ∧ t.odo.lastCorrection.natAbs ≤ s.param 5
          ∧ ∃ level now, i = .markerPulse level ∨ i = .rawInputChange .marker level now)

/-- A condition flag that is set stays set until a FLAGS_READ_CLEAR names it or a reset is taken
(R198, R199, R202, R203). A request is taken by its own command or at the deselection that ends it
(log entry 5). -/
def Obligations.FlagsStaySetUntilCleared : Prop :=
  ∀ (i : Instr) (s t : State) (f : Flag), exec i s = .next t → hasFlag s.port.flags f = true →
    hasFlag t.port.flags f = true ∨ (∃ mask, s.Brings i (.flagsReadClear mask) ∧ mask.getLsbD f.bit = true)
      ∨ (s.Brings i .softReset ∧ s.odo.motion = false) ∨ s.Resets i

/-! ### Frames -/

/-- Every well-formed host request is read back by the port from its own request frame, with every
operand at every value; a frame that the port reads as a request is that request's own frame; and the
frames of the requests are those of the command table, in command code, parameter fields and check byte
(R195, R197, R204). -/
def Obligations.RequestFramesRoundTrip : Prop :=
  (∀ (i : Instr) (bytes : List Byte), i.wf = true → encodeRequest i = some bytes →
    decodeRequest bytes true = .ok i)
  ∧ (∀ (i : Instr) (bytes : List Byte), decodeRequest bytes true = .ok i →
    encodeRequest i = some bytes)
  ∧ ∀ (i : Instr) (bytes : List Byte), encodeRequest i = some bytes →
    let frame (code : Byte) (params : List Byte) : List Byte :=
      let head := [code, BitVec.ofNat 8 params.length] ++ params
      head ++ [head.foldl (· - ·) 0]
    match i with
    | .profileWrite k st g u d m => bytes = frame 0x10
        ([k] ++ u24 st.toNat ++ u16 g.toNat ++ u16 u.toNat ++ u16 d.toNat ++ [m])
    | .profileClose e => bytes = frame 0x11 (u24 e.toNat)
    | .profileClear => bytes = frame 0x12 []
    | .profileRead k => bytes = frame 0x13 [k]
    | .lockRaise => bytes = frame 0x14 []
    | .configWrite k v => bytes = frame 0x18 ([k] ++ u24 v.toNat)
    | .configRead k => bytes = frame 0x19 [k]
    | .positionSet p => bytes = frame 0x20 (u24 p.toNat)
    | .directionSelect d => bytes = frame 0x21 [d]
    | .recordIssue o b => bytes = frame 0x28 ([o] ++ u16 b.number.toNat ++ [b.cls]
        ++ u24 b.start.toNat ++ u24 b.stop.toNat ++ u16 b.limitOrSides.toNat ++ [b.lifetime])
    | .recordRevoke o n => bytes = frame 0x29 ([o] ++ u16 n.toNat)
    | .recordRead k => bytes = frame 0x2A [k]
    | .recordFind o n => bytes = frame 0x2B ([o] ++ u16 n.toNat)
    | .tableList => bytes = frame 0x2C []
    | .lossAck => bytes = frame 0x2D []
    | .doorRelease side override => bytes = frame 0x30 [side, override]
    | .doorOpen side => bytes = frame 0x31 [side]
    | .doorClose side => bytes = frame 0x32 [side]
    | .doorReset door => bytes = frame 0x33 [door]
    | .brakeDemand level release => bytes = frame 0x38 [level, release]
    | .emergencyAck => bytes = frame 0x39 []
    | .radioMode mode => bytes = frame 0x40 [mode]
    | .radioSend d p body => bytes = frame 0x41 ([d, p] ++ body)
    | .radioAbort handle => bytes = frame 0x42 [handle]
    | .radioAbortAll => bytes = frame 0x43 []
    | .mailboxRead => bytes = frame 0x44 []
    | .mailboxRelease => bytes = frame 0x45 []
    | .statusRead sect => bytes = frame 0x50 [sect]
    | .flagsReadClear mask => bytes = frame 0x51 (u16 mask.toNat)
    | .flagsEnable mask => bytes = frame 0x52 (u16 mask.toNat)
    | .softReset => bytes = frame 0x53 []
    | _ => False

/-- A request frame that fails the checks of R195, in a request selection, is answered with the status
of the first check that fails and no data, and changes nothing else; the parameter lengths are those
of R197. Bytes that pass are no such frame, and the model leaves the state as it is (log entry 7). A
selection without an SCLK edge takes no request. With a response held, any selection that carries a
frame is a readout of as many bytes and its end, whatever the frame; the rest of a selection cut by a
reset is ignored up to its deselection; and a RECEIVING port whose bits are not the beginning of the
frame's, most significant bit first, is left as it is (the model's choice, log entry 5) (R193 to
R197). -/
def Obligations.FailedFramesAnswerTheFirstCheck : Prop :=
  let spelled (bytes : List Byte) : List Bool :=
    bytes.flatMap fun b => (List.range 8).map fun k => b.getLsbD (7 - k)
  (∀ (bytes : List Byte) (wholeBytes : Bool) (s : State), s.resetHeld = false →
    (s.port.state = .idle ∧ s.port.ignoring = false ∧ (bytes ≠ [] ∨ wholeBytes = false))
      ∨ (s.port.state = .receiving ∧ s.port.closed = false
        ∧ (spelled s.port.request ++ s.port.bits <+: spelled bytes
          ∨ (wholeBytes = false ∧ s.port.request = bytes)))
      ∨ (s.port.state = .receiving ∧ s.port.closed = true ∧ s.port.request = bytes
        ∧ wholeBytes = s.port.bits.isEmpty) →
    let code := (bytes.getD 0 0).toNat
    let len := (bytes.getD 1 0).toNat
    let lengths : List (Nat × Nat) := [(0x10, 11), (0x11, 3), (0x12, 0), (0x13, 1), (0x14, 0),
      (0x18, 4), (0x19, 1), (0x20, 3), (0x21, 1), (0x28, 13), (0x29, 3), (0x2A, 1), (0x2B, 3),
      (0x2C, 0), (0x2D, 0), (0x30, 2), (0x31, 1), (0x32, 1), (0x33, 1), (0x38, 2), (0x39, 0),
      (0x40, 1), (0x42, 1), (0x43, 0), (0x44, 0), (0x45, 0), (0x50, 1), (0x51, 2), (0x52, 2),
      (0x53, 0)]
    exec (.frameError bytes wholeBytes) s = .next (
      if wholeBytes = false ∨ bytes.length < 3 then s.respond bytes ⟨.frameError, []⟩
      else if 60 < len ∨ bytes.length ≠ len + 3 then s.respond bytes ⟨.frameError, []⟩
      else if (bytes.map BitVec.toNat).sum % 256 ≠ 0 then s.respond bytes ⟨.frameError, []⟩
      else if code ≠ 0x41 ∧ code ∉ lengths.map Prod.fst then
        s.respond bytes ⟨.unknownCommand, []⟩
      else if (code, len) ∉ lengths ∧ ¬(code = 0x41 ∧ 2 ≤ len ∧ len ≤ 58) then
        s.respond bytes ⟨.badValue, []⟩
      else s))
  ∧ ∀ (i : Instr) (bytes : List Byte) (whole : Bool) (s : State), s.resetHeld = false →
    (encodeRequest i = some bytes ∧ whole = true) ∨ i = .frameError bytes whole →
    (s.port.state = .responseReady ∨ s.port.state = .readout →
        exec i s = exec (.responseReadout bytes.length) s)
      ∧ (s.port.state = .idle → s.port.ignoring = true →
        exec i s = .next { s with port := { s.port with selected := false, ignoring := false } })
      ∧ (s.port.state = .receiving → s.port.closed = false →
        ¬spelled s.port.request ++ s.port.bits <+: spelled bytes →
        (whole = true ∨ s.port.request ≠ bytes) → exec i s = .next s)
      ∧ (s.port.state = .receiving → s.port.closed = true →
        (s.port.request ≠ bytes ∨ whole ≠ s.port.bits.isEmpty) → exec i s = .next s)
      ∧ (i = .frameError [] true → s.port.state = .idle → s.port.ignoring = false →
        exec i s = .next { s with port := { s.port with selected := false } })

/-- A frame as the transmitter forms it passes the receiver's checks and is read back whole (R158, R162,
R206). -/
def Obligations.FramePassesItsOwnChecks : Prop :=
  ∀ (destination source kind : Byte) (body : List Byte), body.length ≤ 56 →
    let content := frameContent destination source kind body
    let head := [destination, source, kind, BitVec.ofNat 8 body.length] ++ body
    content = head ++ u16 (checkValue head).toNat
      ∧ content.length = body.length + 6 ∧ checkContent content = none
      ∧ frameOf content = ⟨destination, source, kind, body⟩

/-- The line bytes of a frame, received one by one, bring the state in which the whole frame arrives:
the mark decoding, the assembler and the checks undo the transmitter's coding (R157 to R163). -/
def Obligations.LineBytesBringTheFrame : Prop :=
  ∀ (destination source kind : Byte) (body : List Byte) (parity : Byte → Bool) (s : State),
    s.resetHeld = false → s.radio.current = .normal ∨ s.radio.current = .listen → body.length ≤ 56 →
    s.radio.BuffersGood → s.radio.markLatch = false →
    (∀ b, parityOk (s.param 2) b (parity b) = true) →
      runCommands ((lineBytes (frameContent destination source kind body)).map fun b =>
          .receivedByte (.modem b (parity b) true)) s
        = some (s.frameArrives destination source kind body)

/-! ### The arithmetic of the permitted speed -/

/-- The curve speed of R94: the integer square root is the largest, both divisions round down, and the
curve is never below the target speed and equals it at distance 0. The gravity component of R88 and R89:
the table, its derivation rounded to the nearest integer, the truncating interpolation, and the bound at
500. -/
def Obligations.CurveArithmeticRoundsDown : Prop :=
  let table : List Nat := [0, 490, 976, 1455, 1923, 2379, 2818, 3240, 3642, 4024, 4386]
  (∀ k, k ≤ 10 → (2 * table.getD k 0 - 1) ^ 2 * (1000000 + (50 * k) ^ 2) ≤ (2 * 9807 * (50 * k)) ^ 2
      ∧ (2 * 9807 * (50 * k)) ^ 2 < (2 * table.getD k 0 + 1) ^ 2 * (1000000 + (50 * k) ^ 2))
    ∧ (∀ k r, k < 10 → r < 50 →
        gravity (50 * k + r)
          = table.getD k 0 + (table.getD (k + 1) 0 - table.getD k 0) * r / 50)
    ∧ (∀ g, 500 ≤ g → gravity g = 4386)
    ∧ (∀ g h, g ≤ h → gravity g ≤ gravity h)
    ∧ (∀ n : Nat, isqrt n * isqrt n ≤ n ∧ n < (isqrt n + 1) * (isqrt n + 1))
    ∧ ∀ v a d : Nat,
        curveSpeed v a d = min 1023 (isqrt ((10 * v) ^ 2 + 2 * a * d) / 10)
          ∧ (v ≤ 1023 → v ≤ curveSpeed v a d ∧ curveSpeed v a 0 = v)

/-- A target's curve: the lowest effective gradient from the rear to the point, the effective
deceleration with its gravity and its floor, the available distance, and the curve speed from them; a
target falls short exactly below the floor. A direction has a shortfall when a target of its has, but
no curves are computed in a degraded evaluation and for UP beyond the line end, which leaves the
indication clear there (the model's reading, log entry 31); where a STOP record is overrun there too,
R86 has them computed for the shortfall indication, and either rule may be followed (the model's
choice, log entry 15). The directions that are evaluated, and how both are combined (R76, R77, R80,
R81, R86, R87, R90, R91, R92, R93). -/
def Obligations.TargetCurvesTakeTheirGradient : Prop :=
  (∀ (s : State) (dir : Dir) (x : Target),
    let p := s.odo.position
    let low := if dir = .up then p else x.point
    let high := if dir = .up then x.point else p + s.param 3
    let under (g : Segment) : Prop := ∃ e, (g, e) ∈ s.profile.track ∧ g.start ≤ high ∧ low < e
    let effective (g : Segment) : Int := if dir = .up then g.gradient else -g.gradient
    let e := s.adverse dir x.point
    let brake : Int := s.param 13
    let floor : Int := s.param 14
    let a := if e < 0 then brake - gravity e.natAbs
      else brake + ((gravity e.natAbs * s.param 15 / 100 : Nat) : Int)
    let reaction : Int := (s.odo.speed * 10 * s.param 16 / 1000 : Nat)
    let left : Int := 25 * x.dist - reaction - s.param 17
    ((∀ g, ¬under g) → e = -500)
      ∧ (∀ g, under g → e ≤ effective g ∧ ∃ h, under h ∧ e = effective h)
      ∧ s.targetShort dir x = decide (a < floor)
      ∧ s.targetCurve dir x = curveSpeed x.speed (max a floor).toNat left.toNat
      ∧ (let meaning := s.odo.positionValid = true ∧ s.profile.state = .valid
        let beyond := ∃ e, s.profile.lineEnd = some e ∧ e < p + s.param 3
        let any := (s.targets dir).any (s.targetShort dir)
        let short := (s.dirResult dir).shortfall
        (¬meaning → short = false)
          ∧ (meaning → ¬(dir = .up ∧ beyond) → short = any)
          ∧ (meaning → dir = .up → beyond → s.overrun .up = none → short = false)
          ∧ (meaning → dir = .up → beyond → s.overrun .up ≠ none → short = false ∨ short = any)))
  ∧ ∀ s : State,
    let up := s.dirResult .up
    let down := s.dirResult .down
    let short := up.shortfall || down.shortfall
    (∀ d, s.odo.motion = true → s.odo.measured = some d → s.compute = (d, s.dirResult d))
      ∧ (∀ d, s.odo.motion = false → s.odo.selected = some d → s.compute = (d, s.dirResult d))
      ∧ (s.odo.motion = false → s.odo.selected = none → s.compute =
          if up.permitted ≤ down.permitted then (.up, { up with shortfall := short })
          else (.down, { down with shortfall := short }))

/-- What the store serves to its readers: each segment with its end, which is the next one's start or
the line end, the line end, and the starts of the segments with a marker; nothing unless the profile
is VALID. The ceiling at the car is the lowest of 1023, the static limits of the segments that overlap
the footprint, the limits of the SPEED records that apply and overlap the car, and the fallback speed
while it holds (R2, R10, R43, R78, R79, R81). -/
def Obligations.CeilingIsTheLowestLimit : Prop :=
  (∀ p : Profile,
    (p.state ≠ .valid → p.track = [] ∧ p.servedLineEnd = none ∧ p.markers = [])
      ∧ (∀ e, p.state = .valid → p.lineEnd = some e →
        p.servedLineEnd = some e ∧ p.track.length = p.segments.length
          ∧ ∀ k g, p.segments[k]? = some g →
              p.track[k]? = some (g, ((p.segments[k + 1]?).map Segment.start).getD e))
      ∧ ∀ m, m ∈ p.markers ↔ ∃ g e, (g, e) ∈ p.track ∧ g.marker = true ∧ g.start = m)
  ∧ ∀ (s : State) (dir : Dir),
    let p := s.odo.position
    let front := p + s.param 3
    let static (v : Nat) : Prop := ∃ g e, (g, e) ∈ s.profile.track ∧ g.start ≤ front ∧ p < e
      ∧ v = if dir = .up then g.limitUp else g.limitDown
    let recorded (v : Nat) : Prop := ∃ r ∈ s.table.records, r.imposes = .speed v
      ∧ r.dir.appliesTo dir = true ∧ p ≤ r.last ∧ r.first ≤ front
    let fallback (v : Nat) : Prop := v = s.param 22
      ∧ ((s.radio.link = .lost ∧ s.param 33 = 1) ∨ s.table.lossLatch = true
          ∨ s.odo.positionValid = false ∨ s.profile.state ≠ .valid
          ∨ ∃ e, s.profile.lineEnd = some e ∧ e < front)
    let term (v : Nat) : Prop := v = 1023 ∨ static v ∨ recorded v ∨ fallback v
    term (s.ceiling dir) ∧ ∀ v, term v → s.ceiling dir ≤ v

/-- The targets of a direction are the segment boundaries, the SPEED records that apply and do not
overlap the car, the STOP records that apply, and the line end for UP and position 0 for DOWN, each in
its window ahead of the front within the lookahead, with its target speed and its distance; the
overrun STOP record is that of the lowest slot whose point the front has strictly passed. The result
of a direction: the ceiling alone in a degraded evaluation; 0 with its finding and its governing
target for an overrun STOP record; 0 for UP beyond the line end; otherwise the lowest of the ceiling
and every curve, with the target that gives it. With a STOP record overrun and the car beyond the line
end, R81 and R86 each name a governing target, and either may govern (the model's choice, log entry
15) (R80 to R86, R96). -/
def Obligations.PermittedSpeedIsTheLowest : Prop :=
  ∀ (s : State) (dir : Dir),
    let p := s.odo.position
    let front := if dir = .up then p + s.param 3 else p
    let away (q : Nat) : Nat := (q - front) + (front - q)
    let within (q : Nat) : Prop := away q ≤ s.param 18 ∧ if dir = .up then front ≤ q else q ≤ front
    let boundary (x : Target) : Prop := ∃ k g e h f, s.profile.track[k]? = some (g, e)
      ∧ s.profile.track[k + 1]? = some (h, f) ∧ within h.start ∧ (dir = .up → h.start ≠ front)
      ∧ x = ⟨.boundary, h.start, away h.start, if dir = .up then h.limitUp else g.limitDown, none⟩
    let speed (x : Target) : Prop := ∃ (k : Nat) (r : Record) (v : Nat),
      s.table.slots[k]? = some (some r) ∧ r.imposes = .speed v ∧ r.dir.appliesTo dir = true
        ∧ ¬(p ≤ r.last ∧ r.first ≤ p + s.param 3)
        ∧ let q := if dir = .up then r.first else r.last
          within q ∧ q ≠ front ∧ x = ⟨.speedRecord, q, away q, v, some k⟩
    let stop (x : Target) : Prop := ∃ (k : Nat) (r : Record), s.table.slots[k]? = some (some r)
      ∧ r.imposes = .stop ∧ r.dir.appliesTo dir = true ∧ within r.first
      ∧ x = ⟨.stopRecord, r.first, away r.first, 0, some k⟩
    let lineEnd (x : Target) : Prop := ∃ q,
      (if dir = .up then s.profile.servedLineEnd = some q else q = 0) ∧ within q
        ∧ x = ⟨.lineEnd, q, away q, 0, none⟩
    let passed (r : Record) : Prop := r.imposes = .stop ∧ r.dir.appliesTo dir = true
      ∧ if dir = .up then r.first < front else front < r.first
    let degraded := s.odo.positionValid = false ∨ s.profile.state ≠ .valid
    let beyond (e : Nat) : Prop := dir = .up ∧ s.profile.lineEnd = some e ∧ e < front
    let rank (x : Target) : Nat :=
      [TargetSource.stopRecord, .lineEnd, .speedRecord, .boundary].idxOf x.source
    let r := s.dirResult dir
    (∀ x, x ∈ s.targets dir ↔ boundary x ∨ speed x ∨ stop x ∨ lineEnd x)
      ∧ (∀ k q, s.overrun dir = some (k, q) ↔ s.table.slots[k]? = some (some q) ∧ passed q
          ∧ ∀ j o, s.table.slots[j]? = some (some o) → passed o → k ≤ j)
      ∧ r.permitted ≤ s.ceiling dir
      ∧ (degraded → r = ⟨s.ceiling dir, none, false, none⟩)
      ∧ (¬degraded → ∀ slot q, s.overrun dir = some (slot, q) →
          r.permitted = 0 ∧ r.overrun = some slot
            ∧ (r.governing = some ⟨.stopRecord, q.first, 0, 0, some slot, true⟩
              ∨ ∃ e, beyond e ∧ r.governing = some ⟨.lineEnd, e, 0, 0, none, true⟩))
      ∧ (¬degraded → s.overrun dir = none → r.overrun = none
          ∧ (∀ e, beyond e → r.permitted = 0
              ∧ r.governing = some ⟨.lineEnd, e, 0, 0, none, true⟩)
          ∧ ((∀ e, ¬beyond e) →
              (∀ x ∈ s.targets dir, r.permitted ≤ s.targetCurve dir x)
              ∧ ((r.permitted = s.ceiling dir ∧ r.governing = none)
                ∨ ∃ x ∈ s.targets dir, r.permitted = s.targetCurve dir x
                    ∧ s.targetCurve dir x < s.ceiling dir
                    ∧ r.governing = some ⟨x.source, x.point, x.dist, x.speed, x.slot, false⟩
                    ∧ ∀ y ∈ s.targets dir, s.targetCurve dir x < s.targetCurve dir y
                      ∨ (s.targetCurve dir x = s.targetCurve dir y ∧ (x.dist < y.dist
                        ∨ (x.dist = y.dist ∧ (rank x < rank y
                          ∨ (rank x = rank y ∧ x.slot.getD 0 ≤ y.slot.getD 0))))))))

/-! ### The profile store -/

/-- PROFILE_WRITE: the seven checks in order, then the segment is appended or replaced with its
bounds, the profile is LOADING and the line end absent. PROFILE_CLOSE: the three checks in order, then
the line end is stored and the profile is VALID. PROFILE_CLEAR: no segment and no line end are left
and the profile is LOADING. A refusal changes nothing but the port (R3 to R8). Each is a request that
the port takes, as in the statements below (R193, R194). -/
def Obligations.ProfileCommandsLoadTheStore : Prop :=
  (∀ (index : Byte) (start : U24) (gradient limitUp limitDown : U16) (marker : Byte) (s : State),
    let i := Instr.profileWrite index start gradient limitUp limitDown marker
    s.Takes i →
    let k := index.toNat
    let gs := s.profile.segments
    let new : Segment := ⟨start.toNat, max (-500) (min gradient.toInt 500),
      min limitUp.toNat 1023, min limitDown.toNat 1023, decide (marker ≠ 0)⟩
    exec i s = .next (
      if s.profile.lock ≠ .levelOpen then s.answers i .locked []
      else if k ≤ gs.length ∧ k ≤ 95 ∧ start.toNat ≤ 399999 ∧ (k = 0 → start.toNat = 0)
          ∧ (0 < k → (gs[k - 1]?).all (fun g => decide (g.start < start.toNat)) = true)
          ∧ (gs[k + 1]?).all (fun g => decide (start.toNat < g.start)) = true
          ∧ 1 ≤ limitUp.toNat ∧ 1 ≤ limitDown.toNat then
        ({ s with profile := { s.profile with
            segments := gs.take k ++ new :: gs.drop (k + 1), lineEnd := none
            state := .loading } }).answers i
          (if 1023 < limitUp.toNat ∨ 1023 < limitDown.toNat then .okClamped else .ok) []
      else s.answers i .badValue []))
  ∧ (∀ (lineEnd : U24) (s : State),
    let i := Instr.profileClose lineEnd
    s.Takes i → exec i s = .next (
      if s.profile.lock ≠ .levelOpen then s.answers i .locked []
      else if s.profile.segments = [] then s.answers i .wrongState []
      else if (s.profile.segments.getLast?).all (fun g => decide (g.start < lineEnd.toNat)) = true
          ∧ lineEnd.toNat ≤ 400000 then
        ({ s with profile := { s.profile with
            lineEnd := some lineEnd.toNat, state := .valid } }).answers i .ok []
      else s.answers i .badValue []))
  ∧ ∀ s : State, s.Takes .profileClear → exec .profileClear s = .next (
    if s.profile.lock = .levelOpen then
      ({ s with profile := { s.profile with
          segments := [], lineEnd := none, state := .loading } }).answers .profileClear .ok []
    else s.answers .profileClear .locked [])

/-- LOCK_RAISE: one level up from OPEN with a VALID profile, and from PROFILE_LOCKED, which arms the
brake output unit; arming a good state releases no brake (R17, R18, R116). -/
def Obligations.LockRaiseArmsWithoutRelease : Prop :=
  ∀ s : State, s.Takes .lockRaise →
    (s.profile.lock = .levelOpen → exec .lockRaise s = .next (
        if s.profile.state = .valid then
          ({ s with profile := { s.profile with lock := .profileLocked } }).answers .lockRaise .ok
            [1]
        else s.answers .lockRaise .wrongState []))
      ∧ (s.profile.lock = .configLocked →
          exec .lockRaise s = .next (s.answers .lockRaise .wrongState []))
      ∧ (s.profile.lock = .profileLocked → s.Good → exec .lockRaise s = .next (
          ({ s with
              profile := { s.profile with lock := .configLocked }
              brake := { s.brake with unit := .armed } }).answers .lockRaise .ok [2]))

/-- CONFIG_WRITE: the three checks in order; the value bounded to its range, #4 by the car length; the
relations of #19 with #20 and of #3 with #4 kept; OK_CLAMPED when the stored value differs or another
parameter moved; the report timer at a write of #32 (R13, R14, R15, R187). -/
def Obligations.ConfigWriteBoundsAndRelates : Prop :=
  ∀ (index : Byte) (value : U24) (s : State), s.profile.params.length = 34 →
    let i := Instr.configWrite index value
    s.Takes i →
    let k := index.toNat
    let row := Config.paramRows.getD k ⟨0, 0, 0⟩
    let bounded := max row.lo (min value.toNat (if k = 4 then s.param 3 else row.hi))
    let stored := if k = 20 then max bounded (s.param 19) else bounded
    let after := (List.range 34).map fun j =>
      if j = k then stored
      else if j = 20 ∧ k = 19 then max (s.param 20) bounded
      else if j = 4 ∧ k = 3 then min (s.param 4) bounded
      else s.param j
    let timer := if k ≠ 32 then s.radio.reportTimer
      else if stored = 0 then none
      else if s.param 32 = 0 then some stored
      else s.radio.reportTimer
    let adjusted := (k = 19 ∧ s.param 20 < bounded) ∨ (k = 3 ∧ bounded < s.param 4)
    exec i s = .next (
      if 33 < k then s.answers i .badValue []
      else if s.profile.lock = .configLocked ∧ k ≠ 32 then s.answers i .locked []
      else if k ≤ 2 ∧ s.radio.current ≠ .config then s.answers i .wrongMode []
      else
        ({ s with
            profile := { s.profile with params := after }
            radio := { s.radio with reportTimer := timer } }).answers i
          (if stored ≠ value.toNat ∨ adjusted then .okClamped else .ok) [])

/-- The reading commands answer from the state as it stands and change nothing but the port:
PROFILE_READ, CONFIG_READ, RECORD_READ, RECORD_FIND and TABLE_LIST, with the codes of what they carry
(R4, R9, R12, R17, R62, R64, R65, R66, R204, R205). -/
def Obligations.ReadsAnswerAndChangeNothing : Prop :=
  ([ProfileState.empty, .loading, .valid].map profileStateCode = [0, 1, 2]
    ∧ [LockLevel.levelOpen, .profileLocked, .configLocked].map lockCode = [0, 1, 2]
    ∧ [RecordKind.speed, .stop, .doors].map kindCode = [0, 1, 2]
    ∧ [RecordDir.up, .down, .both].map recordDirCode = [1, 2, 3]
    ∧ [Sides.left, .right, .both].map sidesCode = [1, 2, 3]
    ∧ (originCode .vehicle = 0 ∧ ∀ n, originCode (.station n) = n)
    ∧ (∀ c : Byte, originOfCode c = if c.toNat = 0 then some .vehicle
        else if c.toNat ≤ 15 then some (.station c.toNat) else none)
    ∧ ∀ n : Notice, n.item
        = u8 (match n.event with
            | .issued => 0
            | .amended => 1
            | .revoked => 2
            | .passed => 3
            | .expired => 4)
          ++ u8 n.slot ++ u8 (kindCode n.kind) ++ u8 (originCode n.origin) ++ u16 n.number
          ++ (match n.replaced with
            | none => [0, 0, 0]
            | some q => [1] ++ u16 q))
  ∧ ∀ (k : Byte) (origin : Byte) (number : U16) (s : State),
    let p := s.profile
    let summary := u8 (profileStateCode p.state) ++ u8 p.segments.length ++ u24 (p.lineEnd.getD 0)
      ++ u8 (lockCode p.lock)
    (∀ g, s.Takes (.profileRead k) → p.segments[k.toNat]? = some g →
        exec (.profileRead k) s = .next (s.answers (.profileRead k) .ok (summary ++ [k]
          ++ u24 g.start ++ s16 g.gradient ++ u16 g.limitUp ++ u16 g.limitDown ++ Machine.bool g.marker)))
      ∧ (s.Takes (.profileRead k) → p.segments[k.toNat]? = none →
        exec (.profileRead k) s = .next (s.answers (.profileRead k) .ok summary))
      ∧ (s.Takes (.configRead k) → exec (.configRead k) s = .next (
          if 33 < k.toNat then s.answers (.configRead k) .badValue []
          else s.answers (.configRead k) .ok (u24 (s.param k.toNat) ++ Machine.bool (decide
            ((p.lock = .configLocked → k.toNat = 32)
              ∧ (k.toNat ≤ 2 → s.radio.current = .config))))))
      ∧ (s.Takes (.recordRead k) → 31 < k.toNat →
          exec (.recordRead k) s = .next (s.answers (.recordRead k) .badValue []))
      ∧ (s.Takes (.recordRead k) → k.toNat ≤ 31 → s.table.get k.toNat = none →
          exec (.recordRead k) s = .next (s.answers (.recordRead k) .empty []))
      ∧ (∀ r, s.Takes (.recordRead k) → k.toNat ≤ 31 → s.table.get k.toNat = some r →
          exec (.recordRead k) s = .next (s.answers (.recordRead k) .ok ([k]
            ++ u8 (kindCode r.imposes.kind) ++ u8 (originCode r.origin) ++ u16 r.number
            ++ u24 r.first ++ u24 r.last ++ u8 (recordDirCode r.dir)
            ++ u16 (match r.imposes with
                | .speed limit => limit
                | _ => 0)
            ++ u8 (match r.imposes with
                | .doors sides => sidesCode sides
                | _ => 0)
            ++ u8 (r.lifetime.getD 0) ++ Machine.bool r.passage ++ Machine.bool r.expiring
            ++ Machine.bool (decide (r.imposes.kind = .doors ∧ r.origin ≠ .vehicle
                ∧ s.radio.link = .lost)))))
      ∧ (s.Takes (.recordFind origin number) → 16 ≤ origin.toNat → exec (.recordFind origin number) s
          = .next (s.answers (.recordFind origin number) .badValue []))
      ∧ (∀ o, s.Takes (.recordFind origin number) → originOfCode origin = some o →
        exec (.recordFind origin number) s
          = .next (match s.table.find o number.toNat with
            | some slot => s.answers (.recordFind origin number) .ok (u8 slot)
            | none => s.answers (.recordFind origin number) .notFound []))
      ∧ (s.Takes .tableList → exec .tableList s = .next (s.answers .tableList .ok (
          u8 s.table.records.length ++ Machine.bool s.table.lossLatch ++ u16 s.table.noticeSeq
            ++ s.table.notice.item ++ s.table.live.flatMap fun (x : Nat × Record) =>
              u8 x.1 ++ u8 (kindCode x.2.imposes.kind) ++ u8 (originCode x.2.origin)
                ++ u16 x.2.number ++ Machine.bool x.2.expiring)))

/-! ### The odometry unit -/

/-- POSITION_SET and DIRECTION_SELECT: their checks in order, their effect, and the evaluation that each
accepted one starts (R29, R36). -/
def Obligations.StandstillSettingsAreEvaluated : Prop :=
  (∀ (position : U24) (s : State),
    let i := Instr.positionSet position
    s.Takes i → exec i s = .next (
      if s.odo.motion = true then s.answers i .moving []
      else if 400000 < position.toNat then s.answers i .badValue []
      else (State.evaluate { s with odo := { s.odo with
          position := position.toNat, positionValid := true, lastCorrection := 0 } }).answers i
        .ok []))
  ∧ ∀ (direction : Byte) (s : State),
    let i := Instr.directionSelect direction
    let chosen : Option Dir := if direction.toNat = 0 then none
      else if direction.toNat = 1 then some .up else some .down
    s.Takes i → exec i s = .next (
      if s.odo.motion = true then s.answers i .moving []
      else if 2 < direction.toNat then s.answers i .badValue []
      else (State.evaluate { s with odo := { s.odo with selected := chosen } }).answers i .ok [])

/-- A counted edge: the unit after it, part by part in the order of R20, whatever it hands on; the doors
take MOTION at the first edge, the profile stands, and OFF_PROFILE is set exactly at a withheld edge
(R20, R22, R24 to R28, R33, R35, R37, R38, R40). The order of the handings is the model's (log entry
11). -/
def Obligations.CountedEdgeMovesTheUnit : Prop :=
  ∀ (a b : Bool) (now : Micros) (dir : Dir) (s : State), s.resetHeld = false →
    let o := s.odo
    let up : List ((Bool × Bool) × (Bool × Bool)) :=
      [((false, false), (true, false)), ((true, false), (true, true)),
        ((true, true), (false, true)), ((false, true), (false, false))]
    let before := (o.pinA.level, o.pinB.level)
    (dir = .up → (before, (a, b)) ∈ up) → (dir = .down → ((a, b), before) ∈ up) →
    let withheld := (dir = .up ∧ 400000 ≤ o.position) ∨ (dir = .down ∧ o.position = 0)
    let turned := o.measured ≠ none ∧ o.measured ≠ some dir
    let n := [1, 2, 4].getD (s.param 7) 8
    let goesOn (h : Capture) : Prop := ¬turned ∧ o.history = some h ∧ h.dir = dir ∧ h.size = n
    let count := if o.selected = some dir then o.rollback - 1 else min (o.rollback + 1) 65535
    ∃ t : State, exec (.acceptedStep a b now) s = .next t
      ∧ (∀ h, goesOn h → h.count + 1 = n →
          t.odo.history = some ⟨dir, n, 0, now⟩
            ∧ t.odo.speed = min 1023 (n * 25000000 / max (now - h.stamp).toNat 1 / 10))
      ∧ (∀ h, goesOn h → h.count + 1 ≠ n →
          t.odo.history = some ⟨dir, n, h.count + 1, h.stamp⟩ ∧ t.odo.speed = o.speed)
      ∧ ((∀ h, ¬goesOn h) → t.odo.history = some ⟨dir, n, 0, now⟩
          ∧ t.odo.speed = if turned then 0 else o.speed)
      ∧ t.odo = { o with
          pinA := if a = o.pinA.level then o.pinA else .steady a
          pinB := if b = o.pinB.level then o.pinB else .steady b
          timebase := now
          position := if withheld then o.position
            else if dir = .up then o.position + 1 else o.position - 1
          motion := true
          standstillTimer := some (s.param 8)
          measured := some dir
          speed := t.odo.speed
          history := t.odo.history
          wheelTravel := if turned then 0 else o.wheelTravel
          netCounts := (if turned then 0 else o.netCounts) + (if dir = .up then 1 else -1)
          rollback := count
          rollbackLatch := o.rollbackLatch || decide (s.param 12 < count) }
      ∧ t.profile = s.profile ∧ t.brake.motion = (s.brake.motion || !o.motion)
      ∧ t.doors = (if o.motion = true then s.doors else { s.doors with motion := true })
      ∧ hasFlag t.port.flags .offProfile
          = (hasFlag s.port.flags .offProfile || decide withheld)
      ∧ hasFlag t.port.flags .odometryFault
          = (hasFlag s.port.flags .odometryFault
              || (!o.rollbackLatch && decide (s.param 12 < count)))

/-- An accepted step in which both levels change discards the capture history and latches PINION_SENSOR,
which is handed on once; one in which neither changes is no step (R19, R21, R39, R107). The order of the
handings is the model's (log entry 11). -/
def Obligations.IllegalStepLatchesTheSensorFault : Prop :=
  ∀ (a b : Bool) (now : Micros) (s : State), s.resetHeld = false →
    let seen : State := { s with odo := { s.odo with timebase := now } }
    let illegal : State := { s with odo := { s.odo with
      pinA := .steady a, pinB := .steady b, timebase := now, history := none } }
    (a = s.odo.pinA.level → b = s.odo.pinB.level → exec (.acceptedStep a b now) s = .next seen)
      ∧ (a ≠ s.odo.pinA.level → b ≠ s.odo.pinB.level → exec (.acceptedStep a b now) s = .next (
          if s.odo.pinionSensor = true then illegal
          else State.evaluate { illegal with
            odo := { illegal.odo with pinionSensor := true }
            port := { s.port with flags := setBit s.port.flags .odometryFault }
            sup := { s.sup with causes := { s.sup.causes with pinionSensor := true } } }))

/-- The standstill timer's expiry is one event: MOTION false, direction NONE, speed 0, history, window
and rollback count restarted with the latch kept; the brake output unit clears its hold and overlap and
re-forms its outputs, and the door controller takes MOTION (R24, R35, R40, R128). The order of the
handings and the expiry of a stopped timer are the model's (log entries 12 and 23). -/
def Obligations.StandstillClearsTheMovement : Prop :=
  ∀ s : State, s.resetHeld = false → exec .standstillTimerExpiry s = .next (
    if s.odo.standstillTimer = none then s
    else { s with
      odo := { s.odo with
        motion := false, standstillTimer := none, measured := none, speed := 0, history := none
        wheelTravel := 0, netCounts := 0, rollback := 0 }
      brake := { Brake.reform (s.param 27) { s.brake with
          motion := false, hold := false, overlap := none, floor := 0 } with speed := 0 }
      doors := { s.doors with motion := false } })

/-- A WHEEL pulse adds its travel; a full window is compared with the pinion's travel and restarted, and
a slip is latched and handed on once; the change to low is not used (R19, R33, R34, R35, R39, R107). A
level the input already has is no change (the model's choice, log entry 9). -/
def Obligations.WheelPulseComparesTheWindow : Prop :=
  ∀ (level : Bool) (s : State), s.resetHeld = false →
    let w := s.odo.wheelTravel + s.param 9
    let slip := s.param 11 * w < ((s.odo.netCounts.natAbs * 25 : Int) - w).natAbs * 100
    let restarted : Odometry := { s.odo with
      wheel := .steady true, wheelTravel := 0, netCounts := 0 }
    exec (.wheelPulse level) s = .next (
      if level = s.odo.wheel.level then s
      else if level = false then { s with odo := { s.odo with wheel := .steady false } }
      else if w < 1000 * s.param 10 then
        { s with odo := { s.odo with wheel := .steady true, wheelTravel := w } }
      else if slip ∧ s.odo.pinionSlip = false then
        State.evaluate { s with
          odo := { restarted with pinionSlip := true }
          port := { s.port with flags := setBit s.port.flags .odometryFault }
          sup := { s.sup with causes := { s.sup.causes with pinionSlip := true } } }
      else { s with odo := restarted })

/-- A MARKER pulse: ignored at standstill or without a valid position; otherwise the marker nearest to
the sensor, the lower of two, is snapped to within the window with an evaluation, or MARKER_MISS is set
(R19, R30, R31, R32). A level the input already has is no change (the model's choice, log entry 9). -/
def Obligations.MarkerPulseSnapsToTheNearest : Prop :=
  ∀ s : State, s.resetHeld = false →
    let high : State := { s with odo := { s.odo with marker := .steady true } }
    let x : Int := s.odo.position + s.param 4
    (∀ level, level = s.odo.marker.level → exec (.markerPulse level) s = .next s)
      ∧ (s.odo.marker.level = true → exec (.markerPulse false) s
          = .next { s with odo := { s.odo with marker := .steady false } })
      ∧ (s.odo.marker.level = false → s.odo.motion = false ∨ s.odo.positionValid = false →
          exec (.markerPulse true) s = .next high)
      ∧ (s.odo.marker.level = false → s.odo.motion = true → s.odo.positionValid = true →
          s.profile.markers = [] → exec (.markerPulse true) s = .next (high.setFlag .markerMiss))
      ∧ ∀ m ∈ s.profile.markers, s.profile.SegmentsGood → s.odo.marker.level = false →
          s.odo.motion = true → s.odo.positionValid = true →
          (∀ q ∈ s.profile.markers, ((m : Int) - x).natAbs ≤ ((q : Int) - x).natAbs
            ∧ (((m : Int) - x).natAbs = ((q : Int) - x).natAbs → m ≤ q)) →
          exec (.markerPulse true) s = .next (
            if ((m : Int) - x).natAbs ≤ s.param 5 ∧ 0 ≤ (s.odo.position : Int) + (m - x) then
              State.evaluate { high with odo := { high.odo with
                position := (s.odo.position + (m - x)).toNat, lastCorrection := m - x } }
            else high.setFlag .markerMiss)

/-- A raw change begins the timing of its input's filter or cancels it, and changes nothing else; with
filter code 0 the four odometry inputs take it at once as their accepted change (R19, R117, R137).
Filter code 0 accepts at once, one input at a time (the model's choice, log entries 9 and 10). The
changes of the host link are in PortAndFlagsFollowTheHost and those of RESET in ResetsTakeTheirValues.
-/
def Obligations.RawChangesAreFiltered : Prop :=
  ∀ (level : Bool) (now : Micros) (s : State), s.resetHeld = false →
    let line (filter : Nat) (i : InputLine) : InputLine :=
      if level = i.raw then i
      else ⟨level, i.level, if level = i.level then none else some filter⟩
    let micros := [0, 2, 5, 10, 20, 50, 100, 200].getD (min (s.param 6) 7) 0
    let atOnce (i : InputLine) : Prop := micros = 0 ∧ level ≠ i.raw ∧ level ≠ i.level
    let o := s.odo
    let timed (o : Odometry) : State := { s with odo := o }
    (¬atOnce o.pinA → exec (.rawInputChange .pinA level now) s
        = .next (timed { o with pinA := line micros o.pinA }))
      ∧ (¬atOnce o.pinB → exec (.rawInputChange .pinB level now) s
        = .next (timed { o with pinB := line micros o.pinB }))
      ∧ (¬atOnce o.wheel → exec (.rawInputChange .wheel level now) s
        = .next (timed { o with wheel := line micros o.wheel }))
      ∧ (¬atOnce o.marker → exec (.rawInputChange .marker level now) s
        = .next (timed { o with marker := line micros o.marker }))
      ∧ (atOnce o.pinA → exec (.rawInputChange .pinA level now) s
        = exec (.acceptedStep level o.pinB.level now) s)
      ∧ (atOnce o.pinB → exec (.rawInputChange .pinB level now) s
        = exec (.acceptedStep o.pinA.level level now) s)
      ∧ (atOnce o.wheel → exec (.rawInputChange .wheel level now) s = exec (.wheelPulse level) s)
      ∧ (atOnce o.marker → exec (.rawInputChange .marker level now) s
        = exec (.markerPulse level) s)
      ∧ exec (.rawInputChange .emergIn level now) s
          = .next { s with brake := { s.brake with emergIn := line 5000 s.brake.emergIn } }
      ∧ exec (.rawInputChange .loopSense level now) s
          = .next { s with brake := { s.brake with loopSense := line 5000 s.brake.loopSense } }
      ∧ exec (.rawInputChange .bandSense level now) s
          = .next { s with brake := { s.brake with bandSense := line 5000 s.brake.bandSense } }
      ∧ ∀ id : DoorId,
          let d := s.doors.get id
          let after (d : Door) : State := { s with doors := s.doors.put d id }
          exec (.rawInputChange (.door id .closed) level now) s
              = .next (after { d with closed := line 20000 d.closed })
            ∧ exec (.rawInputChange (.door id .locked) level now) s
              = .next (after { d with locked := line 20000 d.locked })
            ∧ exec (.rawInputChange (.door id .openEnd) level now) s
              = .next (after { d with openEnd := line 20000 d.openEnd })
            ∧ exec (.rawInputChange (.door id .obstruct) level now) s
              = .next (after { d with obstruct := line 20000 d.obstruct })
            ∧ exec (.rawInputChange (.door id .button) level now) s
              = .next (after { d with button := line 20000 d.button })

/-! ### The restriction table -/

/-- What an issue stores: the checks of R45, then the bounds of R46, read from the class byte as R206
and R207 lay it out; an issue that fails a check stores nothing. -/
def Obligations.IssuesAreCheckedThenBounded : Prop :=
  ∀ (origin : Origin) (b : IssueBody),
    let kind := b.cls.toNat % 4
    let dir := b.cls.toNat / 4 % 4
    let sides := b.limitOrSides.toNat % 256
    recordOfIssue origin b =
      if kind ≤ 2 ∧ dir ≤ 2 ∧ b.start.toNat ≤ b.stop.toNat ∧ b.stop.toNat ≤ 400000
          ∧ (kind = 1 → b.start.toNat = b.stop.toNat)
          ∧ (kind = 2 → 1 ≤ sides ∧ sides ≤ 3) then
        some {
          imposes :=
            if kind = 0 then .speed (min b.limitOrSides.toNat 1023)
            else if kind = 1 then .stop
            else .doors (if sides = 1 then .left else if sides = 2 then .right else .both)
          origin := origin
          number := b.number.toNat
          dir := if dir = 0 then .up else if dir = 1 then .down else .both
          first := b.start.toNat
          last := b.stop.toNat
          lifetime := if kind = 1 ∨ b.lifetime.toNat = 0 then none else some b.lifetime.toNat
          passage := decide (kind ≠ 1 ∧ b.cls.toNat / 16 % 2 = 1)
          expiring := false }
      else none

/-- The table engine's classification in the order of R47: KIND, AMENDED, a STOP replacement, NEW in the
lowest FREE slot, or FULL with the table as it was. A stored record leaves the rest of the table but for
the minute timer, which runs while a lifetime counts, keeps its phase and starts with a full period, and
for the notice of a radio issue (R41, R47 to R51, R58, R62). -/
def Obligations.IssuesAreClassifiedInOrder : Prop :=
  ∀ (source : IssueSource) (r : Record) (t : Table), t.Good →
    let named (q : Record) : Prop := q.origin = r.origin ∧ q.number = r.number
    let lowestFree (slots : List (Option Record)) (k : Nat) : Prop :=
      slots[k]? = some none ∧ ∀ j, j < k → slots[j]? ≠ some none
    let u := (t.classify source r).1
    let result := (t.classify source r).2
    let stored (slots : List (Option Record)) (event : NoticeEvent) (k : Nat)
        (replaced : Option Nat) : Table :=
      let runs := slots.any fun x => x.any fun q => q.lifetime.any fun n => decide (1 ≤ n)
      { t with
        slots := slots
        minuteTimer := if runs = true then some (t.minuteTimer.getD 60000) else none
        notice := if source = .host then t.notice
          else ⟨event, k, r.imposes.kind, r.origin, r.number, replaced⟩
        noticeSeq := if source = .host then t.noticeSeq else (t.noticeSeq + 1) % 65536 }
    (∀ k q, t.get k = some q → named q →
        (q.imposes.kind ≠ r.imposes.kind → u = t ∧ result = .kind k q.imposes.kind)
        ∧ (q.imposes.kind = r.imposes.kind →
            result = .amended k ∧ u = stored (t.slots.set k (some r)) .amended k none))
      ∧ ((∀ k q, t.get k = some q → ¬named q) →
        (∀ k q, t.get k = some q → r.imposes = .stop → q.imposes = .stop → q.origin = r.origin →
            ∃ j, lowestFree (t.slots.set k none) j ∧ result = .new j (some q.number)
              ∧ u = stored ((t.slots.set k none).set j (some r)) .issued j (some q.number))
        ∧ ((∀ k q, t.get k = some q →
              ¬(r.imposes = .stop ∧ q.imposes = .stop ∧ q.origin = r.origin)) →
            (∀ j, lowestFree t.slots j →
              result = .new j none ∧ u = stored (t.slots.set j (some r)) .issued j none)
            ∧ ((∀ j, ¬lowestFree t.slots j) → u = t ∧ result = .full)))

/-- RECORD_ISSUE: BAD_VALUE for an origin or an issue that fails R45; otherwise the table as the engine
classifies it, the restriction-lost latch and its flag at a FULL SPEED or STOP, one evaluation where R63
hands one on, and the answer of R52 with its data. It writes no notice (R44, R51, R52, R62, R63, R205).
-/
def Obligations.RecordIssueAnswersItsResult : Prop :=
  ∀ (origin : Byte) (b : IssueBody) (s : State),
    let i := Instr.recordIssue origin b
    s.Takes i → (16 ≤ origin.toNat → exec i s = .next (s.answers i .badValue []))
      ∧ ∀ o, originOfCode origin = some o →
        (recordOfIssue o b = none → exec i s = .next (s.answers i .badValue []))
        ∧ ∀ r, recordOfIssue o b = some r →
          let u := (s.table.classify .host r).1
          let result := (s.table.classify .host r).2
          let moves := r.imposes.kind ≠ .doors
          let accepted := if b.cls.toNat % 4 = 0 ∧ 1023 < b.limitOrSides.toNat
            then Status.okClamped else .ok
          u.notice = s.table.notice ∧ u.noticeSeq = s.table.noticeSeq
            ∧ (∀ k replaced, result = .new k replaced → exec i s = .next
                ((State.evaluateIf (decide moves) { s with table := u }).answers i accepted
                  (u8 k ++ [0] ++ u8 (if replaced.isSome then 1 else 0)
                    ++ u16 (replaced.getD 0))))
            ∧ (∀ k, result = .amended k → exec i s = .next
                ((State.evaluateIf (decide moves) { s with table := u }).answers i accepted
                  (u8 k ++ [1, 0, 0, 0])))
            ∧ (∀ k live, result = .kind k live → exec i s = .next
                (s.answers i .kind (u8 k ++ u8 (kindCode live))))
            ∧ (result = .full → exec i s = .next (
                if moves then
                  (State.evaluateIf (!s.table.lossLatch) { s with
                    table := { s.table with lossLatch := true }
                    port := { s.port with
                      flags := setBit s.port.flags .restrictionLost } }).answers i .full []
                else s.answers i .full []))

/-- RECORD_REVOKE: its checks in order, then the record's slot is FREE, with a REVOKED notice,
TABLE_CHANGED and an evaluation; LOSS_ACK clears the latch with an evaluation, and is refused while it
is clear (R53, R55, R58, R62, R63). -/
def Obligations.RevokeAndLossAckActOnTheTable : Prop :=
  (∀ (origin : Byte) (number : U16) (s : State),
    let i := Instr.recordRevoke origin number
    s.Takes i → (16 ≤ origin.toNat → exec i s = .next (s.answers i .badValue []))
      ∧ ∀ o, originOfCode origin = some o →
        (o ≠ .vehicle → s.odo.motion = true → exec i s = .next (s.answers i .moving []))
        ∧ (o = .vehicle ∨ s.odo.motion = false →
          (s.table.find o number.toNat = none → exec i s = .next (s.answers i .notFound []))
          ∧ ∀ k r, s.table.find o number.toNat = some k → s.table.get k = some r →
            let slots := s.table.slots.set k none
            let runs := slots.any fun x => x.any fun q => q.lifetime.any fun n => decide (1 ≤ n)
            exec i s = .next ((State.evaluate { s with
              table := { s.table with
                slots := slots
                minuteTimer := if runs = true then some (s.table.minuteTimer.getD 60000) else none
                notice := ⟨.revoked, k, r.imposes.kind, o, number.toNat, none⟩
                noticeSeq := (s.table.noticeSeq + 1) % 65536 }
              port := { s.port with
                flags := setBit s.port.flags .tableChanged } }).answers i .ok [])))
  ∧ ∀ s : State, s.Takes .lossAck → exec .lossAck s = .next (
      if s.table.lossLatch = true then
        (State.evaluate { s with table := { s.table with lossLatch := false } }).answers .lossAck
          .ok []
      else s.answers .lossAck .wrongState [])

/-- What a counted edge does beside the odometry unit (for which see the statement of the edge). At
the moved position it frees exactly the records that the car has passed in the edge's direction and
the EXPIRING ones it no longer overlaps, with a notice each, the last of the highest slot,
TABLE_CHANGED and one evaluation; a withheld edge, and a position that is not valid, leaves the table.
The brake output unit takes MOTION at the first edge, speed 0 at a direction change, and the new speed
at a capture; a rollback beyond the tolerance is latched and handed on once (R22, R27, R38, R40, R56,
R57, R60, R62, R63, R126). The order of the handings is the model's (log entry 11). -/
def Obligations.EdgesRetirePassedRecords : Prop :=
  ∀ (a b : Bool) (now : Micros) (dir : Dir) (s : State), s.resetHeld = false →
    let o := s.odo
    let up : List ((Bool × Bool) × (Bool × Bool)) :=
      [((false, false), (true, false)), ((true, false), (true, true)),
        ((true, true), (false, true)), ((false, true), (false, false))]
    let before := (o.pinA.level, o.pinB.level)
    (dir = .up → (before, (a, b)) ∈ up) → (dir = .down → ((a, b), before) ∈ up) →
    let withheld := (dir = .up ∧ 400000 ≤ o.position) ∨ (dir = .down ∧ o.position = 0)
    let p := if dir = .up then o.position + 1 else o.position - 1
    let front := p + s.param 3
    let passed (r : Record) : Bool := r.passage && r.dir.appliesTo dir
      && decide (if dir = .up then r.last < p else front < r.first)
    let left (r : Record) : Bool := r.expiring && !(decide (p ≤ r.last) && decide (r.first ≤ front))
    let retires (r : Record) : Bool := decide (¬withheld ∧ o.positionValid = true)
      && (passed r || left r)
    let gone := (s.table.records.filter retires).length
    let slots := s.table.slots.map fun x => x.filter fun r => !retires r
    let runs := slots.any fun x => x.any fun q => q.lifetime.any fun n => decide (1 ≤ n)
    let turned := o.measured ≠ none ∧ o.measured ≠ some dir
    let n := [1, 2, 4].getD (s.param 7) 8
    let first : State := if o.motion = true then s
      else { s with brake := Brake.reform (s.param 27) { s.brake with motion := true } }
    let turning : State := if turned then first.handSpeed 0 else first
    let captured (h : Capture) : Prop := ¬turned ∧ o.history = some h ∧ h.dir = dir ∧ h.size = n
      ∧ h.count + 1 = n
    let count := if o.selected = some dir then o.rollback - 1 else min (o.rollback + 1) 65535
    ∃ t : State, exec (.acceptedStep a b now) s = .next t ∧ ∃ u : State,
      u = { s with
          odo := { t.odo with rollbackLatch := o.rollbackLatch }
          table := u.table, brake := u.brake
          doors := if o.motion = true then s.doors else { s.doors with motion := true }
          port := { s.port with flags :=
            let flags := if withheld then setBit s.port.flags .offProfile else s.port.flags
            if gone = 0 then flags else setBit flags .tableChanged } }
      ∧ (gone = 0 → u.table = s.table)
      ∧ (gone ≠ 0 → u.table = { s.table with
          slots := slots, minuteTimer := if runs = true then some (s.table.minuteTimer.getD 60000) else none
          notice := u.table.notice, noticeSeq := (s.table.noticeSeq + gone) % 65536 })
      ∧ (∀ (k : Nat) (r : Record), s.table.slots[k]? = some (some r) → retires r = true →
          (∀ (j : Nat) (q : Record), s.table.slots[j]? = some (some q) → retires q = true → j ≤ k) →
          u.table.notice = ⟨if passed r = true then .passed else .expired, k, r.imposes.kind, r.origin,
            r.number, none⟩)
      ∧ (∀ h, captured h → u.brake = (turning.handSpeed
          (min 1023 (n * 25000000 / max (now - h.stamp).toNat 1 / 10))).brake)
      ∧ ((∀ h, ¬captured h) → u.brake = turning.brake)
      ∧ t = (
        let v := State.evaluateIf (decide (gone ≠ 0)) u
        if o.rollbackLatch = false ∧ s.param 12 < count then
          State.evaluate { v with
            odo := { v.odo with rollbackLatch := true }
            port := { v.port with flags := setBit v.port.flags .odometryFault }
            sup := { v.sup with causes := { v.sup.causes with rollback := true } } }
        else v)

/-- The minute timer's expiry lowers every lifetime; a record that runs out stays EXPIRING under the
car with a valid position and is freed otherwise; the timer restarts while a lifetime counts; each
free writes an EXPIRED notice, the last of the highest slot, and a free sets TABLE_CHANGED and, like a
SPEED record that becomes EXPIRING, starts an evaluation (R58, R59, R62, R63). A stopped timer's
expiry does nothing (the model's choice, log entry 23). -/
def Obligations.MinuteExpiryAgesTheRecords : Prop :=
  ∀ s : State, s.resetHeld = false → s.table.Good →
    let under (r : Record) : Bool := s.odo.positionValid && decide (s.odo.position ≤ r.last)
      && decide (r.first ≤ s.odo.position + s.param 3)
    let aged (r : Record) : Option Record :=
      match r.lifetime with
      | some 1 => if under r then some { r with lifetime := some 0, expiring := true } else none
      | some (n + 2) => some { r with lifetime := some (n + 1) }
      | _ => some r
    let slots := s.table.slots.map fun x => x.bind aged
    let gone := (s.table.records.filter fun r => (aged r).isNone).length
    let expires := s.table.records.any fun r =>
      decide (r.lifetime = some 1 ∧ r.imposes.kind = .speed) && under r
    let runs := slots.any fun x => x.any fun q => q.lifetime.any fun n => decide (1 ≤ n)
    (s.table.minuteTimer = none → exec .minuteTimerExpiry s = .next s)
      ∧ (s.table.minuteTimer ≠ none → ∃ u : Table,
        u = { s.table with
          slots := slots, minuteTimer := if runs = true then some 60000 else none
          notice := u.notice, noticeSeq := (s.table.noticeSeq + gone) % 65536 }
        ∧ (gone = 0 → u.notice = s.table.notice)
        ∧ (∀ (k : Nat) (r : Record), s.table.slots[k]? = some (some r) → aged r = none →
          (∀ (j : Nat) (q : Record), s.table.slots[j]? = some (some q) → aged q = none → j ≤ k) →
          u.notice = ⟨.expired, k, r.imposes.kind, r.origin, r.number, none⟩)
        ∧ exec .minuteTimerExpiry s = .next (State.evaluateIf (decide (0 < gone) || expires) { s with
            table := u
            port := { s.port with flags :=
              (if 0 < gone then setBit s.port.flags .tableChanged else s.port.flags) } }))

/-! ### The speed supervisor -/

/-- The evaluation timer's expiry starts an evaluation, and an evaluation takes the steps of R101: the
results, the excess, the causes it keeps itself, the state by R102's table, the demand by R112's,
SUPERVISION and the ALARM at a change, SHORTFALL when the indication appears, and the timer's restart. A
changed state is handed to the brake output unit, where EMERGENCY clears the line hold and ends the
overlap and another state leaves both (R74, R92, R99, R101 to R104, R106, R108, R112, R113, R118, R119,
R129). A stopped timer's expiry does nothing (the model's choice, log entry 23). -/
def Obligations.EvaluationTakesItsSteps : Prop :=
  ∀ s : State,
    let p := s.sup
    let r := s.compute.2
    let x : Int := (s.odo.speed : Int) - r.permitted
    let emergencyMargin : Int := s.param 20
    let interventionMargin : Int := s.param 19
    let causes : Causes := { p.causes with
      doorOpenMoving := !p.doorsSecure && s.odo.motion
      overspeed := p.causes.overspeed || decide (emergencyMargin < x)
      overrun := p.causes.overrun || (r.overrun.isSome && s.odo.motion) }
    let present := causes.overspeed || causes.overrun || causes.rollback || causes.pinionSlip
      || causes.pinionSensor || causes.bandFault || causes.loopFault || causes.reset
      || causes.doorOpenMoving || causes.emergencyLine
    let next : SupState :=
      if p.state = .emergency then .emergency
      else if present = true ∨ emergencyMargin < x then .emergency
      else if p.state = .intervention then
        if s.odo.speed ≤ r.permitted - s.param 21 then .normal else .intervention
      else if interventionMargin < x then .intervention
      else if 0 < x then .warning
      else .normal
    let demand : Demand :=
      if next = p.state then p.demand
      else if next = .emergency then ⟨100, true, true⟩
      else if next = .intervention then ⟨100, false, false⟩
      else ⟨0, false, false⟩
    let handed : Brake := { s.brake with supState := next, supDemand := demand }
    let t := s.evaluate
    (s.resetHeld = false →
        exec .evaluationTimerExpiry s = .next (if p.evalTimer = none then s else t))
      ∧ t.sup = ⟨next, causes, x, demand, some (s.param 23), p.emergIn, p.doorsSecure, r.permitted,
          some s.compute.1, r.governing, r.shortfall, r.overrun⟩
      ∧ t.brake = (if next = p.state then s.brake
          else Brake.reform (s.param 27) (if next = .emergency
            then { handed with lineHold := false, overlap := none, floor := 0 } else handed))
      ∧ t.radio = (if next ≠ p.state ∧ next = .emergency then
          (State.handAlarm { s with sup := t.sup }).radio else s.radio)
      ∧ hasFlag t.port.flags .supervision
          = (hasFlag s.port.flags .supervision || decide (next ≠ p.state))
      ∧ hasFlag t.port.flags .shortfall
          = (hasFlag s.port.flags .shortfall || (r.shortfall && !p.shortfall))
      ∧ (∀ f, f ≠ .supervision → f ≠ .shortfall → f ≠ .txDone →
          hasFlag t.port.flags f = hasFlag s.port.flags f)
      ∧ t = { s with
          sup := t.sup, brake := t.brake, radio := t.radio
          port := { s.port with flags := t.port.flags } }

/-- EMERGENCY_ACK: the checks of R109 in order, each refusal changing nothing but the port; an
accepted one from a good state clears every cause and latch, the rollback count and the line hold,
judges both brake supervisions afresh, answers the causes it cleared, stands at NORMAL after its
evaluation with the outputs formed for it and the loop closed, sets SUPERVISION, and hands the ALARM
of the exit with NORMAL and the live causes as they stand then, before the evaluation (log entry 24)
(R39, R92, R99, R101, R104, R109, R110, R112, R113, R118, R119, R133). -/
def Obligations.AcknowledgmentEndsTheEmergency : Prop :=
  ∀ s : State,
    let i := Instr.emergencyAck
    s.Takes i → (s.sup.state ≠ .emergency ∨ s.brake.unit ≠ .armed →
        exec i s = .next (s.answers i .wrongState []))
      ∧ (s.sup.state = .emergency → s.brake.unit = .armed → s.odo.motion = true →
        exec i s = .next (s.answers i .moving []))
      ∧ (s.sup.state = .emergency → s.brake.unit = .armed → s.odo.motion = false →
        s.sup.emergIn = true → exec i s = .next (s.answers i .causePresent []))
      ∧ (s.sup.state = .emergency → s.brake.unit = .armed → s.odo.motion = false →
        s.sup.emergIn = false → s.Good →
        let c := s.sup.causes
        let b := s.brake
        let r := s.compute.2
        let acked : Brake := { b with
          bandFault := false, loopFault := false, lineHold := false
          bandTimer := if b.band = false ∧ b.bandSense.level = false then some (s.param 27)
            else b.bandTimer
          loopTimer := if b.loop = b.loopSense.level then b.loopTimer
            else some (b.loopTimer.getD 100) }
        let alarmed : State := State.handAlarm { s with sup := { s.sup with
          state := .normal
          causes := ⟨false, false, false, false, false, false, false, false, c.doorOpenMoving,
            c.emergencyLine⟩ } }
        ∃ t : State, exec i s = .next (t.answers i .ok (u16 (maskOf [c.overspeed, c.overrun,
              c.rollback, c.pinionSlip, c.pinionSensor, c.bandFault, c.loopFault, c.reset]) ++ [0]))
          ∧ t.brake.loop = true ∧ hasFlag t.port.flags .supervision = true
          ∧ t = { s with
            sup := ⟨.normal,
              ⟨false, false, false, false, false, false, false, false, false, false⟩,
              -(r.permitted : Int), ⟨0, false, false⟩, some (s.param 23), s.sup.emergIn,
              s.sup.doorsSecure, r.permitted, some s.compute.1, r.governing, r.shortfall, r.overrun⟩
            odo := { s.odo with
              pinionSensor := false, pinionSlip := false, rollbackLatch := false, rollback := 0 }
            brake := Brake.reform (s.param 27) { Brake.reform (s.param 27) acked with
              supState := .normal, supDemand := ⟨0, false, false⟩ }
            radio := alarmed.radio
            port := { s.port with flags :=
              let flags := setBit alarmed.port.flags .supervision
              if r.shortfall = true ∧ s.sup.shortfall = false then setBit flags .shortfall
              else flags } })


/-! ### The brake output unit -/

/-- BRAKE_DEMAND stores the bounded demand and re-forms the three outputs: LOOP, BAND and SERVICE as
their conditions form them, the ramp on a fall, and the two supervisions driven by a changed output; a
release code above 1 is refused (R116, R119, R121, R122, R123, R125, R130, R132). -/
def Obligations.BrakeDemandFormsTheOutputs : Prop :=
  (∀ (level release : Byte) (s : State),
    let i := Instr.brakeDemand level release
    s.Takes i →
    let b := s.brake
    let stored := min level.toNat 100
    exec i s = .next (
      if 1 < release.toNat then s.answers i .badValue (u8 b.hostLevel ++ Machine.bool b.hostRelease)
      else ({ s with brake := Brake.reform (s.param 27) { b with
          hostLevel := stored, hostRelease := decide (release.toNat = 1) } }).answers i
        (if 100 < level.toNat then .okClamped else .ok) (u8 stored ++ [release])))
  ∧ ∀ (applyTime : Nat) (b : Brake),
    let line := b.emergIn.level = false
    let merged := max (max (if b.hold = true then 0 else b.hostLevel) b.supDemand.level)
      (max (if line ∨ b.lineHold = true then 100 else 0) (if b.overlap.isSome then b.floor else 0))
    let loop := decide (b.unit = .armed ∧ b.supState ≠ .emergency ∧ ¬line ∧ b.lineHold = false)
    let band := decide (b.unit = .armed ∧ b.secure = true ∧ ¬line ∧ b.lineHold = false
      ∧ b.supState ≠ .emergency ∧ b.hostRelease = true ∧ b.hold = false)
    Brake.reform applyTime b = { b with
      loop := loop
      band := band
      service := if b.unit = .armed then max b.service merged else 100
      ramp := if b.unit = .armed ∧ merged < b.service then some (b.ramp.getD 100) else none
      loopTimer := if loop = b.loop then b.loopTimer
        else if loop = b.loopSense.level then none else some (b.loopTimer.getD 100)
      bandTimer := if band = b.band then b.bandTimer
        else if band = true then none
        else if b.bandSense.level = true then b.bandTimer else some applyTime }

/-- The ramp timer's expiry lowers SERVICE by the release ramp, to no less than the merged demand; a
handed speed that falls below the fade speed in motion, with the service brake on and the band released,
starts the handover with the hold, the floor and the overlap time of R127; the overlap timer's expiry
ends the overlap and keeps the hold (R118, R123, R126, R127, R128). A stopped timer's expiry does
nothing (the model's choice, log entry 23). -/
def Obligations.HandoverAndRampMoveTheService : Prop :=
  (∀ s : State, s.resetHeld = false →
    let b := s.brake
    let lower := b.service - s.param 26
    exec .rampTimerExpiry s = .next (
      if b.ramp = none then s
      else if b.merged < lower then
        { s with brake := { b with service := lower, ramp := some 100 } }
      else { s with brake := { b with service := b.merged, ramp := none } }))
  ∧ (∀ s : State, s.resetHeld = false → exec .overlapTimerExpiry s = .next (
      if s.brake.overlap = none then s
      else { s with brake :=
        Brake.reform (s.param 27) { s.brake with overlap := none, floor := 0 } }))
  ∧ ∀ (v : Nat) (s : State),
    let b := s.brake
    let fade := s.param 24
    let code := s.param 25
    let time := if code < 100 then 20 * code
      else if code < 180 then 2000 + 50 * (code - 100) else 6000 + 100 * (code - 180)
    s.handSpeed v = { s with brake := Brake.reform (s.param 27) (
      if v < fade ∧ fade ≤ b.speed ∧ b.motion = true ∧ 0 < b.service ∧ b.band = true then
        (if code = 0 then { b with speed := v, hold := true, overlap := none, floor := 0 }
         else { b with speed := v, hold := true, overlap := some time, floor := b.service })
      else { b with speed := v }) }

/-- EMERG_IN acts at its assertion and does not act a second time: the line hold is set, the overlap
ends, the outputs are re-formed and EMERGENCY_LINE is handed to an evaluation, which leaves loop and
band open, SERVICE at 100 % and the state EMERGENCY; the release re-forms the outputs, takes the cause
away, and closes nothing (R104, R108, R119, R120, R122, R129). A level the input already has is no
change (the model's choice, log entry 9). -/
def Obligations.EmergencyLineActsAtOnce : Prop :=
  ∀ s : State, s.resetHeld = false →
    let b := s.brake
    let taken (asserted : Bool) (unit : Brake) : State := State.evaluate { s with
      brake := Brake.reform (s.param 27) unit
      sup := { s.sup with
        emergIn := asserted, causes := { s.sup.causes with emergencyLine := asserted } } }
    let opened (t : State) : Prop := t.brake.loop = false ∧ t.brake.band = false
      ∧ t.brake.service = 100 ∧ t.brake.ramp = none ∧ t.sup.state = .emergency
    let assertion := taken true { b with
      emergIn := .steady false, lineHold := true, overlap := none, floor := 0 }
    let release := taken false { b with emergIn := .steady true }
    exec .emergInAsserted s = .next (if b.emergIn.level = true then assertion else s)
      ∧ exec .emergInReleased s = .next (if b.emergIn.level = true then s else release)
      ∧ (b.emergIn.level = true → b.Good → opened assertion
          ∧ assertion.sup.causes.emergencyLine = true
          ∧ assertion.brake.lineHold = decide (s.sup.state = .emergency))
      ∧ (b.emergIn.level = false → s.Good → opened release
          ∧ release.sup.causes.emergencyLine = false)

/-- LOOP_SENSE and BAND_SENSE drive their supervisions; the expiry of a supervision latches its fault
once, with BRAKE_FAULT and its cause, and an evaluation that leaves EMERGENCY with loop and band open
and SERVICE at 100 %; an expiry with the fault latched changes nothing further (R107, R124, R130, R131,
R132). A level the input already has and the expiry of a stopped timer do nothing (the model's choice,
log entries 9 and 23). -/
def Obligations.BrakeFeedbackIsSupervised : Prop :=
  ∀ (level : Bool) (s : State), s.resetHeld = false →
    let b := s.brake
    let opened (t : State) : Prop := t.brake.loop = false ∧ t.brake.band = false
      ∧ t.brake.service = 100 ∧ t.sup.state = .emergency ∧ hasFlag t.port.flags .brakeFault = true
    let flagged : Port := { s.port with flags := setBit s.port.flags .brakeFault }
    let bandFault := State.evaluate { s with
      brake := { b with bandTimer := none, bandFault := true }, port := flagged
      sup := { s.sup with causes := { s.sup.causes with bandFault := true } } }
    let loopFault := State.evaluate { s with
      brake := { b with loopTimer := none, loopFault := true }, port := flagged
      sup := { s.sup with causes := { s.sup.causes with loopFault := true } } }
    exec (.loopSenseChange level) s = .next (
        if level = b.loopSense.level then s
        else { s with brake := { b with
          loopSense := .steady level
          loopTimer := if b.loop = level then none else some (b.loopTimer.getD 100) } })
      ∧ exec (.bandSenseChange level) s = .next (
        if level = b.bandSense.level then s
        else { s with brake := { b with
          bandSense := .steady level
          bandTimer := if level = true then none
            else if b.band = true then b.bandTimer else some (b.bandTimer.getD (s.param 27)) } })
      ∧ exec .bandApplyTimerExpiry s = .next (
        if b.bandTimer = none then s
        else if b.bandFault = true then { s with brake := { b with bandTimer := none } }
        else bandFault)
      ∧ exec .loopAgreementTimerExpiry s = .next (
        if b.loopTimer = none then s
        else if b.loopFault = true then { s with brake := { b with loopTimer := none } }
        else loopFault)
      ∧ (s.Good → opened bandFault ∧ opened loopFault)

/-! ### The doors -/

/-- The four door commands in the order of their checks: what is refused changes nothing but the port; a
release unlocks the LOCKED doors of its side, an opening moves its UNLOCKED doors, a closing makes its
sides NOT_RELEASED and closes their doors, a reset takes a closed FAULT door to LOCKING; every answer
carries the door states and release states after the command (R139 to R141, R143, R145, R150, R151,
R153). -/
def Obligations.DoorCommandsActOnTheirSides : Prop :=
  ∀ (side override : Byte) (s : State),
    let ds := s.doors
    let shown (t : State) : List Byte :=
      let us := t.doors
      u8 (doorStateCode us.d0.state) ++ u8 (doorStateCode us.d1.state)
        ++ u8 (doorStateCode us.d2.state) ++ u8 (doorStateCode us.d3.state)
        ++ Machine.bool us.leftReleased ++ Machine.bool us.rightReleased
    let reply (i : Instr) (status : Status) (t : State) := t.answers i status (shown t)
    let left := side.toNat = 1 ∨ side.toNat = 3
    let right := side.toNat = 2 ∨ side.toNat = 3
    let onSides (f : Door → Door) : Doors :=
      let l (d : Door) : Door := if left then f d else d
      let r (d : Door) : Door := if right then f d else d
      { ds with d0 := l ds.d0, d1 := l ds.d1, d2 := r ds.d2, d3 := r ds.d3 }
    let covered := s.table.records.any fun q =>
      (q.imposes == .doors .both || q.imposes == .doors (if left then .left else .right))
        && s.odo.positionValid && decide (s.profile.state = .valid)
        && !(decide (q.origin ≠ .vehicle) && decide (s.radio.link = .lost))
        && decide (q.first ≤ s.odo.position) && decide (s.odo.position + s.param 3 ≤ q.last)
    let unlocked := onSides fun d => if d.state = .locked then { d with state := .unlocked } else d
    let granted : Doors := { unlocked with
      leftReleased := ds.leftReleased || decide left
      rightReleased := ds.rightReleased || decide right
      lastEvent := if override.toNat = 1 then .override (if left then .left else .right)
        else ds.lastEvent }
    let opening := onSides fun d =>
      if d.state ≠ .unlocked then d
      else if d.openEnd.level = true then
        { d with state := .opened, reclose := false, motionTimer := none, lockTimer := none }
      else { d with
        state := .opening, reclose := false, motionTimer := some (s.param 28), lockTimer := none }
    (s.Takes (.doorRelease side override) →
      exec (.doorRelease side override) s = .next (reply (.doorRelease side override)
        (if ¬(side.toNat = 1 ∨ side.toNat = 2) ∨ 1 < override.toNat then .badValue
          else if ds.motion = true then .moving
          else if s.brake.band = true ∨ s.brake.bandSense.level = false then .brakeNotHeld
          else if override.toNat = 1 ∨ covered = true then .ok else .noRelease)
        (if (side.toNat = 1 ∨ side.toNat = 2) ∧ override.toNat ≤ 1 ∧ ds.motion = false
            ∧ s.brake.band = false ∧ s.brake.bandSense.level = true
            ∧ (override.toNat = 1 ∨ covered = true) then
          s.commitDoors (granted, decide (override.toNat = 1)) else s)))
      ∧ (s.Takes (.doorOpen side) → exec (.doorOpen side) s = .next (
        if ¬(side.toNat = 1 ∨ side.toNat = 2) then reply (.doorOpen side) .badValue s
        else if ds.motion = true then reply (.doorOpen side) .moving s
        else if (if left then ds.leftReleased else ds.rightReleased) = false then
          reply (.doorOpen side) .noRelease s
        else reply (.doorOpen side) .ok { s with doors := opening }))
      ∧ (s.Takes (.doorClose side) → side.toNat = 0 ∨ 3 < side.toNat → exec (.doorClose side) s
          = .next (reply (.doorClose side) .badValue s))
      ∧ (s.Takes (.doorClose side) → left ∨ right →
        let named (id : DoorId) : Prop := if id = .d0 ∨ id = .d1 then left else right
        let notes := [DoorId.d0, .d1, .d2, .d3].filterMap fun id =>
          if named id then (Door.close s.doorTimes (ds.get id)).2.map (DoorNote.event id) else none
        exec (.doorClose side) s = .next (reply (.doorClose side) .ok (s.commitDoors
          ({ onSides (fun d => (Door.close s.doorTimes d).1) with
              leftReleased := ds.leftReleased && !decide left
              rightReleased := ds.rightReleased && !decide right
              lastEvent := notes.getLast?.getD ds.lastEvent }, !notes.isEmpty))))
      ∧ (s.Takes (.doorReset side) → 3 < side.toNat →
        exec (.doorReset side) s = .next (reply (.doorReset side) .badValue s))
      ∧ ∀ id, s.Takes (.doorReset side) → doorCode id = side.toNat →
        let d := ds.get id
        let reset : Door := if d.locked.level = true then
            { d with state := .locked, reopen := 0, reclose := false, motionTimer := none
                     lockTimer := none }
          else { d with state := .locking, reopen := 0, reclose := false, motionTimer := none
                        lockTimer := some (s.param 29) }
        exec (.doorReset side) s = .next (
          if d.state = .fault ∧ d.closed.level = true then
            reply (.doorReset side) .ok (s.commitDoors (ds.put reset id, false))
          else reply (.doorReset side) .wrongState s)

/-- The accepted changes of a door's five inputs and its two timers move that one door by the tables
of the states, with its timers, its reopen count and its event; the doors' change is handed on as R152
says. The entry to CLOSING, and OBSTRUCT at a CLOSING door, are stated where CLOSED and OBSTRUCT are
not both true, which the manual leaves open (log entry 16) (R138, R143 to R149, R151, R152). A level
the input already has and the expiry of a stopped timer do nothing (log entries 9 and 23). -/
def Obligations.DoorInputsMoveOneDoor : Prop :=
  (∀ (x : Doors × Bool) (s : State),
    let u : State := { s with doors := x.1, port := { s.port with
      flags := if x.2 = true then setBit s.port.flags .doorEvent else s.port.flags } }
    s.commitDoors x = if x.1.secure = s.doors.secure then u
      else State.evaluate { u with
        brake := Brake.reform (s.param 27) { s.brake with secure := x.1.secure }
        sup := { s.sup with doorsSecure := x.1.secure } })
  ∧ (∀ (t : DoorTimes) (d : Door), ¬(d.closed.level = true ∧ d.obstruct.level = true) →
    Door.enterClosing t d =
      if d.closed.level = true then
        (if d.locked.level = true then
          ({ d with state := .locked, motionTimer := none, lockTimer := none }, none)
         else ({ d with state := .locking, motionTimer := none, lockTimer := some t.lock }, none))
      else if d.obstruct.level = false then
        ({ d with state := .closing, motionTimer := some t.motion, lockTimer := none }, none)
      else if d.reopen < t.limit ∧ d.openEnd.level = false then
        ({ d with
          state := .opening, reopen := d.reopen + 1, reclose := true
          motionTimer := some t.motion, lockTimer := none }, none)
      else ({ d with
          state := .held, reopen := max d.reopen t.limit
          reclose := if d.reopen < t.limit then false else d.reclose
          motionTimer := none, lockTimer := none }, some .held))
  ∧ (∀ (t : DoorTimes) (d : Door),
      let e : Door := { d with reopen := 0, reclose := false }
      Door.close t d =
        if d.state = .opened ∨ d.state = .opening ∨ d.state = .held
            ∨ (d.state = .unlocked ∧ d.closed.level = false) then e.enterClosing t
        else if d.state = .unlocked then
          (if d.locked.level = true then
            ({ e with state := .locked, motionTimer := none, lockTimer := none }, none)
           else ({ e with state := .locking, motionTimer := none, lockTimer := some t.lock }, none))
        else (e, none))
  ∧ ∀ (id : DoorId) (level : Bool) (s : State), s.resetHeld = false →
    let d := s.doors.get id
    let t : DoorTimes := ⟨s.param 28, s.param 29, s.param 30⟩
    let moved (r : Door × Option DoorNote) : State :=
      s.commitDoors ({ s.doors.put r.1 id with
        lastEvent := (r.2.map (DoorNote.event id)).getD s.doors.lastEvent }, r.2.isSome)
    let fault (cause : DoorCause) (e : Door) : Door × Option DoorNote :=
      ({ e with state := .fault, motionTimer := none, lockTimer := none }, some (.fault cause))
    let button : Door := { d with button := .steady level }
    let obstruct : Door := { d with obstruct := .steady level }
    let openEnd : Door := { d with openEnd := .steady level }
    let closed : Door := { d with closed := .steady level }
    let locked : Door := { d with locked := .steady level }
    exec (.doorButtonPress id level) s = .next (
        if level = d.button.level then s
        else if level = true ∧ s.doors.motion = false ∧ d.state = .unlocked then
          (if d.openEnd.level = true then moved ({ button with
              state := .opened, reclose := false, motionTimer := none, lockTimer := none }, none)
           else moved ({ button with
              state := .opening, reclose := false, motionTimer := some t.motion
              lockTimer := none }, none))
        else moved (button, none))
      ∧ (d.closed.level = false ∨ d.state ≠ .closing → exec (.doorObstruction id level) s = .next (
        if level = d.obstruct.level then s
        else if level = true ∧ d.state = .closing then
          (if d.reopen < t.limit ∧ d.openEnd.level = false then moved ({ obstruct with
              state := .opening, reopen := d.reopen + 1, reclose := true
              motionTimer := some t.motion, lockTimer := none }, none)
           else moved ({ obstruct with
              state := .held, reopen := max d.reopen t.limit
              reclose := if d.reopen < t.limit then false else d.reclose
              motionTimer := none, lockTimer := none }, some .held))
        else moved (obstruct, none)))
      ∧ exec (.doorOpenEnd id level) s = .next (
        if level = d.openEnd.level then s
        else if level = true ∧ d.state = .opening then
          (if d.reclose = true then moved (({ openEnd with reclose := false }).enterClosing t)
           else moved ({ openEnd with state := .opened, motionTimer := none }, none))
        else moved (openEnd, none))
      ∧ exec (.doorClosedChange id level) s = .next (
        if level = d.closed.level then s
        else if level = true ∧ d.state = .closing then
          (if d.locked.level = true then moved ({ closed with
              state := .locked, motionTimer := none, lockTimer := none }, none)
           else moved ({ closed with
              state := .locking, motionTimer := none, lockTimer := some t.lock }, none))
        else if level = false ∧ (d.state = .locking ∨ d.state = .locked) then
          moved (fault .forced closed)
        else moved (closed, none))
      ∧ exec (.doorLockedChange id level) s = .next (
        if level = d.locked.level then s
        else if level = true ∧ d.state = .locking then
          moved ({ locked with state := .locked, lockTimer := none }, none)
        else if level = false ∧ d.state = .locked then moved (fault .forced locked)
        else moved (locked, none))
      ∧ exec (.doorMotionTimerExpiry id) s = .next (
        if d.motionTimer = none then s
        else if d.state = .opening then moved (fault .openTime d)
        else if d.state = .closing then moved (fault .closeTime d)
        else moved ({ d with motionTimer := none }, none))
      ∧ exec (.doorLockTimerExpiry id) s = .next (
        if d.lockTimer = none then s
        else if d.state = .locking then moved (fault .lockTime d)
        else moved ({ d with lockTimer := none }, none))

/-! ### The radio line -/

/-- RADIO_MODE stores the requested mode, and the change is made where the line is quiet: at the
request, at MODE_CHANGE, or at a later event that leaves it quiet, where a start that is possible too
may be taken first. A change makes the entry effects of the new mode: OFF and CONFIG discard what waits,
SELFTEST and the way out of it discard a HELD frame, and any other entry to NORMAL or LISTEN keeps it;
LISTEN keeps the queue; NORMAL and SELFTEST place the pending alarm and then the waiting answer where a
slot is free, and send. A loss of the link is handed to one evaluation (R166 to R168, R170, R171, R173,
R185, R190). The order of the handings within a change is the model's, and
which of a change and a start is taken first is free (log entries 13 and 14). -/
def Obligations.ModeChangesTakeTheirEntryEffects : Prop :=
  (∀ (mode : Byte) (s : State),
    let i := Instr.radioMode mode
    let new := [LinkMode.off, .config, .normal, .listen, .selftest].getD mode.toNat .off
    let u : State := { s with radio := { s.radio with requested := new } }
    let t := if new ≠ s.radio.current ∧ s.radio.assembler = none ∧ s.radio.tx = none
      then u.changeMode else u
    s.Takes i → exec i s = .next (if 4 < mode.toNat then s.answers i .badValue []
      else t.answers i .ok (u8 mode.toNat ++ u8 (modeCode t.radio.current))))
  ∧ (∀ s : State,
    let waits := s.radio.requested ≠ s.radio.current
    let quiet := s.radio.assembler = none ∧ s.radio.tx = none
    let u : State := { s with free := s.free + 1 }
    (s.resetHeld = false → exec .modeChange s = .next (if waits ∧ quiet then s.changeMode else s))
      ∧ (waits → quiet → s.radio.canStart = true →
          s.lineEvent = u.startFrame ∨ s.lineEvent = u.changeMode)
      ∧ (waits → quiet → s.radio.canStart = false → s.lineEvent = s.changeMode)
      ∧ (waits → ¬quiet → s.lineEvent = s)
      ∧ (¬waits → s.lineEvent = s.startFrame))
  ∧ ∀ s : State, s.radio.BuffersGood → s.radio.QueueGood → s.radio.txSeq < 256 →
    s.radio.assembler = none → s.radio.tx = none → s.radio.requested ≠ s.radio.current →
    let old := s.radio.current
    let new := s.radio.requested
    let wasOk := s.radio.link = .ok
    let hosts := s.radio.queue.filter fun e => decide (e.origin = .vehicle)
    let vehicles := hosts.length
    let quiets := new = .off ∨ new = .config
    let discards := new = .selftest ∨ (old = .selftest ∧ (new = .normal ∨ new = .listen))
    let kept (b : FrameBuffer) : FrameBuffer :=
      if quiets ∨ (discards ∧ b.state = .held) then ⟨.free, []⟩ else b
    let entered : Radio := { s.radio with
      current := new, markLatch := false, linkTimer := none, link := .lost
      linkLost := s.radio.linkLost || decide wasOk
      buf0 := kept s.radio.buf0, buf1 := kept s.radio.buf1 }
    let u : State := { s with
      port := { s.port with flags :=
        let flags := setBit s.port.flags .radio
        let flags := if wasOk then setBit flags .link else flags
        if quiets ∧ 0 < vehicles then setBit flags .txDone else flags }
      radio := if quiets then { entered with
          queue := [], pendingAlarm := none, waiting := none, busy := false
          lastTx := (hosts.getLast?.map fun e => (⟨e.handle, .discarded⟩ : LastTx)).or entered.lastTx
          txSeq := (entered.txSeq + vehicles) % 256 }
        else entered }
    let places := new = .normal ∨ new = .selftest
    let alarm : List QueueEntry :=
      match s.radio.pendingAlarm with
      | some body => if places ∧ s.radio.queue.length < 6
          then [⟨s.radio.nextHandle, 0x44, 2, .part, 0, body, false, false⟩] else []
      | none => []
    let w : Radio := { u.radio with
      queue := u.radio.queue ++ alarm, nextHandle := (u.radio.nextHandle + alarm.length) % 256
      pendingAlarm := if alarm = [] then u.radio.pendingAlarm else none }
    let room := places ∧ w.queue.length < 6
    let v : State :=
      match u.radio.waiting with
      | some a => if room then State.finishProcessing { u with radio := { w with
            queue := w.queue ++ [⟨w.nextHandle, a.kind, 3, .part, a.destination, a.body, false, false⟩]
            nextHandle := (w.nextHandle + 1) % 256, waiting := none } }
          else { u with radio := w }
      | none => { u with radio := w }
    let t := s.changeMode
    t = State.startFrame (if wasOk then v.evaluate else v)
      ∧ (¬quiets → ¬discards → ¬(s.radio.waiting.isSome = true ∧ room) →
          t.radio.buf0 = s.radio.buf0 ∧ t.radio.buf1 = s.radio.buf1
            ∧ t.radio.busy = s.radio.busy ∧ t.radio.mailbox = s.radio.mailbox
            ∧ t.table = s.table)
      ∧ t.radio.current = new ∧ t.radio.requested = new ∧ t.radio.markLatch = false
      ∧ t.radio.linkTimer = none ∧ t.radio.link = .lost
      ∧ t.radio.linkLost = (s.radio.linkLost || decide wasOk)
      ∧ hasFlag t.port.flags .radio = true
      ∧ hasFlag t.port.flags .link = (hasFlag s.port.flags .link || decide wasOk)
      ∧ (new = .off ∨ new = .config → t.radio.queue = [] ∧ t.radio.pendingAlarm = none
          ∧ t.radio.waiting = none ∧ t.radio.busy = false ∧ t.radio.buf0 = ⟨.free, []⟩
          ∧ t.radio.buf1 = ⟨.free, []⟩ ∧ t.radio.tx = none
          ∧ t.radio.txSeq = (s.radio.txSeq + vehicles) % 256
          ∧ hasFlag t.port.flags .txDone
              = (hasFlag s.port.flags .txDone || decide (0 < vehicles)))
      ∧ (new = .selftest ∨ (old = .selftest ∧ (new = .normal ∨ new = .listen)) →
          t.radio.buf0.state ≠ .held ∧ t.radio.buf1.state ≠ .held)
      ∧ (new = .listen → t.radio.queue = s.radio.queue ∧ t.radio.tx = none
          ∧ t.radio.waiting = s.radio.waiting ∧ t.radio.pendingAlarm = s.radio.pendingAlarm)
      ∧ ((new = .normal ∧ s.radio.carrier = false) ∨ new = .selftest → s.radio.queue ≠ [] →
          t.radio.tx ≠ none)
      ∧ t.profile = s.profile ∧ t.odo = s.odo ∧ t.doors = s.doors

/-- A received byte: the line error, the mark decoding, and what the assembler does with each symbol,
with the silence timer, the last receive error and its flag; the checks of a frame in their order; and
the abort at the silence timer's expiry; the check value bit by bit, from 0xFFFF, most significant bit
first, with 0x1021 and no inversion. Bytes count in NORMAL and LISTEN only (R155 to R157, R160 to
R163, R165, R168). A stopped timer's expiry does nothing (the model's choice, log entry 23). -/
def Obligations.BytesAreDecodedAndAssembled : Prop :=
  (∀ (value : Byte) (parityBit stopBit : Bool) (s : State), s.resetHeld = false → s.param 2 ≤ 2 →
    let r := s.radio
    let ones := ((List.range 8).filter value.getLsbD).length + parityBit.toNat
    let inError := stopBit = false ∨ (s.param 2 = 1 ∧ ones % 2 = 1) ∨ (s.param 2 = 2 ∧ ones % 2 = 0)
    let errorPort : Port := { s.port with flags := setBit s.port.flags .radioRxError }
    let stay (latch : Bool) : State := { s with radio := { r with
      markLatch := latch, silence := if r.assembler.isSome then some 100 else none } }
    let abort (e : RxError) (k : BufId) : State := State.lineEvent { s with
      port := errorPort
      radio := { r.setBuf ⟨.free, []⟩ k with
        markLatch := false, assembler := none, silence := none, lastError := some e } }
    let assemble (k : BufId) (content : List Byte) : State := { s with
      radio := { r.setBuf ⟨.assembling, content⟩ k with
        markLatch := false, assembler := some k, silence := some 100 } }
    let abortInside (e : RxError) : State :=
      match r.assembler with
      | none => stay false
      | some k => abort e k
    let data : State :=
      match r.assembler with
      | none => stay false
      | some k =>
        if (r.buf k).content.length < 64 then assemble k ((r.buf k).content ++ [value])
        else abort .oversize k
    let frameStart : State :=
      match r.assembler with
      | some k => assemble k []
      | none =>
        if r.buf0.state = .free then assemble .buf0 []
        else if r.buf1.state = .free then assemble .buf1 []
        else { s with
          port := errorPort
          radio := { r with
            markLatch := false, silence := none, lastError := some .receiveOverrun } }
    let frameEnd : State :=
      match r.assembler with
      | none => stay false
      | some k =>
        match checkContent (r.buf k).content with
        | some e => abort e k
        | none => State.lineEvent (State.frameChecked k { s with
            radio := { r with markLatch := false, assembler := none, silence := none } })
    exec (.receivedByte (.modem value parityBit stopBit)) s = .next (
      if r.current ≠ .normal ∧ r.current ≠ .listen then s
      else if inError then abortInside .lineError
      else if r.markLatch = false then (if value = 0x9C then stay true else data)
      else if value = 0x9C then data
      else if value = 0x11 then frameStart
      else if value = 0x12 then frameEnd
      else abortInside .symbolError))
  ∧ (∀ c : List Byte,
    let n := c.length
    let len := (c.getD 3 0).toNat
    checkContent c = if n < 6 then some .short
      else if 56 < len then some .long
      else if len + 6 < n then some .long
      else if n < len + 6 then some .short
      else if c.drop (n - 2) = bytes16 (checkValue (c.take (n - 2))) then none
      else some .checkError)
  ∧ (checkValue [] = 0xFFFF ∧ ∀ (c : List Byte) (b : Byte),
    let shift (crc : BitVec 16) (i : Nat) : BitVec 16 :=
      if crc.getLsbD 15 = b.getLsbD (7 - i) then crc <<< 1 else (crc <<< 1) ^^^ 0x1021
    checkValue (c ++ [b]) = (List.range 8).foldl shift (checkValue c))
  ∧ ∀ s : State, s.resetHeld = false → exec .silenceTimerExpiry s = .next (
      match s.radio.silence, s.radio.assembler with
      | some _, some k => State.lineEvent { s with
          port := { s.port with flags := setBit s.port.flags .radioRxError }
          radio := { s.radio.setBuf ⟨.free, []⟩ k with
            assembler := none, silence := none, lastError := some .silence } }
      | _, _ => s)

/-- The transmitter starts, in NORMAL on a low CARRIER and in SELFTEST, the unsent entry of the
highest priority and among those the earliest placed, with its source, content and line bytes fixed
and KEY asserted in NORMAL only; CARRIER is such an event where no mode change waits. The link timer's
expiry loses the link with its latch, its flag and an evaluation. A byte is sent as one start bit, its
data bits least significant first, a parity bit when parity is even or odd, and one stop bit, and is
received so without error (R155, R156, R158, R169, R171 to R174, R184). CARRIER is kept in every mode,
and a stopped timer's expiry does nothing (the model's readings, log entries 22 and 23). -/
def Obligations.TransmitterStartsTheSelectedEntry : Prop :=
  (∀ s : State, s.resetHeld = false →
    let r := s.radio
    let may := r.tx = none ∧ r.assembler = none
      ∧ ((r.current = .normal ∧ r.carrier = false) ∨ r.current = .selftest)
    (¬may ∨ (∀ e ∈ r.queue, e.started = true) → exec .transmissionStart s = .next s)
      ∧ ∀ k e, may → r.queue[k]? = some e → e.started = false →
        (∀ j q, r.queue[j]? = some q → q.started = false →
          q.priority < e.priority ∨ (q.priority = e.priority ∧ k ≤ j)) →
        let content := frameContent e.destination (BitVec.ofNat 8 (s.param 0)) e.kind e.body
        let bytes := [0x9C, 0x11] ++ content.flatMap (fun b => if b = 0x9C then [b, b] else [b])
          ++ [0x9C, 0x12]
        exec .transmissionStart s = .next { s with radio := { r with
          queue := r.queue.set k { e with started := true }
          tx := some ⟨e.handle, content, bytes.map (lineByte (s.param 2))⟩
          key := decide (r.current = .normal) } })
  ∧ (∀ (code : Nat) (b : Byte), code ≤ 2 →
    let x := lineByte code b
    let dataBits := (List.range 8).map b.getLsbD
    ∃ parity : List Bool, x.bits = [false] ++ dataBits ++ parity ++ [true] ∧ x.data = b
      ∧ (if code = 0 then parity = []
        else parity.length = 1 ∧ ((dataBits ++ parity).filter id).length % 2 = code - 1)
      ∧ x.bits.length = (if code = 0 then 10 else 11)
      ∧ byteInError code x.data (x.parity.getD false) true = false)
  ∧ (∀ (level : Bool) (s : State), s.resetHeld = false →
    let t : State := { s with radio := { s.radio with carrier := level } }
    exec (.carrierChange level) s
      = if s.radio.requested = s.radio.current then exec .transmissionStart t else .next t)
  ∧ ∀ s : State, s.resetHeld = false → exec .linkTimerExpiry s = .next (
      if s.radio.linkTimer = none then s
      else if s.radio.link = .lost then { s with radio := { s.radio with linkTimer := none } }
      else State.evaluate { s with
        port := { s.port with flags := setBit s.port.flags .link }
        radio := { s.radio with linkTimer := none, link := .lost, linkLost := true } })

/-- The end of a transmission: the transmitter is IDLE, KEY is released, the started entry leaves with
SENT for a host frame, a POSITION_REPORT that carried the link-lost latch clears it, waiting items
take the freed slot (the pending alarm first, then the waiting answer, whose processing finishes and
gives way to a HELD frame), and the line event follows; in SELFTEST the rest of the frame is looped
first (R164, R169, R172, R174, R176, R184, R185, R190). That the rest is handed over at the end, and
that waiting items are placed before the line event and so before a mode change, are the model's
choices (log entries 19 and 29). -/
def Obligations.EndedTransmissionsFreeTheirSlot : Prop :=
  (∀ s : State, s.radio.tx = none → exec .endOfTransmission s = .next s)
  ∧ (∀ (s : State) (k : Nat) (e : QueueEntry), s.resetHeld = false → s.radio.tx ≠ none →
    s.radio.current ≠ .selftest ∨ (∀ x, s.radio.tx = some x → x.line = []) →
    s.radio.queue[k]? = some e → e.started = true →
    (∀ j q, s.radio.queue[j]? = some q → j < k → q.started = false) →
    let sent := e.origin = .vehicle
    let carried := e.kind = 0x42 ∧ (e.body.getD 3 0).getLsbD 2 = true
    let ended : State := { s with
      port := { s.port with
        flags := if sent then setBit s.port.flags .txDone else s.port.flags }
      radio := { s.radio with
        tx := none, key := false, queue := s.radio.queue.eraseIdx k
        linkLost := if carried then false else s.radio.linkLost
        lastTx := if sent then some ⟨e.handle, .sent⟩ else s.radio.lastTx
        txSeq := if sent then (s.radio.txSeq + 1) % 256 else s.radio.txSeq } }
    exec .endOfTransmission s = .next ended.placeWaiting.lineEvent)
  ∧ (∀ s t : State, s.radio.current = .selftest → s.radio.tx ≠ none →
    exec .loopedFrame s = .next t → t.radio.tx ≠ none
      ∧ exec .endOfTransmission s = exec .endOfTransmission t)
  ∧ ∀ s : State,
    let r := s.radio
    let places := r.current = .normal ∨ r.current = .selftest
    let u : State :=
      match r.pendingAlarm with
      | some body => if places ∧ r.queue.length < 6 then { s with radio := { r with
            queue := r.queue ++ [⟨r.nextHandle, 0x44, 2, .part, 0, body, false, false⟩]
            nextHandle := (r.nextHandle + 1) % 256, pendingAlarm := none } }
          else s
      | none => s
    let v : State :=
      match r.waiting with
      | some a => if places ∧ u.radio.queue.length < 6 then State.finishProcessing { u with
            radio := { u.radio with
              queue := u.radio.queue
                ++ [⟨u.radio.nextHandle, a.kind, 3, .part, a.destination, a.body, false, false⟩]
              nextHandle := (u.radio.nextHandle + 1) % 256, waiting := none } }
          else u
      | none => u
    s.placeWaiting = v
      ∧ (s.resetHeld = false → exec .waitingItemsPlaced s
          = (if v.radio.requested = v.radio.current then exec .transmissionStart v else .next v))
      ∧ ∀ k : BufId, (r.buf k).state = .processing → (r.buf k.other).state ≠ .processing →
        let freed : State := { s with radio := r.setBuf ⟨.free, []⟩ k }
        s.finishProcessing = if (r.buf k.other).state = .held then State.takeFrames 2 k.other freed
          else { freed with radio := { freed.radio with busy := false } }

/-! ### Radio messages -/

/-- An ALARM carries the supervision state and the causes as they stand: it takes a free slot, displaces
the newest unsent entry of priority 0 or 1, or waits in the latch; outside NORMAL and SELFTEST it is
dropped. The report timer's expiry restarts it, and refreshes the queued report or places one (R113,
R182, R183, R186, R187, R190, R207). A stopped timer's expiry does nothing (the model's choice, log
entry 23). -/
def Obligations.AlarmsAndReportsTakeTheirSlots : Prop :=
  ∀ s : State,
    let r := s.radio
    let places := r.current = .normal ∨ r.current = .selftest
    let begin (t : State) : State :=
      if t.radio.requested = t.radio.current then t.startFrame else t
    let room := r.queue.length < 6
    let c := s.sup.causes
    let body := u8 (supCode s.sup.state) ++ u16 (maskOf [c.overspeed, c.overrun, c.rollback,
      c.pinionSlip, c.pinionSensor, c.bandFault, c.loopFault, c.reset, c.doorOpenMoving,
      c.emergencyLine])
    let alarm : QueueEntry := ⟨r.nextHandle, 0x44, 2, .part, 0, body, false, false⟩
    let report := u24 s.odo.position
      ++ u8 (maskOf [s.odo.positionValid, s.doors.secure, r.linkLost])
      ++ u8 (dirCode s.odo.measured) ++ u16 s.odo.speed ++ u8 (supCode s.sup.state)
      ++ u16 s.sup.permitted ++ u8 s.table.records.length
    let timer := if s.param 32 = 0 then none else some (s.param 32)
    let waits (e : QueueEntry) : Bool := e.spontaneous && !e.started
    let next := (r.nextHandle + 1) % 256
    (¬places → s.handAlarm = s)
      ∧ (places → room → s.handAlarm
          = begin { s with radio := { r with queue := r.queue ++ [alarm], nextHandle := next } })
      ∧ (∀ k e, places → ¬room → r.queue[k]? = some e → e.started = false → e.priority ≤ 1 →
          (∀ j q, r.queue[j]? = some q → k < j → q.started = true ∨ 1 < q.priority) →
          s.handAlarm = begin { s with
            port := { s.port with flags :=
              if e.origin = .vehicle then setBit s.port.flags .txDone else s.port.flags }
            radio := { r with
              queue := r.queue.eraseIdx k ++ [alarm], nextHandle := next
              lastTx := if e.origin = .vehicle then some ⟨e.handle, .displaced⟩ else r.lastTx
              txSeq := if e.origin = .vehicle then (r.txSeq + 1) % 256 else r.txSeq } })
      ∧ (places → ¬room → (∀ e ∈ r.queue, e.started = true ∨ 1 < e.priority) →
          s.handAlarm = { s with radio := { r with pendingAlarm := some body } })
      ∧ (s.resetHeld = false → exec .reportTimerExpiry s = .next (
          if r.reportTimer = none then s
          else if ¬places then { s with radio := { r with reportTimer := timer } }
          else if r.queue.any waits = true then { s with radio := { r with
            reportTimer := timer
            queue := r.queue.map fun e => if waits e = true then { e with body := report } else e } }
          else if room then begin { s with radio := { r with
            reportTimer := timer, nextHandle := next
            queue := r.queue ++ [⟨r.nextHandle, 0x42, 1, .part, 0, report, true, false⟩] } }
          else { s with radio := { r with reportTimer := timer } }))

/-- RADIO_SEND makes its checks in order and places a TEXT frame under the next handle; RADIO_ABORT and
RADIO_ABORT_ALL remove unsent host frames with their reports and offer the slots; MAILBOX_READ shows the
oldest entry and MAILBOX_RELEASE removes it (R173, R183, R185, R188 to R191, R195, R205). Where two
entries share a handle the earlier one is meant (the model's choice, log entry 21). -/
def Obligations.HostFramesAndMailboxAnswer : Prop :=
  ∀ (destination priority handle : Byte) (body : List Byte) (s : State),
    let r := s.radio
    let begin (t : State) : State :=
      if t.radio.requested = t.radio.current then t.startFrame else t
    let send := Instr.radioSend destination priority body
    let d := destination.toNat
    let vehicle (e : QueueEntry) : Bool := !e.started && decide (e.origin = .vehicle)
    let leaving := r.queue.filter vehicle
    (s.Takes send → exec send s = .next (
        if 58 < body.length then s.answers send .frameError []
        else if 56 < body.length then s.answers send .badValue []
        else if r.current ≠ .normal ∧ r.current ≠ .selftest then s.answers send .wrongMode []
        else if ¬(d ≤ 15 ∨ (32 ≤ d ∧ d ≤ 95)) then s.answers send .badValue []
        else if 6 ≤ r.queue.length then s.answers send .queueFull []
        else (begin { s with radio := { r with
            queue := r.queue ++ [⟨r.nextHandle, 0x05, min priority.toNat 2, .vehicle, destination,
              body, false, false⟩]
            nextHandle := (r.nextHandle + 1) % 256 } }).answers send
          (if 2 < priority.toNat then .okClamped else .ok) (u8 r.nextHandle)))
      ∧ (s.Takes (.radioAbort handle) → (∀ e ∈ r.queue, e.handle ≠ handle.toNat) →
          exec (.radioAbort handle) s = .next (s.answers (.radioAbort handle) .notFound []))
      ∧ (∀ k e, s.Takes (.radioAbort handle) → r.queue[k]? = some e → e.handle = handle.toNat →
          (∀ j q, r.queue[j]? = some q → j < k → q.handle ≠ handle.toNat) →
          exec (.radioAbort handle) s = .next (
            if vehicle e = true then
              (begin (State.placeWaiting { s with
                port := { s.port with flags := setBit s.port.flags .txDone }
                radio := { r with
                  queue := r.queue.eraseIdx k
                  lastTx := some ⟨e.handle, .aborted⟩, txSeq := (r.txSeq + 1) % 256 } })).answers
                (.radioAbort handle) .ok []
            else s.answers (.radioAbort handle) .wrongState []))
      ∧ (s.Takes .radioAbortAll → r.txSeq < 256 → exec .radioAbortAll s = .next (
          (begin (State.placeWaiting { s with
            port := { s.port with flags :=
              if leaving = [] then s.port.flags else setBit s.port.flags .txDone }
            radio := { r with
              queue := r.queue.filter fun e => !vehicle e
              lastTx := match leaving.getLast? with
                | some e => some ⟨e.handle, .aborted⟩
                | none => r.lastTx
              txSeq := (r.txSeq + leaving.length) % 256 } })).answers .radioAbortAll .ok
            (u8 leaving.length)))
      ∧ (s.Takes .mailboxRead → exec .mailboxRead s = .next (
          match r.mailbox with
          | [] => s.answers .mailboxRead .empty []
          | m :: rest => s.answers .mailboxRead .ok (u8 (rest.length + 1) ++ [m.kind, m.source]
              ++ Machine.bool m.addressed ++ u8 m.body.length ++ m.body)))
      ∧ (s.Takes .mailboxRelease → exec .mailboxRelease s = .next (
          match r.mailbox with
          | [] => s.answers .mailboxRelease .empty []
          | _ :: rest => ({ s with radio := { r with mailbox := rest } }).answers .mailboxRelease .ok
              (u8 rest.length)))

/-- A station's frame: the bytes of its kind, taken in NORMAL and LISTEN only; without a FREE buffer an
overrun; not addressed to the car or not from a station, dropped; otherwise the link is heard and the
frame is HELD behind a busy processor (R156, R159, R160, R163, R164, R168, R171, R206). The command
stands for the whole arrival (the model's choice, log entry 18). -/
def Obligations.StationFramesReachTheProcessor : Prop :=
  (∀ (d src kind : Byte) (number : U16) (b : IssueBody) (body : List Byte) (s : State),
    s.resetHeld = false →
    exec (.issue d src b) s = .next (s.frameArrives d src 0x01 (bytes16 b.number ++ [b.cls]
        ++ bytes24 b.start ++ bytes24 b.stop ++ bytes16 b.limitOrSides ++ [b.lifetime]))
      ∧ exec (.revoke d src number) s = .next (s.frameArrives d src 0x02 (bytes16 number))
      ∧ exec (.poll d src) s = .next (s.frameArrives d src 0x03 [])
      ∧ exec (.tableQuery d src) s = .next (s.frameArrives d src 0x04 [])
      ∧ exec (.text d src body) s = .next (s.frameArrives d src 0x05 body)
      ∧ exec (.linkCheck d src) s = .next (s.frameArrives d src 0x06 [])
      ∧ exec (.frameNotUsed d src kind body) s = .next (s.frameArrives d src kind body))
  ∧ ∀ (d src kind : Byte) (body : List Byte) (s : State), body.length ≤ 56 →
    let r := s.radio
    let content := frameContent d src kind body
    let errorPort : Port := { s.port with flags := setBit s.port.flags .radioRxError }
    let clear : State := { s with radio := { r with markLatch := false } }
    let receives := r.current = .normal ∨ r.current = .listen
    let passes := (d.toNat = s.param 0 ∨ d.toNat = 0) ∧ 1 ≤ src.toNat ∧ src.toNat ≤ 15
    (¬receives → s.frameArrives d src kind body = s)
      ∧ (receives → r.assembler = none → r.buf0.state ≠ .free → r.buf1.state ≠ .free →
        s.frameArrives d src kind body = { clear with
          port := errorPort
          radio := { clear.radio with lastError := some .receiveOverrun } })
      ∧ ∀ k, receives → s.param 0 < 256 → r.BuffersGood →
        (r.assembler = some k ∨ (r.assembler = none ∧ (r.buf k).state = .free
          ∧ (k = .buf1 → r.buf0.state ≠ .free))) →
        let outside : State := { clear with
          radio := { clear.radio.setBuf ⟨.assembling, content⟩ k with
            assembler := none, silence := none } }
        let timed : State := { outside with
          radio := { outside.radio with linkTimer := some (s.param 31) } }
        let heard : State :=
          if r.link = .ok then timed
          else State.evaluate { timed with
            port := { s.port with flags := setBit s.port.flags .link }
            radio := { timed.radio with link := .ok } }
        (¬passes → s.frameArrives d src kind body = State.lineEvent { outside with
            radio := outside.radio.setBuf ⟨.free, []⟩ k })
          ∧ (passes → heard.radio.link = .ok ∧ heard.radio.linkTimer = some (s.param 31))
          ∧ (passes → r.busy = true → s.frameArrives d src kind body = State.lineEvent { heard with
              radio := heard.radio.setBuf ⟨.held, content⟩ k })
          ∧ (passes → r.busy = false → s.frameArrives d src kind body
              = State.lineEvent (State.takeFrames 2 k heard))

/-- What the processor does with a frame it takes outside SELFTEST: the table change of an ISSUE or
REVOKE, the delivery of a TEXT, the reports of POLL and TABLE_QUERY, nothing for the rest; the answer
goes to the source, when the frame is addressed and the mode NORMAL, with priority 3, and waits while
no slot is free; the buffer is FREE when the work ends, and a HELD frame in the other buffer is taken
at the same event. A frame that is still there in OFF or CONFIG is worked as in LISTEN (the model's
choice, log entry 26). In SELFTEST the looped bytes of the frame in flight are received one by one,
and a looped frame is delivered to the mailbox whatever its kind, with no table change and no answer,
while the mailbox has room; behind a BUSY processor it is HELD, and with no FREE buffer it is
discarded with RECEIVE_OVERRUN (R54, R62, R63, R67, R164, R169, R176 to R182, R207). The order of the
handings within a frame, and that the looped bytes come from the frame in flight and LOOPED_FRAME
hands over all that are left, are the model's (log entries 13 and 19). -/
def Obligations.FramesAreProcessedByKind : Prop :=
  (∀ (f : Frame) (s : State), s.radio.current ≠ .selftest →
    let u : State := { s with radio := { s.radio with busy := true } }
    let station := Origin.station f.source.toNat
    let answer (v : State) (kind : Byte) (body : List Byte) : State × Bool :=
      if f.destination ≠ 0 ∧ s.radio.current = .normal then
        (if v.radio.queue.length < 6 then
          let w : State := { v with radio := { v.radio with
            queue := v.radio.queue
              ++ [⟨v.radio.nextHandle, kind, 3, .part, f.source, body, false, false⟩]
            nextHandle := (v.radio.nextHandle + 1) % 256 } }
          (if w.radio.requested = w.radio.current then w.startFrame else w, true)
        else ({ v with radio := { v.radio with waiting := some ⟨kind, f.source, body⟩ } }, false))
      else (v, true)
    let result (v : State) (n : U16) (code : Nat) : State × Bool :=
      answer v 0x41 ([f.kind] ++ bytes16 n ++ u8 code)
    (∀ b, f.kind = 0x01 → f.body = issueBytes b →
        (recordOfIssue station b = none → s.processFrame f = result u b.number 2)
        ∧ ∀ q, recordOfIssue station b = some q →
          let t := (s.table.classify .radio q).1
          let moves := q.imposes.kind ≠ .doors
          let changed (v : Table) : State := { u with
            table := v, port := { s.port with flags := setBit s.port.flags .tableChanged } }
          let seq := (s.table.noticeSeq + 1) % 65536
          match (s.table.classify .radio q).2 with
          | .new k replaced =>
            t.notice = ⟨.issued, k, q.imposes.kind, station, q.number, replaced⟩ ∧ t.noticeSeq = seq
              ∧ s.processFrame f
                = result (State.evaluateIf (decide moves) (changed t)) b.number 0
          | .amended k =>
            t.notice = ⟨.amended, k, q.imposes.kind, station, q.number, none⟩ ∧ t.noticeSeq = seq
              ∧ s.processFrame f
                = result (State.evaluateIf (decide moves) (changed t)) b.number 1
          | .value => False
          | .kind _ _ => s.processFrame f = result u b.number 3
          | .full => s.processFrame f = result (
              if moves then State.evaluateIf (!s.table.lossLatch) { u with
                table := { s.table with lossLatch := true }
                port := { s.port with flags := setBit s.port.flags .restrictionLost } }
              else u) b.number 4)
      ∧ (∀ n : U16, f.kind = 0x02 → f.body = bytes16 n → s.processFrame f =
          match s.table.find station n.toNat with
          | some k => result (u.revokeSlot k) n 5
          | none => result u n 6)
      ∧ (f.kind = 0x03 → f.body = [] → s.processFrame f = answer u 0x42 (u24 s.odo.position
          ++ u8 (maskOf [s.odo.positionValid, s.doors.secure, s.radio.linkLost])
          ++ u8 (dirCode s.odo.measured) ++ u16 s.odo.speed ++ u8 (supCode s.sup.state)
          ++ u16 s.sup.permitted ++ u8 s.table.records.length))
      ∧ (f.kind = 0x04 → f.body = [] →
          let rs := s.table.records.filter fun q => decide (q.origin = station)
          s.processFrame f = answer u 0x43 (u8 rs.length ++ Machine.bool (decide (18 < rs.length))
            ++ (rs.take 18).flatMap fun q => u16 q.number ++ u8 (kindCode q.imposes.kind)))
      ∧ (f.kind = 0x05 → s.processFrame f =
          if s.radio.mailbox.length < 4 then
            result { u with
              port := { s.port with flags := setBit s.port.flags .mailbox }
              radio := { u.radio with mailbox := s.radio.mailbox
                ++ [⟨0x05, f.source, decide (f.destination ≠ 0), f.body⟩] } } 0 7
          else result u 0 8)
      ∧ (f.kind = 0x06 ∨ frameUsed f.kind f.body.length = false ∧ f.kind ≠ 0x05 →
          s.processFrame f = (u, true)))
  ∧ (∀ (f : Frame) (s : State), s.radio.current = .selftest →
    let u : State := { s with radio := { s.radio with busy := true } }
    s.processFrame f = (if s.radio.mailbox.length < 4 then { u with
        port := { s.port with flags := setBit s.port.flags .mailbox }
        radio := { u.radio with mailbox := s.radio.mailbox
          ++ [⟨f.kind, f.source, decide (f.destination ≠ 0), f.body⟩] } } else u, true))
  ∧ (∀ (n : Nat) (k : BufId) (s : State), (s.radio.buf k.other).state ≠ .processing →
    let taken : State := { s with radio := s.radio.setBuf { s.radio.buf k with state := .processing } k }
    let worked := taken.processFrame (frameOf (s.radio.buf k).content)
    let freed : State := { worked.1 with radio := worked.1.radio.setBuf ⟨.free, []⟩ k }
    State.takeFrames (n + 1) k s =
      if worked.2 = false then worked.1
      else if (s.radio.buf k.other).state = .held then State.takeFrames n k.other freed
      else { freed with radio := { freed.radio with busy := false } })
  ∧ (∀ s : State,
    (s.radio.current ≠ .selftest ∨ s.radio.tx = none →
        exec .loopedFrame s = .next s ∧ exec (.receivedByte .looped) s = .next s)
      ∧ ∀ x, s.resetHeld = false → s.radio.current = .selftest → s.radio.tx = some x → ∃ t,
        runCommands (List.replicate x.line.length (.receivedByte .looped)) s = some t
          ∧ exec .loopedFrame s = .next t ∧ t.radio.tx = some { x with line := [] })
  ∧ ∀ (d src kind : Byte) (body : List Byte) (handle : Nat) (s : State), body.length ≤ 56 →
    s.resetHeld = false → s.radio.current = .selftest → s.radio.assembler = none → s.radio.markLatch = false →
    s.radio.BuffersGood →
    let content := frameContent d src kind body
    let looped : Radio := { s.radio with tx := some ⟨handle, content, []⟩ }
    let crowded : State :=
      if s.radio.buf0.state = .free then { s with radio := { looped with buf0 := ⟨.held, content⟩ } }
      else if s.radio.buf1.state = .free then
        { s with radio := { looped with buf1 := ⟨.held, content⟩ } }
      else { s with
        port := { s.port with flags := setBit s.port.flags .radioRxError }
        radio := { looped with lastError := some .receiveOverrun } }
    s.radio.tx = some ⟨handle, content, (lineBytes content).map (lineByte (s.param 2))⟩ →
      exec .loopedFrame s = .next (if s.radio.busy = true then crowded else { s with
        port := { s.port with flags :=
          if s.radio.mailbox.length < 4 then setBit s.port.flags .mailbox else s.port.flags }
        radio := { s.radio with
          tx := some ⟨handle, content, []⟩
          mailbox := if s.radio.mailbox.length < 4
            then s.radio.mailbox ++ [⟨kind, src, decide (d ≠ 0), body⟩] else s.radio.mailbox } })

/-! ### The host port and the resets -/

/-- The port: READY is high in RECEIVING only. A request selection begins in IDLE, its first clock
brings RECEIVING, each byte on SDI is appended, and at the deselection the request in the buffer is
taken, or answered as a failing frame, as it is when a byte is still in progress. SDI is sampled at
the rising edge, and eight bits spell a byte, most significant bit first. The clocks of another
selection within RECEIVING set PORT_PROTOCOL and leave the request as the first one clocked it in.
With a response held SELECT brings READOUT, which shifts out the next bits of the response, most
significant bit of each byte first, changed at the falling edge, in the layout of R196 with its check
byte, and then 0x00, until its deselection discards the response. Edges without SELECT, and the rest
of a selection cut by a reset up to its deselection, are ignored. The two flag commands read, clear
and enable by their masks. The status codes and the flags' bit positions are those of the tables (R193
to R196, R198 to R200). Which commands carry the parts of a selection, the field that keeps what SDO
carried, and SDO's level where R193 gives none, are the model's (log entries 5, 6 and 25). -/
def Obligations.PortAndFlagsFollowTheHost : Prop :=
  ([Status.ok, .okClamped, .badValue, .locked, .moving, .wrongState, .wrongMode, .notFound, .full,
      .kind, .empty, .queueFull, .causePresent, .brakeNotHeld, .noRelease, .unknownCommand,
      .frameError].map statusCode
    = [0x00, 0x01, 0x10, 0x11, 0x12, 0x13, 0x14, 0x15, 0x16, 0x17, 0x18, 0x19, 0x1A, 0x1B, 0x1C, 0x1E,
      0x1F]
    ∧ [Flag.supervision, .shortfall, .restrictionLost, .tableChanged, .link, .radio, .radioRxError,
        .txDone, .mailbox, .doorEvent, .brakeFault, .odometryFault, .markerMiss, .offProfile,
        .portProtocol].map Flag.bit = List.range 15
    ∧ ∀ (flags : BitVec 15) (f : Flag), hasFlag flags f = flags.getLsbD f.bit
        ∧ setBit flags f = flags ||| BitVec.ofNat 15 (2 ^ f.bit))
  ∧ (∀ (value : Byte) (n : Nat) (now : Micros) (s : State), s.resetHeld = false →
    let p := s.port
    let after (q : Port) : Host.Outcome State Fault Refusal := .next { s with port := q }
    let clock := exec .requestSelectionFirstClock s
    let byte := exec (.receivedByte (.sdi value)) s
    let select (level : Bool) := exec (.rawInputChange .select level now) s
    let ends := exec (.responseReadout n) s
    let last := value.getLsbD 0
    s.readyHigh = decide (p.state = .receiving)
      ∧ (p.state = .idle → p.ignoring = false →
        clock = after { p with
            state := .receiving, request := [], bits := [], closed := false, selected := true }
          ∧ (p.selected = true → byte = after { p with
            state := .receiving, request := [value], bits := [], closed := false, sdi := last }))
      ∧ (p.state = .idle → p.ignoring = true → clock = .next s ∧ byte = after { p with sdi := last })
      ∧ (p.state = .idle → select true = after { p with selected := true }
        ∧ select false = ends ∧ ends = after { p with selected := false, ignoring := false })
      ∧ (p.state = .receiving → clock = .next s ∧ select true = after { p with closed := true }
        ∧ (select false = match decodeRequest p.request p.bits.isEmpty with
            | .ok i => exec i s
            | .error _ => exec (.frameError p.request p.bits.isEmpty) s)
        ∧ ends = .next s ∧ exec .protocolBytesIgnored s
          = after { p with closed := true, flags := setBit p.flags .portProtocol }
        ∧ (p.selected = true → p.closed = true →
          byte = after { p with flags := setBit p.flags .portProtocol, sdi := last })
        ∧ (p.selected = true → p.closed = false → p.bits = [] →
          byte = after { p with request := p.request ++ [value], sdi := last }))
      ∧ (p.state = .responseReady → select true = clock
        ∧ select false = after { p with selected := false } ∧ byte = after { p with sdi := last })
      ∧ (p.state = .readout → clock = .next s ∧ select true = .next s
        ∧ select false = after { p with
            state := .idle, request := [], response := none, bits := [], selected := false })
      ∧ (p.selected = false → byte = after { p with sdi := last })
      ∧ (p.state ≠ .receiving → exec .protocolBytesIgnored s = .next s))
  ∧ (∀ (b : Byte) (level : Bool) (now : Micros) (s : State), s.resetHeld = false →
    let p := s.port
    let after (q : Port) : Host.Outcome State Fault Refusal := .next { s with port := q }
    let edge (level : Bool) := exec (.rawInputChange .sclk level now) s
    let spells (bits : List Bool) : Prop := ∀ k, k < 8 → b.getLsbD (7 - k) = bits.getD k false
    let begun (bits : List Bool) (level : Bool) := after { p with
      state := .receiving, request := [], bits := bits, closed := false, sclk := level }
    exec (.rawInputChange .sdi level now) s = after { p with sdi := level }
      ∧ edge p.sclk = .next s
      ∧ (p.selected = false ∨ (p.state = .idle ∧ p.ignoring = true) ∨ p.state = .responseReady →
        edge level = after { p with sclk := level })
      ∧ (p.state = .idle → p.ignoring = false → p.selected = true →
        (p.sclk = false → edge true = begun [p.sdi] true)
          ∧ (p.sclk = true → edge false = begun [] false))
      ∧ (p.state = .receiving → edge false = after { p with sclk := false })
      ∧ (p.state = .receiving → p.selected = true → p.sclk = false → p.closed = true →
        edge true = after { p with sclk := true, flags := setBit p.flags .portProtocol })
      ∧ (p.state = .receiving → p.selected = true → p.sclk = false → p.closed = false →
        (p.bits.length ≠ 7 → edge true = after { p with sclk := true, bits := p.bits ++ [p.sdi] })
          ∧ (p.bits.length = 7 → spells (p.bits ++ [p.sdi]) → edge true
            = after { p with sclk := true, request := p.request ++ [b], bits := [] }))
      ∧ (p.state = .readout → p.selected = true → p.sclk = false →
        (p.bits.length ≠ 7 → edge true = after { p with sclk := true, bits := p.bits ++ [p.sdo] })
          ∧ (p.bits.length = 7 → spells (p.bits ++ [p.sdo]) → edge true
            = after { p with sclk := true, shifted := p.shifted ++ [b], bits := [] })))
  ∧ (∀ (value : Byte) (n : Nat) (now : Micros) (r : Response) (s : State), s.resetHeld = false →
    s.port.response = some r →
    r.data.length < 256 → s.port.state = .responseReady ∨ s.port.state = .readout →
    let p := s.port
    let sent := if p.state = .readout then p.shifted else []
    ∃ check : Byte,
      let frame := [statusCode r.status, BitVec.ofNat 8 r.data.length] ++ r.data ++ [check]
      let out (n : Nat) := sent
        ++ ((frame ++ List.replicate (sent.length + n) 0).drop sent.length).take n
      let bit (k : Nat) : Bool := (frame.getD (k / 8) 0).getLsbD (7 - k % 8)
      let rest (n : Nat) : Bool := bit (8 * (sent.length + n) - p.sclk.toNat)
      let first := if p.state = .readout then p.sdo else bit 0
      (frame.map BitVec.toNat).sum % 256 = 0
        ∧ exec (.responseReadout n) s = .next { s with port := { p with
            state := .idle, request := [], response := none, bits := [], selected := false
            shifted := out n, sdo := if n = 0 then first else rest n } }
        ∧ (p.state = .responseReady → exec (.rawInputChange .select true now) s
          = .next { s with port := { p with
              state := .readout, selected := true, shifted := [], bits := [], sdo := bit 0 } })
        ∧ (p.state = .readout → p.selected = true →
          (p.sclk = true → exec (.rawInputChange .sclk false now) s
            = .next { s with port := { p with
                sclk := false, sdo := bit (8 * p.shifted.length + p.bits.length) } })
          ∧ (p.bits = [] → (p.sclk = false → p.sdo = bit (8 * p.shifted.length)) →
            exec (.receivedByte (.sdi value)) s = .next { s with port := { p with
              shifted := out 1, sdi := value.getLsbD 0, sdo := rest 1 } })))
  ∧ (∀ (mask : U16) (f : Flag) (s : State), s.Takes (.flagsReadClear mask) → ∃ t : State,
    exec (.flagsReadClear mask) s = .next (t.answers (.flagsReadClear mask) .ok
        (bytes16 (s.port.flags.zeroExtend 16)))
      ∧ t = { s with port := { s.port with flags := t.port.flags } }
      ∧ hasFlag t.port.flags f = (hasFlag s.port.flags f && !mask.getLsbD f.bit)
      ∧ t.attention = decide (∃ g : Fin 15, s.port.flags.getLsbD g = true
          ∧ mask.getLsbD g = false ∧ s.port.enables.getLsbD g = true))
  ∧ ∀ (mask : U16) (s : State), s.Takes (.flagsEnable mask) → exec (.flagsEnable mask) s = .next (
      ({ s with port := { s.port with enables := mask.extractLsb' 0 15 } }).answers
        (.flagsEnable mask) .ok (bytes16 (mask &&& 0x7FFF)))

/-- STATUS_READ answers the section it names as it stands, and BAD_VALUE above section 5; it changes
nothing but the port and the model's counter. The merged demand of a SAFE unit, which the manual does
not give, may be any byte (log entry 17). The items are coded by the codes of R204, and those that its
table does not name by their place in their rule's list or by the model's reading (log entry 20) (R40,
R114, R136, R153, R175, R192, R201, R204). -/
def Obligations.StatusReadShowsItsSection : Prop :=
  ((∀ n, u8 n = [BitVec.ofNat 8 n] ∧ u16 n = [BitVec.ofNat 8 (n / 256), BitVec.ofNat 8 n]
      ∧ u24 n = [BitVec.ofNat 8 (n / 65536), BitVec.ofNat 8 (n / 256), BitVec.ofNat 8 n])
    ∧ (∀ z : Int, -32768 ≤ z → z ≤ 32767 →
        s16 z = u16 (if z < 0 then (z + 65536).toNat else z.toNat))
    ∧ (∀ w : U16, bytes16 w = u16 w.toNat)
    ∧ (∀ b, Machine.bool b = [if b = true then 1 else 0])
    ∧ (∀ bs : List Bool, ∀ k, (maskOf bs).testBit k = bs.getD k false)
    ∧ [none, some Dir.up, some .down].map dirCode = [0, 1, 2]
    ∧ [SupState.normal, .warning, .intervention, .emergency].map supCode = [0, 1, 2, 3]
    ∧ [TargetSource.boundary, .speedRecord, .stopRecord, .lineEnd].map sourceCode = [1, 2, 3, 4]
    ∧ [UnitState.safe, .armed].map unitCode = [0, 1]
    ∧ [DoorState.locked, .unlocked, .opening, .opened, .closing, .locking, .held, .fault].map
        doorStateCode = [0, 1, 2, 3, 4, 5, 6, 7]
    ∧ [LinkMode.off, .config, .normal, .listen, .selftest].map modeCode = [0, 1, 2, 3, 4]
    ∧ [LinkStatus.ok, .lost].map linkCode = [0, 1]
    ∧ [BufState.free, .assembling, .held, .processing].map bufCode = [0, 1, 2, 3]
    ∧ [none, some RxError.lineError, some .symbolError, some .oversize, some .short, some .long,
        some .checkError, some .receiveOverrun, some .silence].map rxErrorCode
        = [0, 1, 2, 3, 4, 5, 6, 7, 8]
    ∧ [QueueOrigin.part, .vehicle].map queueOriginCode = [0, 1]
    ∧ [TxResult.sent, .discarded, .displaced, .aborted].map txResultCode = [0, 1, 2, 3]
    ∧ [ProfileState.empty, .loading, .valid].map profileStateCode = [0, 1, 2]
    ∧ [LockLevel.levelOpen, .profileLocked, .configLocked].map lockCode = [0, 1, 2]
    ∧ [Side.left, .right].map (fun x => (DoorEvent.override x).item) = [[0, 1, 0, 1], [0, 2, 0, 1]]
    ∧ [DoorId.d0, .d1, .d2, .d3].map (fun x => (DoorEvent.held x).item)
        = [[1, 0, 0, 0], [1, 1, 0, 0], [1, 2, 0, 0], [1, 3, 0, 0]]
    ∧ ∀ x, [DoorCause.forced, .openTime, .closeTime, .lockTime].map
          (fun e => (DoorEvent.fault x e).item)
        = [0, 1, 2, 3].map fun n => [2] ++ u8 (doorCode x) ++ u8 n ++ [0])
  ∧ ∀ (sect : Byte) (s : State),
    let i := Instr.statusRead sect
    let o := s.odo
    let p := s.sup
    let c := p.causes
    let b := s.brake
    let ds := s.doors
    let r := s.radio
    let target := match p.governing with
      | none => List.replicate 11 (0 : Byte)
      | some g => u8 (sourceCode g.source) ++ u24 g.point ++ u24 g.dist ++ u16 g.speed
          ++ u8 (g.slot.getD 0) ++ Machine.bool g.overrun
    let door (d : Door) : List Byte :=
      u8 (doorStateCode d.state)
        ++ u8 (maskOf [d.closed.level, d.locked.level, d.openEnd.level, d.obstruct.level,
          d.button.level])
        ++ u8 (maskOf [decide (d.state ≠ .locked ∧ d.state ≠ .locking), decide (d.state = .opening),
          decide (d.state = .closing)])
        ++ u8 d.reopen ++ Machine.bool d.reclose
    let brakes (merged : Byte) : List Byte :=
      u8 (unitCode b.unit) ++ u8 b.hostLevel ++ Machine.bool b.hostRelease ++ [merged]
        ++ u8 b.service ++ Machine.bool b.ramp.isSome
        ++ u8 (maskOf [b.loop, b.band, b.loopSense.level, b.bandSense.level, !b.emergIn.level])
        ++ u8 (if b.band = true then 0 else if b.bandSense.level = false then 1 else 2)
        ++ Machine.bool b.hold ++ Machine.bool b.overlap.isSome ++ u8 b.floor
        ++ u8 (maskOf [b.bandFault, b.loopFault])
    s.Takes i → (5 < sect.toNat → exec i s = .next (s.answers i .badValue []))
      ∧ (sect.toNat = 0 → exec i s = .next (s.answers i .ok (u24 o.position
          ++ Machine.bool o.positionValid ++ Machine.bool o.motion ++ u8 (dirCode o.measured)
          ++ u16 o.speed ++ u8 (dirCode o.selected) ++ u16 o.rollback ++ s16 o.lastCorrection
          ++ u8 (maskOf [o.pinionSensor, o.pinionSlip, o.rollbackLatch]))))
      ∧ (sect.toNat = 1 → exec i s = .next (s.answers i .ok (u8 (supCode p.state)
          ++ u16 (maskOf [c.overspeed, c.overrun, c.rollback, c.pinionSlip, c.pinionSensor,
            c.bandFault, c.loopFault, c.reset, c.doorOpenMoving, c.emergencyLine])
          ++ s16 p.excess ++ u8 p.demand.level ++ Machine.bool p.demand.loopOpen
          ++ Machine.bool p.demand.bandApplied ++ u16 p.permitted ++ u8 (dirCode p.evalDir)
          ++ target ++ Machine.bool p.shortfall)))
      ∧ (sect.toNat = 2 → b.unit = .armed →
          exec i s = .next (s.answers i .ok (brakes (BitVec.ofNat 8 b.merged))))
      ∧ (sect.toNat = 2 → b.unit = .safe → ∃ merged, exec i s = .next (
          ({ s with free := s.free + 1 }).answers i .ok (brakes merged)))
      ∧ (sect.toNat = 3 → exec i s = .next (s.answers i .ok (door ds.d0 ++ door ds.d1 ++ door ds.d2
          ++ door ds.d3 ++ Machine.bool ds.leftReleased ++ Machine.bool ds.rightReleased
          ++ Machine.bool ds.secure ++ ds.lastEvent.item)))
      ∧ (sect.toNat = 4 → exec i s = .next (s.answers i .ok (u8 (modeCode r.requested)
          ++ u8 (modeCode r.current) ++ u8 (linkCode r.link) ++ Machine.bool r.linkLost
          ++ u8 (rxErrorCode r.lastError) ++ u8 (bufCode r.buf0.state) ++ u8 (bufCode r.buf1.state)
          ++ Machine.bool r.tx.isSome ++ Machine.bool r.key ++ Machine.bool r.carrier)))
      ∧ (sect.toNat = 5 → exec i s = .next (s.answers i .ok (Machine.bool r.busy
          ++ Machine.bool r.waiting.isSome ++ u8 r.queue.length
          ++ (r.queue.flatMap fun e => u8 e.handle ++ [e.kind] ++ u8 e.priority
            ++ u8 (queueOriginCode e.origin) ++ Machine.bool e.started)
          ++ Machine.bool r.pendingAlarm.isSome ++ u8 r.mailbox.length
          ++ (match r.lastTx with
            | none => [0, 0, 0]
            | some x => [1] ++ u8 x.handle ++ u8 (txResultCode x.result))
          ++ u8 r.txSeq ++ u8 s.table.records.length ++ Machine.bool s.table.lossLatch
          ++ u8 (profileStateCode s.profile.state) ++ u8 (lockCode s.profile.lock)
          ++ bytes16 (s.port.flags.zeroExtend 16) ++ bytes16 (s.port.enables.zeroExtend 16))))

/-- SOFT_RESET is refused in motion; otherwise every block takes its reset values and keeps what its
reset rule keeps, and no side is RELEASED. POWER_ON_RESET gives the state of State.reset but for what
it reads from the raw inputs and CARRIER, for the model's own counters and waiting commands, and for a
selection in progress, whose rest is ignored (log entries 2 to 4 and 25). Both leave EMERGENCY with
the cause RESET, the loop open and the band de-energized at 100 % (R23, R73, R99, R115, R135, R154,
R175, R192, R194, R202, R203). The assertion of RESET is such a reset, and while it stands the
power-on values stand: a change of an input retakes them, a selection is ignored, CARRIER and the
lines of the host link keep their levels, and no other command changes anything; the release leaves
them (that the raw inputs are followed up to the release, and that every block stands still, are the
model's readings, log entries 30 and 32). -/
def Obligations.ResetsTakeTheirValues : Prop :=
  ∀ s : State,
    let clear : Causes := ⟨false, false, false, false, false, false, false, true, false, false⟩
    let supervisor (line secure : Bool) (period : Nat) : Supervisor :=
      ⟨.emergency, { clear with emergencyLine := line }, 0, ⟨100, true, true⟩, some period, line,
        secure, 0, none, none, false, none⟩
    let unit (b : Brake) (time : Nat) (secure : Bool) : Brake := { b with
      hostLevel := 100, hostRelease := false, supState := .emergency
      supDemand := ⟨100, true, true⟩, secure := secure, motion := false, speed := 0
      loop := false, band := false, service := 100, ramp := none, hold := false, overlap := none
      floor := 0
      bandTimer := if b.bandSense.level = true then none else some time
      loopTimer := if b.loopSense.level = true then some 100 else none
      bandFault := false, loopFault := false, lineHold := false }
    let radio (interval : Nat) : Radio := { State.reset.radio with
      carrier := s.radio.carrier
      reportTimer := if interval = 0 then none else some interval }
    let line (l : InputLine) : InputLine := ⟨l.raw, l.raw, none⟩
    let door (d : Door) : Door := { d with
      state := if d.closed.raw = true ∧ d.locked.raw = true then .locked else .held
      closed := line d.closed, locked := line d.locked, openEnd := line d.openEnd
      obstruct := line d.obstruct, button := line d.button
      reopen := 0, reclose := false, motionTimer := none, lockTimer := none }
    let ds : Doors := ⟨door s.doors.d0, door s.doors.d1, door s.doors.d2, door s.doors.d3,
      false, false, false, .held .d0⟩
    (s.Takes .softReset → s.odo.motion = true → exec .softReset s = .next (s.answers .softReset .moving []))
      ∧ (s.Takes .softReset → s.odo.motion = false → ∃ t : State, exec .softReset s = .next (t.answers .softReset .ok [])
        ∧ t = { s with
          port := { s.port with flags := 0 }
          odo := { s.odo with
            motion := false, standstillTimer := none, measured := none, speed := 0
            history := none, wheelTravel := 0, netCounts := 0, rollback := 0
            pinionSensor := false, pinionSlip := false, rollbackLatch := false }
          table := ⟨List.replicate 32 none, none, false, ⟨.issued, 0, .speed, .vehicle, 0, none⟩, 0⟩
          sup := supervisor (!s.brake.emergIn.level) t.doors.secure (s.param 23)
          brake := unit s.brake (s.param 27) t.doors.secure
          doors := t.doors
          radio := radio (s.param 32) }
        ∧ t.doors.leftReleased = false ∧ t.doors.rightReleased = false ∧ t.doors.motion = false
        ∧ t.doors.lastEvent = .held .d0
        ∧ ∀ id, t.doors.get id = (Door.close s.doorTimes (s.doors.get id)).1)
      ∧ exec .powerOnReset s = .next { State.reset with
          port := { State.reset.port with
            selected := s.port.selected, ignoring := s.port.selected, sclk := s.port.sclk
            sdi := s.port.sdi }
          odo := { State.reset.odo with
            pinA := line s.odo.pinA, pinB := line s.odo.pinB, wheel := line s.odo.wheel
            marker := line s.odo.marker, timebase := s.odo.timebase }
          doors := ds
          sup := supervisor (!s.brake.emergIn.raw) ds.secure 20
          brake := unit { s.brake with
            unit := .safe, emergIn := line s.brake.emergIn, loopSense := line s.brake.loopSense
            bandSense := line s.brake.bandSense } 800 ds.secure
          radio := radio 0
          resetHeld := s.resetHeld
          free := s.free
          pending := s.pending }
      ∧ (s.resetHeld = false → ∀ now,
        exec (.rawInputChange .reset true now) s = exec .powerOnReset { s with resetHeld := true }
          ∧ exec (.rawInputChange .reset false now) s = .next s)
      ∧ (s.resetHeld = true → ∀ i : Instr,
        let raw (l : InputLine) (level : Bool) : InputLine := { l with raw := level }
        let ported (p : Port) : Host.Outcome State Fault Refusal := .next { s with port := p }
        let ignored := ported { s.port with selected := false, ignoring := false }
        match i with
        | .powerOnReset => exec i s = .next s.powerOn
        | .rawInputChange input level _ => exec i s = exec .powerOnReset (
            match input with
            | .pinA => { s with odo := { s.odo with pinA := raw s.odo.pinA level } }
            | .pinB => { s with odo := { s.odo with pinB := raw s.odo.pinB level } }
            | .wheel => { s with odo := { s.odo with wheel := raw s.odo.wheel level } }
            | .marker => { s with odo := { s.odo with marker := raw s.odo.marker level } }
            | .emergIn => { s with brake := { s.brake with emergIn := raw s.brake.emergIn level } }
            | .loopSense => { s with brake := { s.brake with loopSense := raw s.brake.loopSense level } }
            | .bandSense => { s with brake := { s.brake with bandSense := raw s.brake.bandSense level } }
            | .door id line =>
              let d := s.doors.get id
              { s with doors := s.doors.put (match line with
                | .closed => { d with closed := raw d.closed level }
                | .locked => { d with locked := raw d.locked level }
                | .openEnd => { d with openEnd := raw d.openEnd level }
                | .obstruct => { d with obstruct := raw d.obstruct level }
                | .button => { d with button := raw d.button level }) id }
            | .select => { s with port := { s.port with selected := level } }
            | .sclk => { s with port := { s.port with sclk := level } }
            | .sdi => { s with port := { s.port with sdi := level } }
            | .reset => { s with resetHeld := level })
        | .requestSelectionFirstClock =>
          exec i s = ported { s.port with selected := true, ignoring := true }
        | .receivedByte (.sdi value) => exec i s = ported { s.port with sdi := value.getLsbD 0 }
        | .frameError _ _ => exec i s = ignored
        | .responseReadout _ => exec i s = ignored
        | .carrierChange level =>
          exec i s = .next { s with radio := { s.radio with carrier := level } }
        | _ => exec i s = if (encodeRequest i).isSome then ignored else .next s)
end

