-- ==== Sys2Proof/Laws/State.lean ====
section
/-! SUPPORT. The small lemmas of the state's updates: what each field is after each of them, true by
definition, so that no later proof unfolds a record update. -/

namespace Sys2Proof.Machine


/-! ### setFlag -/

@[simp] theorem State.setFlag_profile (f : Flag) (s : State) :
    (s.setFlag f).profile = s.profile := rfl
@[simp] theorem State.setFlag_odo (f : Flag) (s : State) :
    (s.setFlag f).odo = s.odo := rfl
@[simp] theorem State.setFlag_table (f : Flag) (s : State) :
    (s.setFlag f).table = s.table := rfl
@[simp] theorem State.setFlag_sup (f : Flag) (s : State) :
    (s.setFlag f).sup = s.sup := rfl
@[simp] theorem State.setFlag_brake (f : Flag) (s : State) :
    (s.setFlag f).brake = s.brake := rfl
@[simp] theorem State.setFlag_doors (f : Flag) (s : State) :
    (s.setFlag f).doors = s.doors := rfl
@[simp] theorem State.setFlag_radio (f : Flag) (s : State) :
    (s.setFlag f).radio = s.radio := rfl
@[simp] theorem State.setFlag_resetHeld (f : Flag) (s : State) :
    (s.setFlag f).resetHeld = s.resetHeld := rfl
@[simp] theorem State.setFlag_free (f : Flag) (s : State) :
    (s.setFlag f).free = s.free := rfl
@[simp] theorem State.setFlag_pending (f : Flag) (s : State) :
    (s.setFlag f).pending = s.pending := rfl
@[simp] theorem State.setFlag_port_state (f : Flag) (s : State) :
    (s.setFlag f).port.state = s.port.state := rfl
@[simp] theorem State.setFlag_port_request (f : Flag) (s : State) :
    (s.setFlag f).port.request = s.port.request := rfl
@[simp] theorem State.setFlag_port_response (f : Flag) (s : State) :
    (s.setFlag f).port.response = s.port.response := rfl
@[simp] theorem State.setFlag_port_shifted (f : Flag) (s : State) :
    (s.setFlag f).port.shifted = s.port.shifted := rfl
@[simp] theorem State.setFlag_port_bits (f : Flag) (s : State) :
    (s.setFlag f).port.bits = s.port.bits := rfl
@[simp] theorem State.setFlag_port_sclk (f : Flag) (s : State) :
    (s.setFlag f).port.sclk = s.port.sclk := rfl
@[simp] theorem State.setFlag_port_sdi (f : Flag) (s : State) :
    (s.setFlag f).port.sdi = s.port.sdi := rfl
@[simp] theorem State.setFlag_port_sdo (f : Flag) (s : State) :
    (s.setFlag f).port.sdo = s.port.sdo := rfl
@[simp] theorem State.setFlag_port_closed (f : Flag) (s : State) :
    (s.setFlag f).port.closed = s.port.closed := rfl
@[simp] theorem State.setFlag_port_ignoring (f : Flag) (s : State) :
    (s.setFlag f).port.ignoring = s.port.ignoring := rfl
@[simp] theorem State.setFlag_port_selected (f : Flag) (s : State) :
    (s.setFlag f).port.selected = s.port.selected := rfl
@[simp] theorem State.setFlag_port_flags (f : Flag) (s : State) :
    (s.setFlag f).port.flags = setBit s.port.flags f := rfl
@[simp] theorem State.setFlag_port_enables (f : Flag) (s : State) :
    (s.setFlag f).port.enables = s.port.enables := rfl

/-! ### respond -/

@[simp] theorem State.respond_profile (frame : List Byte) (r : Response) (s : State) :
    (s.respond frame r).profile = s.profile := rfl
@[simp] theorem State.respond_odo (frame : List Byte) (r : Response) (s : State) :
    (s.respond frame r).odo = s.odo := rfl
@[simp] theorem State.respond_table (frame : List Byte) (r : Response) (s : State) :
    (s.respond frame r).table = s.table := rfl
@[simp] theorem State.respond_sup (frame : List Byte) (r : Response) (s : State) :
    (s.respond frame r).sup = s.sup := rfl
@[simp] theorem State.respond_brake (frame : List Byte) (r : Response) (s : State) :
    (s.respond frame r).brake = s.brake := rfl
@[simp] theorem State.respond_doors (frame : List Byte) (r : Response) (s : State) :
    (s.respond frame r).doors = s.doors := rfl
@[simp] theorem State.respond_radio (frame : List Byte) (r : Response) (s : State) :
    (s.respond frame r).radio = s.radio := rfl
@[simp] theorem State.respond_resetHeld (frame : List Byte) (r : Response) (s : State) :
    (s.respond frame r).resetHeld = s.resetHeld := rfl
@[simp] theorem State.respond_free (frame : List Byte) (r : Response) (s : State) :
    (s.respond frame r).free = s.free := rfl
@[simp] theorem State.respond_pending (frame : List Byte) (r : Response) (s : State) :
    (s.respond frame r).pending = s.pending := rfl
@[simp] theorem State.respond_port_state (frame : List Byte) (r : Response) (s : State) :
    (s.respond frame r).port.state = .responseReady := rfl
@[simp] theorem State.respond_port_request (frame : List Byte) (r : Response) (s : State) :
    (s.respond frame r).port.request = frame := rfl
@[simp] theorem State.respond_port_response (frame : List Byte) (r : Response) (s : State) :
    (s.respond frame r).port.response = some r := rfl
@[simp] theorem State.respond_port_shifted (frame : List Byte) (r : Response) (s : State) :
    (s.respond frame r).port.shifted = s.port.shifted := rfl
@[simp] theorem State.respond_port_bits (frame : List Byte) (r : Response) (s : State) :
    (s.respond frame r).port.bits = [] := rfl
@[simp] theorem State.respond_port_sclk (frame : List Byte) (r : Response) (s : State) :
    (s.respond frame r).port.sclk = s.port.sclk := rfl
@[simp] theorem State.respond_port_sdi (frame : List Byte) (r : Response) (s : State) :
    (s.respond frame r).port.sdi = s.port.sdi := rfl
@[simp] theorem State.respond_port_sdo (frame : List Byte) (r : Response) (s : State) :
    (s.respond frame r).port.sdo = s.port.sdo := rfl
@[simp] theorem State.respond_port_closed (frame : List Byte) (r : Response) (s : State) :
    (s.respond frame r).port.closed = false := rfl
@[simp] theorem State.respond_port_ignoring (frame : List Byte) (r : Response) (s : State) :
    (s.respond frame r).port.ignoring = s.port.ignoring := rfl
@[simp] theorem State.respond_port_selected (frame : List Byte) (r : Response) (s : State) :
    (s.respond frame r).port.selected = false := rfl
@[simp] theorem State.respond_port_flags (frame : List Byte) (r : Response) (s : State) :
    (s.respond frame r).port.flags = s.port.flags := rfl
@[simp] theorem State.respond_port_enables (frame : List Byte) (r : Response) (s : State) :
    (s.respond frame r).port.enables = s.port.enables := rfl

/-! ### onPort -/

@[simp] theorem State.onPort_profile (f : Port → Port) (s : State) :
    (s.onPort f).profile = s.profile := rfl
@[simp] theorem State.onPort_odo (f : Port → Port) (s : State) :
    (s.onPort f).odo = s.odo := rfl
@[simp] theorem State.onPort_table (f : Port → Port) (s : State) :
    (s.onPort f).table = s.table := rfl
@[simp] theorem State.onPort_sup (f : Port → Port) (s : State) :
    (s.onPort f).sup = s.sup := rfl
@[simp] theorem State.onPort_brake (f : Port → Port) (s : State) :
    (s.onPort f).brake = s.brake := rfl
@[simp] theorem State.onPort_doors (f : Port → Port) (s : State) :
    (s.onPort f).doors = s.doors := rfl
@[simp] theorem State.onPort_radio (f : Port → Port) (s : State) :
    (s.onPort f).radio = s.radio := rfl
@[simp] theorem State.onPort_resetHeld (f : Port → Port) (s : State) :
    (s.onPort f).resetHeld = s.resetHeld := rfl
@[simp] theorem State.onPort_free (f : Port → Port) (s : State) :
    (s.onPort f).free = s.free := rfl
@[simp] theorem State.onPort_pending (f : Port → Port) (s : State) :
    (s.onPort f).pending = s.pending := rfl
@[simp] theorem State.onPort_port (f : Port → Port) (s : State) :
    (s.onPort f).port = f s.port := rfl

/-! ### onRadio -/

@[simp] theorem State.onRadio_profile (f : Radio → Radio) (s : State) :
    (s.onRadio f).profile = s.profile := rfl
@[simp] theorem State.onRadio_odo (f : Radio → Radio) (s : State) :
    (s.onRadio f).odo = s.odo := rfl
@[simp] theorem State.onRadio_table (f : Radio → Radio) (s : State) :
    (s.onRadio f).table = s.table := rfl
@[simp] theorem State.onRadio_sup (f : Radio → Radio) (s : State) :
    (s.onRadio f).sup = s.sup := rfl
@[simp] theorem State.onRadio_brake (f : Radio → Radio) (s : State) :
    (s.onRadio f).brake = s.brake := rfl
@[simp] theorem State.onRadio_doors (f : Radio → Radio) (s : State) :
    (s.onRadio f).doors = s.doors := rfl
@[simp] theorem State.onRadio_radio (f : Radio → Radio) (s : State) :
    (s.onRadio f).radio = f s.radio := rfl
@[simp] theorem State.onRadio_resetHeld (f : Radio → Radio) (s : State) :
    (s.onRadio f).resetHeld = s.resetHeld := rfl
@[simp] theorem State.onRadio_free (f : Radio → Radio) (s : State) :
    (s.onRadio f).free = s.free := rfl
@[simp] theorem State.onRadio_pending (f : Radio → Radio) (s : State) :
    (s.onRadio f).pending = s.pending := rfl
@[simp] theorem State.onRadio_port_state (f : Radio → Radio) (s : State) :
    (s.onRadio f).port.state = s.port.state := rfl
@[simp] theorem State.onRadio_port_request (f : Radio → Radio) (s : State) :
    (s.onRadio f).port.request = s.port.request := rfl
@[simp] theorem State.onRadio_port_response (f : Radio → Radio) (s : State) :
    (s.onRadio f).port.response = s.port.response := rfl
@[simp] theorem State.onRadio_port_shifted (f : Radio → Radio) (s : State) :
    (s.onRadio f).port.shifted = s.port.shifted := rfl
@[simp] theorem State.onRadio_port_bits (f : Radio → Radio) (s : State) :
    (s.onRadio f).port.bits = s.port.bits := rfl
@[simp] theorem State.onRadio_port_sclk (f : Radio → Radio) (s : State) :
    (s.onRadio f).port.sclk = s.port.sclk := rfl
@[simp] theorem State.onRadio_port_sdi (f : Radio → Radio) (s : State) :
    (s.onRadio f).port.sdi = s.port.sdi := rfl
@[simp] theorem State.onRadio_port_sdo (f : Radio → Radio) (s : State) :
    (s.onRadio f).port.sdo = s.port.sdo := rfl
@[simp] theorem State.onRadio_port_closed (f : Radio → Radio) (s : State) :
    (s.onRadio f).port.closed = s.port.closed := rfl
@[simp] theorem State.onRadio_port_ignoring (f : Radio → Radio) (s : State) :
    (s.onRadio f).port.ignoring = s.port.ignoring := rfl
@[simp] theorem State.onRadio_port_selected (f : Radio → Radio) (s : State) :
    (s.onRadio f).port.selected = s.port.selected := rfl
@[simp] theorem State.onRadio_port_flags (f : Radio → Radio) (s : State) :
    (s.onRadio f).port.flags = s.port.flags := rfl
@[simp] theorem State.onRadio_port_enables (f : Radio → Radio) (s : State) :
    (s.onRadio f).port.enables = s.port.enables := rfl

/-! ### onBrake -/

@[simp] theorem State.onBrake_profile (f : Nat → Brake → Brake) (s : State) :
    (s.onBrake f).profile = s.profile := rfl
@[simp] theorem State.onBrake_odo (f : Nat → Brake → Brake) (s : State) :
    (s.onBrake f).odo = s.odo := rfl
@[simp] theorem State.onBrake_table (f : Nat → Brake → Brake) (s : State) :
    (s.onBrake f).table = s.table := rfl
@[simp] theorem State.onBrake_sup (f : Nat → Brake → Brake) (s : State) :
    (s.onBrake f).sup = s.sup := rfl
@[simp] theorem State.onBrake_brake (f : Nat → Brake → Brake) (s : State) :
    (s.onBrake f).brake = f s.bandApplyTime s.brake := rfl
@[simp] theorem State.onBrake_doors (f : Nat → Brake → Brake) (s : State) :
    (s.onBrake f).doors = s.doors := rfl
@[simp] theorem State.onBrake_radio (f : Nat → Brake → Brake) (s : State) :
    (s.onBrake f).radio = s.radio := rfl
@[simp] theorem State.onBrake_resetHeld (f : Nat → Brake → Brake) (s : State) :
    (s.onBrake f).resetHeld = s.resetHeld := rfl
@[simp] theorem State.onBrake_free (f : Nat → Brake → Brake) (s : State) :
    (s.onBrake f).free = s.free := rfl
@[simp] theorem State.onBrake_pending (f : Nat → Brake → Brake) (s : State) :
    (s.onBrake f).pending = s.pending := rfl
@[simp] theorem State.onBrake_port_state (f : Nat → Brake → Brake) (s : State) :
    (s.onBrake f).port.state = s.port.state := rfl
@[simp] theorem State.onBrake_port_request (f : Nat → Brake → Brake) (s : State) :
    (s.onBrake f).port.request = s.port.request := rfl
@[simp] theorem State.onBrake_port_response (f : Nat → Brake → Brake) (s : State) :
    (s.onBrake f).port.response = s.port.response := rfl
@[simp] theorem State.onBrake_port_shifted (f : Nat → Brake → Brake) (s : State) :
    (s.onBrake f).port.shifted = s.port.shifted := rfl
@[simp] theorem State.onBrake_port_bits (f : Nat → Brake → Brake) (s : State) :
    (s.onBrake f).port.bits = s.port.bits := rfl
@[simp] theorem State.onBrake_port_sclk (f : Nat → Brake → Brake) (s : State) :
    (s.onBrake f).port.sclk = s.port.sclk := rfl
@[simp] theorem State.onBrake_port_sdi (f : Nat → Brake → Brake) (s : State) :
    (s.onBrake f).port.sdi = s.port.sdi := rfl
@[simp] theorem State.onBrake_port_sdo (f : Nat → Brake → Brake) (s : State) :
    (s.onBrake f).port.sdo = s.port.sdo := rfl
@[simp] theorem State.onBrake_port_closed (f : Nat → Brake → Brake) (s : State) :
    (s.onBrake f).port.closed = s.port.closed := rfl
@[simp] theorem State.onBrake_port_ignoring (f : Nat → Brake → Brake) (s : State) :
    (s.onBrake f).port.ignoring = s.port.ignoring := rfl
@[simp] theorem State.onBrake_port_selected (f : Nat → Brake → Brake) (s : State) :
    (s.onBrake f).port.selected = s.port.selected := rfl
@[simp] theorem State.onBrake_port_flags (f : Nat → Brake → Brake) (s : State) :
    (s.onBrake f).port.flags = s.port.flags := rfl
@[simp] theorem State.onBrake_port_enables (f : Nat → Brake → Brake) (s : State) :
    (s.onBrake f).port.enables = s.port.enables := rfl

/-! ### onOdo -/

@[simp] theorem State.onOdo_profile (f : Odometry → Odometry) (s : State) :
    (s.onOdo f).profile = s.profile := rfl
@[simp] theorem State.onOdo_odo (f : Odometry → Odometry) (s : State) :
    (s.onOdo f).odo = f s.odo := rfl
@[simp] theorem State.onOdo_table (f : Odometry → Odometry) (s : State) :
    (s.onOdo f).table = s.table := rfl
@[simp] theorem State.onOdo_sup (f : Odometry → Odometry) (s : State) :
    (s.onOdo f).sup = s.sup := rfl
@[simp] theorem State.onOdo_brake (f : Odometry → Odometry) (s : State) :
    (s.onOdo f).brake = s.brake := rfl
@[simp] theorem State.onOdo_doors (f : Odometry → Odometry) (s : State) :
    (s.onOdo f).doors = s.doors := rfl
@[simp] theorem State.onOdo_radio (f : Odometry → Odometry) (s : State) :
    (s.onOdo f).radio = s.radio := rfl
@[simp] theorem State.onOdo_resetHeld (f : Odometry → Odometry) (s : State) :
    (s.onOdo f).resetHeld = s.resetHeld := rfl
@[simp] theorem State.onOdo_free (f : Odometry → Odometry) (s : State) :
    (s.onOdo f).free = s.free := rfl
@[simp] theorem State.onOdo_pending (f : Odometry → Odometry) (s : State) :
    (s.onOdo f).pending = s.pending := rfl
@[simp] theorem State.onOdo_port_state (f : Odometry → Odometry) (s : State) :
    (s.onOdo f).port.state = s.port.state := rfl
@[simp] theorem State.onOdo_port_request (f : Odometry → Odometry) (s : State) :
    (s.onOdo f).port.request = s.port.request := rfl
@[simp] theorem State.onOdo_port_response (f : Odometry → Odometry) (s : State) :
    (s.onOdo f).port.response = s.port.response := rfl
@[simp] theorem State.onOdo_port_shifted (f : Odometry → Odometry) (s : State) :
    (s.onOdo f).port.shifted = s.port.shifted := rfl
@[simp] theorem State.onOdo_port_bits (f : Odometry → Odometry) (s : State) :
    (s.onOdo f).port.bits = s.port.bits := rfl
@[simp] theorem State.onOdo_port_sclk (f : Odometry → Odometry) (s : State) :
    (s.onOdo f).port.sclk = s.port.sclk := rfl
@[simp] theorem State.onOdo_port_sdi (f : Odometry → Odometry) (s : State) :
    (s.onOdo f).port.sdi = s.port.sdi := rfl
@[simp] theorem State.onOdo_port_sdo (f : Odometry → Odometry) (s : State) :
    (s.onOdo f).port.sdo = s.port.sdo := rfl
@[simp] theorem State.onOdo_port_closed (f : Odometry → Odometry) (s : State) :
    (s.onOdo f).port.closed = s.port.closed := rfl
@[simp] theorem State.onOdo_port_ignoring (f : Odometry → Odometry) (s : State) :
    (s.onOdo f).port.ignoring = s.port.ignoring := rfl
@[simp] theorem State.onOdo_port_selected (f : Odometry → Odometry) (s : State) :
    (s.onOdo f).port.selected = s.port.selected := rfl
@[simp] theorem State.onOdo_port_flags (f : Odometry → Odometry) (s : State) :
    (s.onOdo f).port.flags = s.port.flags := rfl
@[simp] theorem State.onOdo_port_enables (f : Odometry → Odometry) (s : State) :
    (s.onOdo f).port.enables = s.port.enables := rfl

/-! ### withPending -/

@[simp] theorem State.withPending_profile (cs : List Instr) (s : State) :
    (s.withPending cs).profile = s.profile := rfl
@[simp] theorem State.withPending_odo (cs : List Instr) (s : State) :
    (s.withPending cs).odo = s.odo := rfl
@[simp] theorem State.withPending_table (cs : List Instr) (s : State) :
    (s.withPending cs).table = s.table := rfl
@[simp] theorem State.withPending_sup (cs : List Instr) (s : State) :
    (s.withPending cs).sup = s.sup := rfl
@[simp] theorem State.withPending_brake (cs : List Instr) (s : State) :
    (s.withPending cs).brake = s.brake := rfl
@[simp] theorem State.withPending_doors (cs : List Instr) (s : State) :
    (s.withPending cs).doors = s.doors := rfl
@[simp] theorem State.withPending_radio (cs : List Instr) (s : State) :
    (s.withPending cs).radio = s.radio := rfl
@[simp] theorem State.withPending_resetHeld (cs : List Instr) (s : State) :
    (s.withPending cs).resetHeld = s.resetHeld := rfl
@[simp] theorem State.withPending_free (cs : List Instr) (s : State) :
    (s.withPending cs).free = s.free := rfl
@[simp] theorem State.withPending_pending (cs : List Instr) (s : State) :
    (s.withPending cs).pending = cs := rfl
@[simp] theorem State.withPending_port_state (cs : List Instr) (s : State) :
    (s.withPending cs).port.state = s.port.state := rfl
@[simp] theorem State.withPending_port_request (cs : List Instr) (s : State) :
    (s.withPending cs).port.request = s.port.request := rfl
@[simp] theorem State.withPending_port_response (cs : List Instr) (s : State) :
    (s.withPending cs).port.response = s.port.response := rfl
@[simp] theorem State.withPending_port_shifted (cs : List Instr) (s : State) :
    (s.withPending cs).port.shifted = s.port.shifted := rfl
@[simp] theorem State.withPending_port_bits (cs : List Instr) (s : State) :
    (s.withPending cs).port.bits = s.port.bits := rfl
@[simp] theorem State.withPending_port_sclk (cs : List Instr) (s : State) :
    (s.withPending cs).port.sclk = s.port.sclk := rfl
@[simp] theorem State.withPending_port_sdi (cs : List Instr) (s : State) :
    (s.withPending cs).port.sdi = s.port.sdi := rfl
@[simp] theorem State.withPending_port_sdo (cs : List Instr) (s : State) :
    (s.withPending cs).port.sdo = s.port.sdo := rfl
@[simp] theorem State.withPending_port_closed (cs : List Instr) (s : State) :
    (s.withPending cs).port.closed = s.port.closed := rfl
@[simp] theorem State.withPending_port_ignoring (cs : List Instr) (s : State) :
    (s.withPending cs).port.ignoring = s.port.ignoring := rfl
@[simp] theorem State.withPending_port_selected (cs : List Instr) (s : State) :
    (s.withPending cs).port.selected = s.port.selected := rfl
@[simp] theorem State.withPending_port_flags (cs : List Instr) (s : State) :
    (s.withPending cs).port.flags = s.port.flags := rfl
@[simp] theorem State.withPending_port_enables (cs : List Instr) (s : State) :
    (s.withPending cs).port.enables = s.port.enables := rfl

/-! ### Readings that an update leaves alone -/

@[simp] theorem State.param_setFlag (f : Flag) (i : Nat) (s : State) :
    (s.setFlag f).param i = s.param i := rfl
@[simp] theorem State.param_onRadio (f : Radio → Radio) (i : Nat) (s : State) :
    (s.onRadio f).param i = s.param i := rfl
@[simp] theorem State.param_onPort (f : Port → Port) (i : Nat) (s : State) :
    (s.onPort f).param i = s.param i := rfl
@[simp] theorem State.param_onBrake (f : Nat → Brake → Brake) (i : Nat) (s : State) :
    (s.onBrake f).param i = s.param i := rfl
@[simp] theorem State.param_onOdo (f : Odometry → Odometry) (i : Nat) (s : State) :
    (s.onOdo f).param i = s.param i := rfl

/-- Setting a flag under a condition, as one record update. -/
theorem State.setFlagIf_eq (c : Bool) (f : Flag) (s : State) :
    s.setFlagIf c f =
      { s with port := { s.port with flags := if c then setBit s.port.flags f else s.port.flags } } := by
  cases c <;> rfl

/-! ### The host link -/

@[simp] theorem Port.select_flags (p : Port) : p.select.flags = p.flags := by
  unfold Port.select; split <;> rfl
@[simp] theorem Port.select_enables (p : Port) : p.select.enables = p.enables := by
  unfold Port.select; split <;> rfl
@[simp] theorem Port.select_response (p : Port) : p.select.response = p.response := by
  unfold Port.select; split <;> rfl
@[simp] theorem Port.select_ignoring (p : Port) : p.select.ignoring = p.ignoring := by
  unfold Port.select; split <;> rfl
@[simp] theorem Port.select_sclk (p : Port) : p.select.sclk = p.sclk := by
  unfold Port.select; split <;> rfl
@[simp] theorem Port.select_sdi (p : Port) : p.select.sdi = p.sdi := by
  unfold Port.select; split <;> rfl
@[simp] theorem Port.deselect_flags (p : Port) : p.deselect.flags = p.flags := by
  unfold Port.deselect Port.endIgnored; split <;> rfl
@[simp] theorem Port.deselect_enables (p : Port) : p.deselect.enables = p.enables := by
  unfold Port.deselect Port.endIgnored; split <;> rfl
@[simp] theorem Port.deselect_sclk (p : Port) : p.deselect.sclk = p.sclk := by
  unfold Port.deselect Port.endIgnored; split <;> rfl
@[simp] theorem Port.deselect_sdi (p : Port) : p.deselect.sdi = p.sdi := by
  unfold Port.deselect Port.endIgnored; split <;> rfl
@[simp] theorem Port.deselect_sdo (p : Port) : p.deselect.sdo = p.sdo := by
  unfold Port.deselect Port.endIgnored; split <;> rfl
@[simp] theorem Port.firstClock_flags (p : Port) : p.firstClock.flags = p.flags := by
  unfold Port.firstClock Port.beginRequest; (repeat' split) <;> simp
@[simp] theorem Port.firstClock_enables (p : Port) : p.firstClock.enables = p.enables := by
  unfold Port.firstClock Port.beginRequest; (repeat' split) <;> simp
@[simp] theorem Port.firstClock_response (p : Port) : p.firstClock.response = p.response := by
  unfold Port.firstClock Port.beginRequest; (repeat' split) <;> simp
@[simp] theorem Port.firstClock_sclk (p : Port) : p.firstClock.sclk = p.sclk := by
  unfold Port.firstClock Port.beginRequest; (repeat' split) <;> simp
@[simp] theorem Port.firstClock_sdi (p : Port) : p.firstClock.sdi = p.sdi := by
  unfold Port.firstClock Port.beginRequest; (repeat' split) <;> simp
@[simp] theorem Port.shiftOut_flags (n : Nat) (p : Port) : (p.shiftOut n).flags = p.flags := by
  unfold Port.shiftOut; (repeat' split) <;> rfl
@[simp] theorem Port.shiftOut_enables (n : Nat) (p : Port) : (p.shiftOut n).enables = p.enables := by
  unfold Port.shiftOut; (repeat' split) <;> rfl
@[simp] theorem Port.shiftOut_state (n : Nat) (p : Port) : (p.shiftOut n).state = p.state := by
  unfold Port.shiftOut; (repeat' split) <;> rfl
@[simp] theorem Port.shiftOut_request (n : Nat) (p : Port) : (p.shiftOut n).request = p.request := by
  unfold Port.shiftOut; (repeat' split) <;> rfl
@[simp] theorem Port.shiftOut_closed (n : Nat) (p : Port) : (p.shiftOut n).closed = p.closed := by
  unfold Port.shiftOut; (repeat' split) <;> rfl
@[simp] theorem Port.shiftOut_response (n : Nat) (p : Port) : (p.shiftOut n).response = p.response := by
  unfold Port.shiftOut; (repeat' split) <;> rfl
@[simp] theorem Port.shiftOut_selected (n : Nat) (p : Port) : (p.shiftOut n).selected = p.selected := by
  unfold Port.shiftOut; (repeat' split) <;> rfl
@[simp] theorem Port.shiftOut_ignoring (n : Nat) (p : Port) : (p.shiftOut n).ignoring = p.ignoring := by
  unfold Port.shiftOut; (repeat' split) <;> rfl
@[simp] theorem Port.shiftOut_sclk (n : Nat) (p : Port) : (p.shiftOut n).sclk = p.sclk := by
  unfold Port.shiftOut; (repeat' split) <;> rfl
@[simp] theorem Port.shiftOut_sdi (n : Nat) (p : Port) : (p.shiftOut n).sdi = p.sdi := by
  unfold Port.shiftOut; (repeat' split) <;> rfl
@[simp] theorem Port.endSelection_flags (n : Nat) (p : Port) : (p.endSelection n).flags = p.flags := by
  unfold Port.endSelection; split <;> simp
@[simp] theorem Port.endSelection_enables (n : Nat) (p : Port) : (p.endSelection n).enables = p.enables := by
  unfold Port.endSelection; split <;> simp
@[simp] theorem Port.endSelection_sclk (n : Nat) (p : Port) : (p.endSelection n).sclk = p.sclk := by
  unfold Port.endSelection; split <;> simp
@[simp] theorem Port.endSelection_sdi (n : Nat) (p : Port) : (p.endSelection n).sdi = p.sdi := by
  unfold Port.endSelection; split <;> simp
@[simp] theorem Port.takeBit_state (p : Port) : p.takeBit.state = p.state := by
  unfold Port.takeBit; dsimp only; split <;> rfl
@[simp] theorem Port.takeBit_closed (p : Port) : p.takeBit.closed = p.closed := by
  unfold Port.takeBit; dsimp only; split <;> rfl
@[simp] theorem Port.takeBit_response (p : Port) : p.takeBit.response = p.response := by
  unfold Port.takeBit; dsimp only; split <;> rfl
@[simp] theorem Port.takeBit_shifted (p : Port) : p.takeBit.shifted = p.shifted := by
  unfold Port.takeBit; dsimp only; split <;> rfl
@[simp] theorem Port.takeBit_selected (p : Port) : p.takeBit.selected = p.selected := by
  unfold Port.takeBit; dsimp only; split <;> rfl
@[simp] theorem Port.takeBit_ignoring (p : Port) : p.takeBit.ignoring = p.ignoring := by
  unfold Port.takeBit; dsimp only; split <;> rfl
@[simp] theorem Port.takeBit_sclk (p : Port) : p.takeBit.sclk = p.sclk := by
  unfold Port.takeBit; dsimp only; split <;> rfl
@[simp] theorem Port.takeBit_sdi (p : Port) : p.takeBit.sdi = p.sdi := by
  unfold Port.takeBit; dsimp only; split <;> rfl
@[simp] theorem Port.takeBit_sdo (p : Port) : p.takeBit.sdo = p.sdo := by
  unfold Port.takeBit; dsimp only; split <;> rfl
@[simp] theorem Port.takeBit_flags (p : Port) : p.takeBit.flags = p.flags := by
  unfold Port.takeBit; dsimp only; split <;> rfl
@[simp] theorem Port.takeBit_enables (p : Port) : p.takeBit.enables = p.enables := by
  unfold Port.takeBit; dsimp only; split <;> rfl
@[simp] theorem Port.giveBit_state (p : Port) : p.giveBit.state = p.state := by
  unfold Port.giveBit; dsimp only; split <;> rfl
@[simp] theorem Port.giveBit_request (p : Port) : p.giveBit.request = p.request := by
  unfold Port.giveBit; dsimp only; split <;> rfl
@[simp] theorem Port.giveBit_closed (p : Port) : p.giveBit.closed = p.closed := by
  unfold Port.giveBit; dsimp only; split <;> rfl
@[simp] theorem Port.giveBit_response (p : Port) : p.giveBit.response = p.response := by
  unfold Port.giveBit; dsimp only; split <;> rfl
@[simp] theorem Port.giveBit_selected (p : Port) : p.giveBit.selected = p.selected := by
  unfold Port.giveBit; dsimp only; split <;> rfl
@[simp] theorem Port.giveBit_ignoring (p : Port) : p.giveBit.ignoring = p.ignoring := by
  unfold Port.giveBit; dsimp only; split <;> rfl
@[simp] theorem Port.giveBit_sclk (p : Port) : p.giveBit.sclk = p.sclk := by
  unfold Port.giveBit; dsimp only; split <;> rfl
@[simp] theorem Port.giveBit_sdi (p : Port) : p.giveBit.sdi = p.sdi := by
  unfold Port.giveBit; dsimp only; split <;> rfl
@[simp] theorem Port.giveBit_sdo (p : Port) : p.giveBit.sdo = p.sdo := by
  unfold Port.giveBit; dsimp only; split <;> rfl
@[simp] theorem Port.giveBit_flags (p : Port) : p.giveBit.flags = p.flags := by
  unfold Port.giveBit; dsimp only; split <;> rfl
@[simp] theorem Port.giveBit_enables (p : Port) : p.giveBit.enables = p.enables := by
  unfold Port.giveBit; dsimp only; split <;> rfl
@[simp] theorem Port.sample_response (p : Port) : p.sample.response = p.response := by
  unfold Port.sample Port.beginRequest; (repeat' split) <;> simp
@[simp] theorem Port.sample_ignoring (p : Port) : p.sample.ignoring = p.ignoring := by
  unfold Port.sample Port.beginRequest; (repeat' split) <;> simp
@[simp] theorem Port.sample_sclk (p : Port) : p.sample.sclk = p.sclk := by
  unfold Port.sample Port.beginRequest; (repeat' split) <;> simp
@[simp] theorem Port.sample_sdi (p : Port) : p.sample.sdi = p.sdi := by
  unfold Port.sample Port.beginRequest; (repeat' split) <;> simp
@[simp] theorem Port.sample_sdo (p : Port) : p.sample.sdo = p.sdo := by
  unfold Port.sample Port.beginRequest; (repeat' split) <;> simp
@[simp] theorem Port.sample_enables (p : Port) : p.sample.enables = p.enables := by
  unfold Port.sample Port.beginRequest; (repeat' split) <;> simp
@[simp] theorem Port.change_response (p : Port) : p.change.response = p.response := by
  unfold Port.change Port.beginRequest; (repeat' split) <;> rfl
@[simp] theorem Port.change_shifted (p : Port) : p.change.shifted = p.shifted := by
  unfold Port.change Port.beginRequest; (repeat' split) <;> rfl
@[simp] theorem Port.change_ignoring (p : Port) : p.change.ignoring = p.ignoring := by
  unfold Port.change Port.beginRequest; (repeat' split) <;> rfl
@[simp] theorem Port.change_sclk (p : Port) : p.change.sclk = p.sclk := by
  unfold Port.change Port.beginRequest; (repeat' split) <;> rfl
@[simp] theorem Port.change_sdi (p : Port) : p.change.sdi = p.sdi := by
  unfold Port.change Port.beginRequest; (repeat' split) <;> rfl
@[simp] theorem Port.change_flags (p : Port) : p.change.flags = p.flags := by
  unfold Port.change Port.beginRequest; (repeat' split) <;> rfl
@[simp] theorem Port.change_enables (p : Port) : p.change.enables = p.enables := by
  unfold Port.change Port.beginRequest; (repeat' split) <;> rfl
@[simp] theorem Port.clock_response (level : Bool) (p : Port) : (p.clock level).response = p.response := by
  unfold Port.clock; (repeat' split) <;> simp
@[simp] theorem Port.clock_ignoring (level : Bool) (p : Port) : (p.clock level).ignoring = p.ignoring := by
  unfold Port.clock; (repeat' split) <;> simp
@[simp] theorem Port.clock_sdi (level : Bool) (p : Port) : (p.clock level).sdi = p.sdi := by
  unfold Port.clock; (repeat' split) <;> simp
@[simp] theorem Port.clock_enables (level : Bool) (p : Port) : (p.clock level).enables = p.enables := by
  unfold Port.clock; (repeat' split) <;> simp
@[simp] theorem Port.clock_sclk (level : Bool) (p : Port) : (p.clock level).sclk = level := by
  unfold Port.clock; (repeat' split) <;> simp_all
@[simp] theorem Port.cycle_sclk (bit : Bool) (p : Port) : (p.cycle bit).sclk = p.sclk := by
  simp [Port.cycle]
@[simp] theorem Port.cycle_sdi (bit : Bool) (p : Port) : (p.cycle bit).sdi = bit := by
  simp [Port.cycle]
@[simp] theorem Port.cycle_response (bit : Bool) (p : Port) : (p.cycle bit).response = p.response := by
  simp [Port.cycle]
@[simp] theorem Port.cycle_enables (bit : Bool) (p : Port) : (p.cycle bit).enables = p.enables := by
  simp [Port.cycle]
@[simp] theorem Port.takeByte_sclk (v : Byte) (p : Port) : (p.takeByte v).sclk = p.sclk := by
  simp [Port.takeByte, bitsMsbFirst]
@[simp] theorem Port.takeByte_sdi (v : Byte) (p : Port) : (p.takeByte v).sdi = v.getLsbD 0 := by
  simp [Port.takeByte, bitsMsbFirst]
@[simp] theorem Port.takeByte_response (v : Byte) (p : Port) : (p.takeByte v).response = p.response := by
  simp [Port.takeByte, bitsMsbFirst]
@[simp] theorem Port.takeByte_enables (v : Byte) (p : Port) : (p.takeByte v).enables = p.enables := by
  simp [Port.takeByte, bitsMsbFirst]

/-- The byte that a byte's own bits spell, most significant first, is that byte. -/
theorem byteOfBits_bitsMsbFirst (b : Byte) : byteOfBits (bitsMsbFirst b) = b := by
  revert b; decide +kernel

/-- A bit sampled on SDI before the eighth waits in the byte in progress. -/
theorem Port.takeBit_waits {p : Port} (h : p.bits.length < 7) :
    p.takeBit = { p with bits := p.bits ++ [p.sdi] } := by
  simp [Port.takeBit, Nat.ne_of_lt h]

/-- The eighth bit on SDI completes the byte, most significant bit first. -/
theorem Port.takeBit_completes {p : Port} (h : p.bits.length = 7) :
    p.takeBit = { p with request := p.request ++ [byteOfBits (p.bits ++ [p.sdi])], bits := [] } := by
  simp [Port.takeBit, h]

/-- A bit sampled on SDO before the eighth waits in the byte in progress. -/
theorem Port.giveBit_waits {p : Port} (h : p.bits.length < 7) :
    p.giveBit = { p with bits := p.bits ++ [p.sdo] } := by
  simp [Port.giveBit, Nat.ne_of_lt h]

/-- The eighth bit on SDO completes the byte, most significant bit first. -/
theorem Port.giveBit_completes {p : Port} (h : p.bits.length = 7) :
    p.giveBit = { p with shifted := p.shifted ++ [byteOfBits (p.bits ++ [p.sdo])], bits := [] } := by
  simp [Port.giveBit, h]

/-- What a level on SCLK can do: nothing where SCLK has it, a rising edge, or a falling edge. -/
theorem Port.clock_cases (level : Bool) (p : Port) :
    (level = p.sclk ∧ p.clock level = p)
      ∨ (p.sclk = false ∧ level = true ∧ p.clock level = { p with sclk := true }.sample)
      ∨ (p.sclk = true ∧ level = false ∧ p.clock level = { p with sclk := false }.change) := by
  cases level <;> cases h : p.sclk <;> simp [Port.clock, h]

/-- What a selection that takes no request leaves, by the state the port was in: READOUT's end is IDLE
with no response, an IDLE port is no longer selected, and a RECEIVING port is as it was. -/
theorem Port.endSelection_cases (n : Nat) (p : Port) :
    (p.state = .receiving ∧ p.endSelection n = p)
      ∨ (p.state = .idle ∧ p.endSelection n = p.endIgnored)
      ∨ ((p.state = .responseReady ∨ p.state = .readout) ∧ (p.endSelection n).state = .idle
        ∧ (p.endSelection n).response = none ∧ (p.endSelection n).request = []
        ∧ (p.endSelection n).bits = []
        ∧ (p.endSelection n).selected = false ∧ (p.endSelection n).closed = p.closed
        ∧ (p.endSelection n).ignoring = p.ignoring) := by
  obtain ⟨st, rq, cl, rs, sh, bi, se, ig, ck, di, do', fl, en⟩ := p
  by_cases hn : n = 0 <;> cases st <;> cases rs <;>
    simp [Port.endSelection, Port.select, Port.shiftOut, Port.deselect, hn]

/-! ### RESET -/

/-- With RESET released a command has its own outcome. -/
theorem State.unlessReset_released {s : State} (held : State) (r : Result) (h : s.resetHeld = false) :
    s.unlessReset held r = r := by simp [State.unlessReset, h]

/-- With RESET asserted a command acts on the wires that it carries. -/
theorem State.unlessReset_held {s : State} (held : State) (r : Result) (h : s.resetHeld = true) :
    s.unlessReset held r = .next held := by simp [State.unlessReset, h]

/-- Power-on values taken again are the same values. -/
@[simp] theorem State.powerOn_powerOn (s : State) : s.powerOn.powerOn = s.powerOn := rfl
@[simp] theorem State.powerOn_resetHeld (s : State) : s.powerOn.resetHeld = s.resetHeld := rfl
@[simp] theorem State.powerOn_free (s : State) : s.powerOn.free = s.free := rfl
@[simp] theorem State.powerOn_pending (s : State) : s.powerOn.pending = s.pending := rfl

/-- The selection of a frame that the part takes is the taking of it. -/
theorem takeSelection_taken {frame : List Byte} {whole : Bool} {s : State} (taken : Result)
    (hr : s.resetHeld = false) (h : s.port.Takes frame whole) :
    takeSelection frame whole s taken = taken := by
  simp only [takeSelection, State.unlessReset_released _ _ hr, if_pos h]

/-- What a host request can do: what taking it does, a change of the port alone, or, with RESET
asserted, the end of a selection that is ignored. -/
theorem hostRequest_cases (code : Byte) (params : List Byte) (s : State) (taken : Result) :
    (s.resetHeld = false ∧ s.port.Takes (requestFrame code params) true
        ∧ hostRequest code params s taken = taken)
      ∨ (s.resetHeld = false ∧ ¬s.port.Takes (requestFrame code params) true
        ∧ hostRequest code params s taken
          = .next (s.onPort (Port.endSelection (requestFrame code params).length)))
      ∨ (s.resetHeld = true ∧ hostRequest code params s taken = .next (s.onPort Port.endIgnored)) := by
  unfold hostRequest takeSelection
  cases h : s.resetHeld
  · rw [State.unlessReset_released _ _ h]
    split
    · exact .inl ⟨rfl, by assumption, rfl⟩
    · exact .inr (.inl ⟨rfl, by assumption, rfl⟩)
  · exact .inr (.inr ⟨rfl, State.unlessReset_held _ _ h⟩)

/-- The request that a deselection takes is the host request's own command. -/
theorem State.takeRequest_eq_exec {i : Instr} {frame : List Byte} (h : encodeRequest i = some frame) (s : State) :
    s.takeRequest i = exec i s := by
  cases i <;> first | rfl | (simp [encodeRequest, requestParams] at h)

/-- What the deselection in RECEIVING can do: take the request that the buffer spells, or answer that it
spells none. -/
theorem State.takeBuffer_cases (s : State) :
    (∃ i, decodeRequest s.port.request s.port.bits.isEmpty = .ok i ∧ s.takeBuffer = s.takeRequest i)
      ∨ ((∃ e, decodeRequest s.port.request s.port.bits.isEmpty = .error e)
        ∧ s.takeBuffer = exec (.frameError s.port.request s.port.bits.isEmpty) s) := by
  cases h : decodeRequest s.port.request s.port.bits.isEmpty with
  | ok i => exact .inl ⟨i, rfl, by simp only [State.takeBuffer, h]⟩
  | error e => exact .inr ⟨⟨e, rfl⟩, by simp only [State.takeBuffer, h, exec]⟩

/-! ### Door access -/

@[simp] theorem Doors.get_put_same (ds : Doors) (d : Door) (i : DoorId) : (ds.put d i).get i = d := by
  cases i <;> rfl

@[simp] theorem Doors.get_put_other (ds : Doors) (d : Door) {i j : DoorId} (h : i ≠ j) :
    (ds.put d i).get j = ds.get j := by
  cases i <;> cases j <;> first | rfl | exact absurd rfl h

@[simp] theorem Doors.put_leftReleased (ds : Doors) (d : Door) (i : DoorId) :
    (ds.put d i).leftReleased = ds.leftReleased := by cases i <;> rfl
@[simp] theorem Doors.put_rightReleased (ds : Doors) (d : Door) (i : DoorId) :
    (ds.put d i).rightReleased = ds.rightReleased := by cases i <;> rfl
@[simp] theorem Doors.put_motion (ds : Doors) (d : Door) (i : DoorId) :
    (ds.put d i).motion = ds.motion := by cases i <;> rfl
@[simp] theorem Doors.put_lastEvent (ds : Doors) (d : Door) (i : DoorId) :
    (ds.put d i).lastEvent = ds.lastEvent := by cases i <;> rfl
@[simp] theorem Doors.put_released (ds : Doors) (d : Door) (i : DoorId) (side : Side) :
    (ds.put d i).released side = ds.released side := by cases i <;> cases side <;> rfl

/-! ### Frame buffers -/

@[simp] theorem Radio.buf_setBuf_same (r : Radio) (b : FrameBuffer) (i : BufId) :
    (r.setBuf b i).buf i = b := by cases i <;> rfl
@[simp] theorem Radio.buf_setBuf_other (r : Radio) (b : FrameBuffer) (i : BufId) :
    (r.setBuf b i).buf i.other = r.buf i.other := by cases i <;> rfl
@[simp] theorem Radio.setBuf_assembler (r : Radio) (b : FrameBuffer) (i : BufId) :
    (r.setBuf b i).assembler = r.assembler := by cases i <;> rfl
@[simp] theorem Radio.setBuf_busy (r : Radio) (b : FrameBuffer) (i : BufId) :
    (r.setBuf b i).busy = r.busy := by cases i <;> rfl
@[simp] theorem Radio.setBuf_current (r : Radio) (b : FrameBuffer) (i : BufId) :
    (r.setBuf b i).current = r.current := by cases i <;> rfl
@[simp] theorem Radio.setBuf_queue (r : Radio) (b : FrameBuffer) (i : BufId) :
    (r.setBuf b i).queue = r.queue := by cases i <;> rfl
@[simp] theorem Radio.setBuf_tx (r : Radio) (b : FrameBuffer) (i : BufId) :
    (r.setBuf b i).tx = r.tx := by cases i <;> rfl

end Sys2Proof.Machine
end

