-- ==== Sys2Proof/Laws/Reach.lean ====
section
/-! SUPPORT. What each shared operation can reach: one lemma per operation says which blocks it may change,
so that every other field is known to be as it was without unfolding it. A reach is a relation of
states that is reflexive and transitive; the wider ones contain the narrower ones. -/

namespace Sys2Proof.Machine

/-- Only the radio and the condition flags differ. -/
def ReachRadio (s t : State) : Prop :=
  t = { s with radio := t.radio, port := { s.port with flags := t.port.flags } }

/-- Only the supervisor, the brake output unit, the radio and the condition flags differ. -/
def ReachSupervision (s t : State) : Prop :=
  t = { s with
    sup := t.sup, brake := t.brake, radio := t.radio, port := { s.port with flags := t.port.flags } }

/-- As for the supervision, and the restriction table may differ. -/
def ReachTable (s t : State) : Prop :=
  t = { s with
    table := t.table, sup := t.sup, brake := t.brake, radio := t.radio
    port := { s.port with flags := t.port.flags } }

/-- As for the table, and the free-value counter may have advanced: what a radio event can reach. -/
def ReachMessages (s t : State) : Prop :=
  t = { s with
    table := t.table, sup := t.sup, brake := t.brake, radio := t.radio, free := t.free
    port := { s.port with flags := t.port.flags } }

/-! ### Reflexive, transitive, nested -/

theorem ReachRadio.refl (s : State) : ReachRadio s s := rfl
theorem ReachSupervision.refl (s : State) : ReachSupervision s s := rfl
theorem ReachTable.refl (s : State) : ReachTable s s := rfl
theorem ReachMessages.refl (s : State) : ReachMessages s s := rfl

theorem ReachRadio.trans {s t u : State} (h : ReachRadio s t) (k : ReachRadio t u) :
    ReachRadio s u := by
  unfold ReachRadio at *; rw [h] at k; exact k
theorem ReachSupervision.trans {s t u : State} (h : ReachSupervision s t)
    (k : ReachSupervision t u) : ReachSupervision s u := by
  unfold ReachSupervision at *; rw [h] at k; exact k
theorem ReachTable.trans {s t u : State} (h : ReachTable s t) (k : ReachTable t u) :
    ReachTable s u := by
  unfold ReachTable at *; rw [h] at k; exact k
theorem ReachMessages.trans {s t u : State} (h : ReachMessages s t) (k : ReachMessages t u) :
    ReachMessages s u := by
  unfold ReachMessages at *; rw [h] at k; exact k

theorem ReachRadio.after {s t u : State} (k : ReachRadio t u) (h : ReachRadio s t) :
    ReachRadio s u := h.trans k
theorem ReachSupervision.after {s t u : State} (k : ReachSupervision t u) (h : ReachSupervision s t) :
    ReachSupervision s u := h.trans k
theorem ReachTable.after {s t u : State} (k : ReachTable t u) (h : ReachTable s t) :
    ReachTable s u := h.trans k
theorem ReachMessages.after {s t u : State} (k : ReachMessages t u) (h : ReachMessages s t) :
    ReachMessages s u := h.trans k

theorem ReachRadio.supervision {s t : State} (h : ReachRadio s t) : ReachSupervision s t := by
  unfold ReachRadio at h; unfold ReachSupervision; rw [h]
theorem ReachSupervision.table {s t : State} (h : ReachSupervision s t) : ReachTable s t := by
  unfold ReachSupervision at h; unfold ReachTable; rw [h]
theorem ReachTable.messages {s t : State} (h : ReachTable s t) : ReachMessages s t := by
  unfold ReachTable at h; unfold ReachMessages; rw [h]
theorem ReachRadio.messages {s t : State} (h : ReachRadio s t) : ReachMessages s t :=
  h.supervision.table.messages

/-! ### The queue and the transmitter -/

theorem setFlag_reach (f : Flag) (s : State) : ReachRadio s (s.setFlag f) := rfl
theorem setFlagIf_reach (c : Bool) (f : Flag) (s : State) : ReachRadio s (s.setFlagIf c f) := by
  cases c <;> rfl
theorem onRadio_reach (f : Radio → Radio) (s : State) : ReachRadio s (s.onRadio f) := rfl

theorem reportLeaving_reach (r : TxResult) (s : State) (e : QueueEntry) :
    ReachRadio s (s.reportLeaving r e) := by
  unfold State.reportLeaving; split <;> rfl

theorem foldl_reportLeaving_reach (r : TxResult) (es : List QueueEntry) (s : State) :
    ReachRadio s (es.foldl (State.reportLeaving r) s) := by
  induction es generalizing s with
  | nil => rfl
  | cons e es ih => exact (reportLeaving_reach r s e).trans (ih _)

theorem removeEntries_reach (test : QueueEntry → Bool) (r : TxResult) (s : State) :
    ReachRadio s (s.removeEntries test r) :=
  (onRadio_reach _ s).trans (foldl_reportLeaving_reach r _ _)

theorem removeFirst_reach (test : QueueEntry → Bool) (r : TxResult) (s : State) :
    ReachRadio s (s.removeFirst test r) := by
  unfold State.removeFirst; split
  · exact (onRadio_reach _ s).trans (reportLeaving_reach r _ _)
  · rfl

theorem removeNewest_reach (test : QueueEntry → Bool) (r : TxResult) (s : State) :
    ReachRadio s (s.removeNewest test r) := by
  unfold State.removeNewest; split
  · exact (onRadio_reach _ s).trans (reportLeaving_reach r _ _)
  · rfl

theorem startFrame_reach (s : State) : ReachRadio s s.startFrame := by
  unfold State.startFrame; split <;> rfl

theorem judgeStart_reach (s : State) : ReachRadio s s.judgeStart := by
  unfold State.judgeStart; split
  · rfl
  · exact startFrame_reach s

theorem handAlarm_reach (s : State) : ReachRadio s s.handAlarm := by
  unfold State.handAlarm
  split
  · rfl
  · split
    · exact (onRadio_reach _ s).trans (judgeStart_reach _)
    · split
      · exact ((removeNewest_reach _ _ s).trans (onRadio_reach _ _)).trans (judgeStart_reach _)
      · exact onRadio_reach _ s

/-! ### Evaluations -/

theorem onBrake_reach (f : Nat → Brake → Brake) (s : State) : ReachSupervision s (s.onBrake f) := rfl

theorem changeSupState_reach (new : SupState) (s : State) :
    ReachSupervision s (s.changeSupState new) := by
  unfold State.changeSupState
  dsimp only
  split
  · exact ReachSupervision.after (handAlarm_reach _).supervision rfl
  · rfl

theorem sup_reach (p : Supervisor) (s : State) : ReachSupervision s { s with sup := p } := rfl

theorem evaluate_reach (s : State) : ReachSupervision s s.evaluate := by
  have h : ReachSupervision s (({ s with sup := s.judge }).setFlagIf
      (s.judge.shortfall && !s.sup.shortfall) .shortfall) :=
    ReachSupervision.after (setFlagIf_reach _ _ _).supervision rfl
  have k : ReachSupervision s (if s.nextSupState s.judge = s.judge.state then
      ({ s with sup := s.judge }).setFlagIf (s.judge.shortfall && !s.sup.shortfall) .shortfall
      else (({ s with sup := s.judge }).setFlagIf
        (s.judge.shortfall && !s.sup.shortfall) .shortfall).changeSupState
          (s.nextSupState s.judge)) := by
    split
    · exact h
    · exact h.trans (changeSupState_reach _ _)
  exact k.trans (sup_reach _ _)

theorem evaluateIf_reach (c : Bool) (s : State) : ReachSupervision s (s.evaluateIf c) := by
  cases c
  · exact ReachSupervision.refl _
  · exact evaluate_reach s

theorem handCause_reach (f : Causes → Causes) (s : State) : ReachSupervision s (s.handCause f) :=
  ReachSupervision.after (evaluate_reach _) rfl

theorem handEmergIn_reach (b : Bool) (s : State) : ReachSupervision s (s.handEmergIn b) :=
  ReachSupervision.after (evaluate_reach _) rfl

theorem handSecure_reach (b : Bool) (s : State) : ReachSupervision s (s.handSecure b) :=
  ReachSupervision.after (evaluate_reach _) rfl

/-! ### The table engine -/

theorem issueRecord_reach (src : IssueSource) (o : Origin) (b : IssueBody) (s : State) :
    ReachTable s (s.issueRecord src o b).1 := by
  unfold State.issueRecord
  split
  · exact ReachTable.refl s
  · refine ReachTable.trans ?_ (evaluateIf_reach _ _).table
    refine ReachTable.trans ?_ (setFlagIf_reach _ _ _).supervision.table
    exact ReachTable.after (setFlagIf_reach _ _ _).supervision.table rfl

theorem revokeSlot_reach (slot : Nat) (s : State) : ReachTable s (s.revokeSlot slot) :=
  ReachTable.after (evaluate_reach _).table rfl

theorem minuteExpiry_reach (s : State) : ReachTable s s.minuteExpiry := by
  unfold State.minuteExpiry
  refine ReachTable.trans ?_ (evaluateIf_reach _ _).table
  exact ReachTable.after (setFlagIf_reach _ _ _).supervision.table rfl

theorem retireRecords_reach (dir : Dir) (s : State) : ReachTable s (s.retireRecords dir).1 := by
  unfold State.retireRecords; dsimp only; split <;> rfl

/-! ### Messages -/

theorem setLink_reach (l : LinkStatus) (s : State) : ReachSupervision s (s.setLink l) := by
  unfold State.setLink; split
  · exact ReachSupervision.refl s
  · exact ReachSupervision.after (evaluate_reach _) rfl

theorem linkHeard_reach (s : State) : ReachSupervision s s.linkHeard :=
  ReachSupervision.after (setLink_reach _ _) rfl

theorem deliver_reach (f : Frame) (s : State) : ReachRadio s (s.deliver f).1 := by
  unfold State.deliver; split <;> rfl

theorem processStation_reach (f : Frame) (s : State) : ReachTable s (s.processStation f).1 := by
  unfold State.processStation
  split
  · split
    · exact issueRecord_reach _ _ _ s
    · exact ReachTable.refl s
  · split
    · split
      · dsimp only [State.processRevoke]
        split
        · exact revokeSlot_reach _ s
        · exact ReachTable.refl s
      · exact ReachTable.refl s
    · split
      · exact ReachTable.refl s
      · split
        · exact ReachTable.refl s
        · split
          · exact (deliver_reach f s).supervision.table
          · exact ReachTable.refl s

theorem placeAnswer_reach (a : Answer) (s : State) : ReachRadio s (s.placeAnswer a) :=
  (onRadio_reach _ s).trans (judgeStart_reach _)

theorem processFrame_reach (f : Frame) (s : State) : ReachTable s (s.processFrame f).1 := by
  unfold State.processFrame
  dsimp only
  split
  · exact ReachTable.after (deliver_reach f _).supervision.table rfl
  · have h : ReachTable s
        ((s.onRadio fun r => { r with busy := true }).processStation f).1 :=
      ReachTable.after (processStation_reach f _) rfl
    split
    · split
      · split
        · exact h.trans (placeAnswer_reach _ _).supervision.table
        · exact h.trans rfl
      · exact h
    · exact h

theorem takeFrames_reach (n : Nat) (i : BufId) (s : State) : ReachTable s (s.takeFrames n i) := by
  induction n generalizing i s with
  | zero => exact ReachTable.refl s
  | succ n ih =>
    unfold State.takeFrames
    dsimp only
    have h : ReachTable s ((s.onRadio (Radio.moveBuf .processing i)).processFrame
        (frameOf ((s.onRadio (Radio.moveBuf .processing i)).radio.buf i).content)).1 :=
      ReachTable.after (processFrame_reach _ _) rfl
    split
    · split
      · exact (h.trans (onRadio_reach _ _).supervision.table).trans (ih _ _)
      · exact h.trans (onRadio_reach _ _).supervision.table
    · exact h

theorem finishProcessing_reach (s : State) : ReachTable s s.finishProcessing := by
  unfold State.finishProcessing
  cases s.radio.findBuf .processing with
  | none =>
    dsimp only
    split
    · exact takeFrames_reach _ _ _
    · rfl
  | some i =>
    dsimp only
    split
    · exact ReachTable.after (takeFrames_reach _ _ _) rfl
    · rfl

theorem handFrame_reach (i : BufId) (s : State) : ReachTable s (s.handFrame i) := by
  unfold State.handFrame; split
  · rfl
  · exact takeFrames_reach _ _ _

theorem placePending_reach (s : State) : ReachRadio s s.placePending := by
  unfold State.placePending; split
  · split <;> rfl
  · rfl

theorem placeWaitingAnswer_reach (s : State) : ReachTable s s.placeWaitingAnswer := by
  unfold State.placeWaitingAnswer; split
  · split
    · exact ReachTable.after (finishProcessing_reach _) rfl
    · rfl
  · rfl

theorem placeWaiting_reach (s : State) : ReachTable s s.placeWaiting :=
  (placePending_reach s).supervision.table.trans (placeWaitingAnswer_reach _)

theorem enterQuietMode_reach (s : State) : ReachRadio s s.enterQuietMode :=
  (removeEntries_reach _ _ s).trans rfl

theorem changeMode_reach (s : State) : ReachTable s s.changeMode := by
  unfold State.changeMode
  dsimp only
  refine ReachTable.trans ?_ (startFrame_reach _).supervision.table
  refine ReachTable.trans ?_ (evaluateIf_reach _ _).table
  refine ReachTable.trans ?_ (placeWaiting_reach _)
  refine ReachTable.trans ?_ (setFlagIf_reach _ _ _).supervision.table
  refine ReachTable.trans ?_ (onRadio_reach _ _).supervision.table
  split
  · exact ReachTable.after (enterQuietMode_reach _).supervision.table rfl
  · split <;> rfl

theorem judgeMode_reach (s : State) : ReachTable s s.judgeMode := by
  unfold State.judgeMode; split
  · exact changeMode_reach s
  · rfl

theorem lineEvent_reach (s : State) : ReachMessages s s.lineEvent := by
  unfold State.lineEvent
  split
  · split
    · dsimp only
      split
      · exact ReachMessages.after (startFrame_reach _).messages rfl
      · exact ReachMessages.after (changeMode_reach _).messages rfl
    · exact (changeMode_reach s).messages
  · exact (judgeStart_reach s).messages

/-! ### The receive assembler -/

theorem rxError_reach (e : RxError) (s : State) : ReachRadio s (s.rxError e) := rfl
theorem abortFrame_reach (e : RxError) (i : BufId) (s : State) : ReachRadio s (s.abortFrame e i) := rfl

theorem takeFrameStart_reach (s : State) : ReachRadio s s.takeFrameStart := by
  unfold State.takeFrameStart; split
  · rfl
  · split <;> rfl

theorem takeData_reach (b : Byte) (s : State) : ReachRadio s (s.takeData b) := by
  unfold State.takeData; split
  · dsimp only; split <;> rfl
  · rfl

theorem frameChecked_reach (i : BufId) (s : State) : ReachTable s (s.frameChecked i) := by
  unfold State.frameChecked; split
  · exact handFrame_reach i s
  · split
    · exact (linkHeard_reach s).table.trans (handFrame_reach i _)
    · rfl

theorem takeFrameEnd_reach (s : State) : ReachTable s s.takeFrameEnd := by
  unfold State.takeFrameEnd; split
  · dsimp only
    split
    · rfl
    · exact ReachTable.after (frameChecked_reach _ _) rfl
  · rfl

theorem takeSymbol_reach (x : Symbol) (s : State) : ReachTable s (s.takeSymbol x) := by
  unfold State.takeSymbol; split
  · rfl
  · exact (takeData_reach _ s).supervision.table
  · exact (takeFrameStart_reach s).supervision.table
  · exact takeFrameEnd_reach s
  · split <;> rfl

theorem takeLineError_reach (s : State) : ReachRadio s s.takeLineError := by
  unfold State.takeLineError; dsimp only; split <;> rfl

theorem takeByte_reach (b : Byte) (e : Bool) (s : State) : ReachMessages s (s.takeByte b e) := by
  unfold State.takeByte
  dsimp only
  have h : ReachTable s (if e = true then s.takeLineError
      else State.takeSymbol (decodeMark s.radio.markLatch b).1
        (s.onRadio fun r => { r with markLatch := (decodeMark s.radio.markLatch b).2 })) := by
    split
    · exact (takeLineError_reach s).supervision.table
    · exact ReachTable.after (takeSymbol_reach _ _) rfl
  revert h
  generalize (if e = true then s.takeLineError else _) = u
  intro h
  split
  · exact (h.messages.trans (onRadio_reach _ _).messages).trans (lineEvent_reach _)
  · exact h.messages.trans (onRadio_reach _ _).messages

theorem takeLooped_reach (s : State) : ReachMessages s s.takeLooped := by
  unfold State.takeLooped; split
  · split
    · exact ReachMessages.after (takeByte_reach _ _ _) rfl
    · rfl
  · rfl

theorem loopRest_reach (s : State) : ReachMessages s s.loopRest := by
  unfold State.loopRest; split
  · rename_i t _
    generalize t.line = bytes
    clear * -
    induction bytes generalizing s with
    | nil => rfl
    | cons b bs ih => exact (takeLooped_reach s).trans (ih _)
  · rfl

theorem frameArrives_reach (d src k : Byte) (body : List Byte) (s : State) :
    ReachMessages s (s.frameArrives d src k body) := by
  unfold State.frameArrives
  dsimp only
  split
  · have h : ReachMessages s
        (State.takeFrameStart (s.onRadio fun r => { r with markLatch := false })) :=
      ReachMessages.after (takeFrameStart_reach _).messages rfl
    split
    · split
      · exact ((h.trans (onRadio_reach _ _).messages).trans (takeFrameEnd_reach _).messages).trans (lineEvent_reach _)
      · exact (h.trans (abortFrame_reach _ _ _).messages).trans (lineEvent_reach _)
    · exact h
  · rfl

/-! ### The end of a transmission and the reports -/

theorem endEntry_reach (s : State) : ReachRadio s s.endEntry := by
  unfold State.endEntry; split
  · dsimp only
    split
    · exact (removeFirst_reach _ _ s).trans rfl
    · exact removeFirst_reach _ _ s
  · rfl

theorem finishTransmission_reach (s : State) : ReachRadio s s.finishTransmission := by
  unfold State.finishTransmission; split
  · rfl
  · exact ReachRadio.after (endEntry_reach _) rfl

theorem makeReport_reach (s : State) : ReachRadio s s.makeReport := by
  unfold State.makeReport; split
  · rfl
  · dsimp only
    split
    · rfl
    · split
      · exact (onRadio_reach _ s).trans (judgeStart_reach _)
      · rfl

end Sys2Proof.Machine
end

