-- ==== Sys2Proof/Tests/Slice0.lean ====
section
/-! SUPPORT. Tests on small states: the ill-formed commands that `Instr.wf` refuses, the figures that the manual
works out, one step of the commands, and for each statement with hypotheses a state and operands that
meet them. Every expected value is the manual's or follows from its rules by hand. -/

namespace Sys2Proof.Tests

-- The kernel's evaluations run one after another: side by side they take too much memory.
set_option Elab.async false

open Sys2Proof.Machine

/-! ### Helpers -/

/-- The next state of a command, if there is one. -/
def after (i : Instr) (s : State) : Option State :=
  match exec i s with
  | .next t => some t
  | .fault _ => none
  | .refused _ => none

/-- The status of the response after a command. -/
def statusOf (i : Instr) (s : State) : Option Status :=
  (after i s).bind fun t => t.port.response.map Response.status

/-- The data of the response after a command. -/
def dataOf (i : Instr) (s : State) : Option (List Byte) :=
  (after i s).bind fun t => t.port.response.map Response.data

/-- A profile of two segments with markers, 4000 counts long, at a lock level. -/
def profileAt (lock : LockLevel) : Profile :=
  ⟨[⟨0, 0, 400, 300, true⟩, ⟨1000, -180, 250, 200, true⟩], some 4000, .valid, lock,
    Config.paramDefaults⟩

/-- An armed unit in EMERGENCY after reset, with a valid position. -/
def armed : State :=
  { State.reset with
    profile := profileAt .configLocked
    odo := { State.reset.odo with position := 100, positionValid := true, selected := some .up }
    brake := { State.reset.brake with unit := .armed } }

/-- No cause at all. -/
def noCauses : Causes := ⟨false, false, false, false, false, false, false, false, false, false⟩

/-- An armed part in NORMAL at standstill, the loop closed and sensed, the band held. -/
def calm : State :=
  { armed with
    sup := { armed.sup with state := .normal, causes := noCauses, demand := ⟨0, false, false⟩ }
    brake := { armed.brake with
      supState := .normal, supDemand := ⟨0, false, false⟩, loop := true
      loopSense := .steady true } }

/-- The part of `calm` in motion upward, two edges into a capture. -/
def moving : State :=
  { calm with
    odo := { calm.odo with
      motion := true, standstillTimer := some 1000, measured := some .up, speed := 100
      history := some ⟨.up, 4, 3, 0⟩ }
    brake := { calm.brake with
      motion := true, speed := 100, hostLevel := 0, hostRelease := true, service := 0, band := true
      bandSense := .steady false }
    doors := { calm.doors with motion := true } }

/-- The radio of a state in another mode. -/
def inMode (m : LinkMode) (s : State) : State :=
  { s with radio := { s.radio with requested := m, current := m } }

/-- A queue entry of the host, unsent. -/
def hostEntry (handle priority : Nat) : QueueEntry :=
  ⟨handle, 0x05, priority, .vehicle, 1, [0x41], false, false⟩

/-- A part in NORMAL with two unsent host frames, kept from starting by CARRIER. -/
def queued : State :=
  let s := inMode .normal State.reset
  { s with radio := { s.radio with
    carrier := true, nextHandle := 2, queue := [hostEntry 0 0, hostEntry 1 2] } }

/-- A part in a mode that sends the first of two frames. -/
def sending (m : LinkMode) : State :=
  let s := inMode m State.reset
  let content := frameContent 1 32 0x05 [0x41]
  { s with radio := { s.radio with
    nextHandle := 2, queue := [{ hostEntry 0 2 with started := true }, hostEntry 1 0]
    tx := some ⟨0, content, (lineBytes content).map (lineByte 1)⟩, key := m == .normal } }

/-- A part in NORMAL that assembles a frame with the given content. -/
def assembling (content : List Byte) : State :=
  let s := inMode .normal State.reset
  { s with radio := { s.radio with
    assembler := some .buf0, silence := some 100, buf0 := ⟨.assembling, content⟩ } }

/-- A SPEED record of 200 cm/s, both directions. -/
def slow (origin : Origin) (number first last : Nat) (lifetime : Option Nat) : Record :=
  ⟨.speed 200, origin, number, .both, first, last, lifetime, true, lifetime == some 0⟩

/-- A state with some records in its lowest slots. -/
def withRecords (rs : List Record) (s : State) : State :=
  { s with table := { s.table with
    slots := rs.map some ++ List.replicate (32 - rs.length) none
    minuteTimer := if rs.any Record.counts then some 60000 else none } }

/-- A station's SPEED issue of 200 cm/s over 500..600. -/
def speedIssue : IssueBody := ⟨7, 0x18, 500, 600, 200, 0⟩

/-! ### Ill-formed commands are refused by `wf` -/

theorem test_wf_send_long_body : (Instr.radioSend 1 0 (List.replicate 57 0)).wf = false := by
  decide +kernel
theorem test_wf_text_long_body : (Instr.text 32 1 (List.replicate 57 0)).wf = false := by
  decide +kernel
theorem test_wf_issue_source : (Instr.issue 32 0 speedIssue).wf = false := by decide +kernel
theorem test_wf_revoke_source : (Instr.revoke 32 16 1).wf = false := by decide +kernel
theorem test_wf_poll_source : (Instr.poll 32 0).wf = false := by decide +kernel
theorem test_wf_query_source : (Instr.tableQuery 32 16).wf = false := by decide +kernel
theorem test_wf_check_source : (Instr.linkCheck 32 255).wf = false := by decide +kernel
theorem test_wf_not_used_is_used : (Instr.frameNotUsed 32 1 0x03 []).wf = false := by decide +kernel
theorem test_wf_frame_error_passes :
    (Instr.frameError [0x51, 0x02, 0x00, 0x09, 0xA4] true).wf = false := by decide +kernel
theorem test_wf_accepts :
    (Instr.frameNotUsed 32 1 0x03 [0]).wf = true ∧ (Instr.issue 0 15 speedIssue).wf = true
      ∧ (Instr.frameError [0x51, 0x02, 0x00, 0x09, 0xA5] true).wf = true := by decide +kernel

/-! ### Figures of the manual -/

/-- The check value over 0x31 to 0x39 (R162). -/
theorem test_check_value :
    checkValue [0x31, 0x32, 0x33, 0x34, 0x35, 0x36, 0x37, 0x38, 0x39] = 0x29B1#16 := by
  decide +kernel

/-- The worked FLAGS_READ_CLEAR frame of chapter 10, and its response. -/
theorem test_request_frame :
    decodeRequest [0x51, 0x02, 0x00, 0x09, 0xA4] true = .ok (.flagsReadClear 0x0009) := by rfl
theorem test_response_frame :
    Response.frame ⟨.ok, [0x00, 0x09]⟩ = [0x00, 0x02, 0x00, 0x09, 0xF5] := by decide +kernel

/-- Gravity figures (4.6.1). -/
theorem test_gravity :
    gravity 20 = 196 ∧ gravity 120 = 1167 ∧ gravity 180 = 1735 ∧ gravity 460 = 4096
      ∧ gravity 480 = 4241 := by decide +kernel

/-- Overlap codes (R127): 60, 120 and 200. -/
theorem test_overlap_codes :
    overlapTime 60 = 1200 ∧ overlapTime 120 = 3000 ∧ overlapTime 200 = 8000 := by decide +kernel

/-- Row words of the table: no row gives bits, so no word spells a command. -/
theorem test_no_word : decodeTableWord 8 0x51 = none := by rfl

/-! ### One step of the commands -/

theorem test_power_on : after .powerOnReset State.reset = some State.reset := by decide +kernel
theorem test_write_appends :
    (after (.profileWrite 0 0 100 1500 400 1) State.reset).map (fun t => t.profile.segments)
      = some [⟨0, 100, 1023, 400, true⟩] := by decide +kernel
theorem test_write_first_start :
    statusOf (.profileWrite 0 1 100 400 400 1) State.reset = some .badValue := by decide +kernel
theorem test_close_empty : statusOf (.profileClose 100) State.reset = some .wrongState := by
  decide +kernel
theorem test_clear_locked : statusOf .profileClear armed = some .locked := by decide +kernel
theorem test_lock_raise :
    (after .lockRaise { State.reset with profile := profileAt .profileLocked }).map
      (fun t => (t.profile.lock, t.brake.unit)) = some (.configLocked, .armed) := by decide +kernel
theorem test_config_raises_emergency_margin :
    (after (.configWrite 19 100) State.reset).map (fun t => (t.param 19, t.param 20))
      = some (100, 100) := by decide +kernel
theorem test_position_set :
    (after (.positionSet 400000) State.reset).map (fun t => (t.odo.position, t.odo.positionValid))
      = some (400000, true) := by decide +kernel
theorem test_position_too_high :
    statusOf (.positionSet 400001) State.reset = some .badValue := by decide +kernel
theorem test_issue_takes_lowest_slot :
    dataOf (.recordIssue 0 speedIssue) (withRecords [slow .vehicle 1 0 9 none] armed)
      = some [1, 0, 0, 0, 0] := by decide +kernel
theorem test_revoke_frees :
    (after (.recordRevoke 0 1) (withRecords [slow .vehicle 1 0 9 none] armed)).map
      (fun t => t.table.records) = some [] := by decide +kernel
theorem test_release_needs_record :
    statusOf (.doorRelease 1 0) armed = some .noRelease := by decide +kernel
theorem test_override_unlocks :
    (after (.doorRelease 1 1) armed).map (fun t => (t.doors.d1.state, t.doors.d2.state))
      = some (.unlocked, .locked) := by decide +kernel
theorem test_brake_demand_clamps :
    dataOf (.brakeDemand 120 1) calm = some [100, 1] := by decide +kernel
theorem test_ack_clears : (after .emergencyAck armed).map (fun t => (t.sup.state, t.brake.loop))
    = some (.normal, true) := by decide +kernel
theorem test_send_in_off : statusOf (.radioSend 1 0 []) State.reset = some .wrongMode := by
  decide +kernel
theorem test_status_above_five : statusOf (.statusRead 6) State.reset = some .badValue := by
  decide +kernel
theorem test_step_up_moves :
    (after (.acceptedStep true false 50) armed).map (fun t => (t.odo.position, t.odo.measured))
      = some (101, some .up) := by decide +kernel
/-- Four edges in 100,000 µs are 100 mm in 0.1 s, 100 cm/s (R27). -/
theorem test_capture_speed :
    (after (.acceptedStep true false 100000) moving).map (fun t => t.odo.speed) = some 100 := by
  decide +kernel
theorem test_ramp_step :
    (after .rampTimerExpiry { calm with brake := { calm.brake with
        hostLevel := 45, service := 60, ramp := some 100 } }).map
      (fun t => (t.brake.service, t.brake.ramp)) = some (45, none) := by decide +kernel
theorem test_emergency_line :
    (after .emergInAsserted moving).map (fun t => (t.brake.loop, t.brake.band, t.brake.service))
      = some (false, false, 100) := by decide +kernel
theorem test_forced_door :
    (after (.doorLockedChange .d2 false) calm).map
      (fun t => (t.doors.d2.state, t.doors.lastEvent, t.brake.secure))
      = some (.fault, .fault .d2 .forced, false) := by decide +kernel
theorem test_start_takes_priority :
    (after (.carrierChange false) queued).map (fun t => t.radio.tx.map InFlight.handle)
      = some (some 1) := by decide +kernel
theorem test_end_reports :
    (after .endOfTransmission (sending .normal)).map (fun t => t.radio.lastTx)
      = some (some ⟨0, .sent⟩) := by decide +kernel
theorem test_silence_aborts :
    (after .silenceTimerExpiry (assembling [1])).map (fun t => (t.radio.lastError, t.radio.assembler))
      = some (some .silence, none) := by decide +kernel
theorem test_byte_appends :
    (after (.receivedByte (.modem 0x01 true true)) (assembling [1])).map
      (fun t => t.radio.buf0.content) = some [1, 1] := by decide +kernel
theorem test_loop_delivers :
    (after .loopedFrame (sending .selftest)).map (fun t => t.radio.mailbox)
      = some [⟨0x05, 32, true, [0x41]⟩] := by decide +kernel
theorem test_poll_is_answered :
    (after (.poll 32 3) (inMode .normal State.reset)).map
      (fun t => t.radio.queue.map fun e => (e.kind, e.destination, e.started))
      = some [(0x42, 3, true)] := by decide +kernel
theorem test_text_delivered :
    (after (.text 0 3 [1, 2]) (inMode .listen State.reset)).map (fun t => t.radio.mailbox)
      = some [⟨0x05, 3, false, [1, 2]⟩] := by decide +kernel

/-! ### Witnesses: states and operands that meet the hypotheses of each statement -/

theorem armed_good : armed.Good :=
  ⟨by decide +kernel, by decide +kernel, by decide +kernel, by decide +kernel, by decide +kernel,
    by decide +kernel, by decide +kernel,
    ⟨by decide +kernel, by decide +kernel, by decide +kernel, by decide +kernel, by decide +kernel,
      by decide +kernel, by decide +kernel⟩, by decide +kernel, by decide +kernel⟩

theorem calm_good : calm.Good :=
  ⟨by decide +kernel, by decide +kernel, by decide +kernel, by decide +kernel, by decide +kernel,
    by decide +kernel, by decide +kernel,
    ⟨by decide +kernel, by decide +kernel, by decide +kernel, by decide +kernel, by decide +kernel,
      by decide +kernel, by decide +kernel⟩, by decide +kernel, by decide +kernel⟩

theorem moving_good : moving.Good :=
  ⟨by decide +kernel, by decide +kernel, by decide +kernel, by decide +kernel, by decide +kernel,
    by decide +kernel, by decide +kernel,
    ⟨by decide +kernel, by decide +kernel, by decide +kernel, by decide +kernel, by decide +kernel,
      by decide +kernel, by decide +kernel⟩, by decide +kernel, by decide +kernel⟩

/-- EveryRunStaysSafe and every statement that asks for a good state. -/
theorem witness_good : ∃ s : State, s.Good ∧ s.brake.band = true ∧ s.brake.loop = true :=
  ⟨moving, moving_good, rfl, rfl⟩

theorem witness_StepRunsFrontCommand :
    { State.reset with pending := [Instr.profileClear] }.pending = Instr.profileClear :: []
      ∧ State.reset.pending = [] := ⟨rfl, rfl⟩

/-- The invariants: a good state whose step runs a command. -/
theorem witness_invariants :
    ∃ s t : State, step s = .next t ∧ s.profile.Good ∧ s.odo.Good ∧ s.table.Good
      ∧ s.radio.BuffersGood ∧ s.radio.HeldGood ∧ s.brake.Good ∧ s.doors.Good
      ∧ t.brake.hostLevel = 50 :=
  ⟨{ moving with pending := [.brakeDemand 50 1] }, _, rfl, moving_good.profile, moving_good.odo,
    moving_good.table, moving_good.radio.buffers, moving_good.radio.held, moving_good.brake,
    moving_good.doors, by decide +kernel⟩

theorem witness_RadioStaysGood :
    ∃ s t : State, step s = .next t ∧ s.radio.Good ∧ t.radio.tx.isSome = true :=
  ⟨{ queued with pending := [.carrierChange false] }, _, rfl,
    ⟨by decide +kernel, by decide +kernel, by decide +kernel, by decide +kernel, by decide +kernel,
      by decide +kernel, by decide +kernel⟩, by decide +kernel⟩

theorem witness_DoorsUnlockOnlyWhenHeld :
    (after (.doorRelease 1 1) armed).any fun t =>
      (armed.doors.get .d1).state == .locked && (t.doors.get .d1).state != .locked := by
  decide +kernel

theorem witness_EmergencyEnds :
    (after .emergencyAck armed).any fun t =>
      armed.sup.state == .emergency && t.sup.state != .emergency := by decide +kernel

theorem witness_LockLevelFreezes :
    (after (.configWrite 32 5) armed).isSome = true ∧ armed.profile.lock = .configLocked
      ∧ armed.profile.lock ≠ .levelOpen := by decide +kernel

theorem witness_PositionMoves :
    (after (.positionSet 5) armed).any (fun t => t.odo.position != armed.odo.position) = true
      ∧ (after .powerOnReset armed).any (fun t => t.odo.position != armed.odo.position) = true
      ∧ (after (.acceptedStep false true 9) armed).any (fun t => t.odo.position == 99) = true
      ∧ (after (.markerPulse true) { moving with odo := { moving.odo with position := 1040 } }).any
          (fun t => t.odo.position == 1000) = true := by decide +kernel

theorem witness_FlagsStaySet :
    (after (.flagsReadClear 2) { calm with port := { calm.port with flags := 1 } }).isSome = true
      ∧ hasFlag 1 .supervision = true := by decide +kernel

theorem witness_RequestFrames :
    (Instr.radioSend 95 2 (List.replicate 56 0xFF)).wf = true
      ∧ (encodeRequest (.radioSend 95 2 (List.replicate 56 0xFF))).isSome = true
      ∧ (encodeRequest .softReset).isSome = true := by decide +kernel

/-- A part whose port stands in the given state with the given request bytes, closed or open. -/
def withPort (p : PortState) (request : List Byte) (closed : Bool) (s : State) : State :=
  { s with port := { s.port with
    state := p, request := request, closed := closed, selected := p = .receiving } }

/-- A part that holds a response, in RESPONSE_READY or READOUT, with the next bit on SDO. -/
def holding (p : PortState) (shifted : List Byte) : State :=
  { armed with port := { armed.port with
    state := p, response := some ⟨.ok, [7, 8]⟩, shifted := shifted, selected := p = .readout
    sdo := frameBit (Response.frame ⟨.ok, [7, 8]⟩) (8 * shifted.length) } }

/-- The changes of SDI and SCLK that clock a run of bits, with SCLK low at rest. -/
def clocks (bits : List Bool) : List Instr :=
  bits.flatMap fun b => [.rawInputChange .sdi b 0, .rawInputChange .sclk true 0,
    .rawInputChange .sclk false 0]

/-- A part that RESET holds, its SELECT asserted. -/
def held : State :=
  { (withPort .receiving [0x53] false calm) with resetHeld := true }.powerOn

/-- A part that ignores the rest of a selection that a reset cut. -/
def cut : State := { armed with port := { armed.port with selected := true, ignoring := true } }

/-- Frames that fail in IDLE and in a RECEIVING port, open and closed, and the port states that take no
frame. -/
theorem witness_FailedFrames :
    statusOf (.frameError [0x51] true) State.reset = some .frameError
      ∧ statusOf (.frameError [] false) State.reset = some .frameError
      ∧ statusOf (.frameError [] true) (withPort .receiving [] false armed) = some .frameError
      ∧ statusOf (.frameError [0x51, 0, 0xAF] true) (withPort .receiving [0x51] false armed)
          = some .badValue
      ∧ statusOf (.frameError [0x51] true) (withPort .receiving [0x51] true armed) = some .frameError
      ∧ encodeRequest .softReset = some [0x53, 0x00, 0xAD]
      ∧ (holding .responseReady []).port.state = .responseReady
      ∧ (holding .readout [0]).port.state = .readout
      ∧ cut.port.state = .idle ∧ cut.port.ignoring = true
      ∧ ¬(withPort .receiving [0x54] false armed).port.heard
          <+: [0x53, 0x00, 0xAD].flatMap bitsMsbFirst
      ∧ (withPort .receiving [0x53] true armed).port.request ≠ [0x53, 0x00, 0xAD]
      ∧ State.reset.port.state = .idle ∧ State.reset.port.ignoring = false := by
  decide +kernel

/-- A request is taken in IDLE, and in a RECEIVING port that has the beginning of its frame or,
closed, all of it; a held response, a cut selection and another frame's beginning keep it from being
taken. -/
theorem witness_Takes :
    State.reset.Takes .softReset ∧ (withPort .receiving [0x53] false armed).Takes .softReset
      ∧ (withPort .receiving [0x53, 0x00, 0xAD] true armed).Takes .softReset := by
  decide +kernel
theorem witness_Takes_not :
    ¬(withPort .receiving [0x53] true armed).Takes .softReset
      ∧ ¬(withPort .receiving [0x54] false armed).Takes .softReset
      ∧ ¬(holding .responseReady []).Takes .softReset ∧ ¬cut.Takes .softReset := by
  decide +kernel

/-- A request sent while a response is held reads it out and discards it (R193). -/
theorem test_request_reads_out :
    (after .softReset (holding .responseReady [])).map
      (fun t => (t.port.state, t.port.response, t.port.shifted, t.odo.selected))
      = some (.idle, none, [0x00, 0x02, 0x07], some .up) := by decide +kernel

theorem witness_FramePasses :
    (List.replicate 56 (0x9C : Byte)).length ≤ 56
      ∧ (frameContent 32 1 0x05 (List.replicate 56 0x9C)).length = 62
      ∧ checkContent (frameContent 32 1 0x05 [0x9C, 0x9C]) = none := by decide +kernel

/-- NORMAL with no parity (parameter #2 is 0). -/
theorem witness_LineBytes :
    let s := inMode .normal { State.reset with profile := { State.reset.profile with
      params := State.reset.profile.params.set 2 0 } }
    s.radio.current = .normal ∧ s.radio.BuffersGood ∧ s.radio.markLatch = false
      ∧ ∀ b : Byte, parityOk (s.param 2) b true = true :=
  ⟨rfl, by decide +kernel, rfl, fun _ => rfl⟩

/-- A STOP record of the car itself that applies to UP, at a point. -/
def stopAt (p : Nat) : Record := ⟨.stop, .vehicle, 3, .up, p, p, none, false, false⟩

/-- A segment under the span, none under it, and the three choices of the direction. -/
theorem witness_TargetCurves :
    (⟨0, 0, 400, 300, true⟩, 1000) ∈ armed.profile.track ∧ State.reset.profile.track = []
      ∧ (moving.odo.motion = true ∧ moving.odo.measured = some .up)
      ∧ (armed.odo.motion = false ∧ armed.odo.selected = some .up)
      ∧ (State.reset.odo.motion = false ∧ State.reset.odo.selected = none)
      ∧ armed.profile.state = .valid ∧ armed.profile.lineEnd = some 4000
      ∧ State.reset.profile.state ≠ .valid := by decide +kernel

/-- The front one count beyond the line end, with no STOP record overrun and with one. -/
theorem witness_TargetCurves_beyond :
    let far : State := { armed with odo := { armed.odo with position := 3521 } }
    far.odo.positionValid = true ∧ far.profile.state = .valid
      ∧ (4000 < far.odo.position + far.param 3) ∧ far.overrun .up = none
      ∧ (withRecords [stopAt 579] far).overrun .up ≠ none := by decide +kernel

/-- Degraded; an overrun STOP record one count behind the front; the front one count beyond the line
end, and just at it. -/
theorem witness_PermittedSpeed :
    State.reset.degraded = true
      ∧ (armed.degraded = false ∧ (withRecords [stopAt 579] armed).overrun .up = some (0, stopAt 579))
      ∧ (withRecords [stopAt 580] armed).overrun .up = none
      ∧ { armed with odo := { armed.odo with position := 3521 } }.beyondLineEnd = true
      ∧ { armed with odo := { armed.odo with position := 3520 } }.beyondLineEnd = false
      ∧ ⟨.boundary, 1000, 420, 250, none⟩ ∈ armed.targets .up
      ∧ ⟨.stopRecord, 580, 0, 0, some 0⟩ ∈ (withRecords [stopAt 580] armed).targets .up
      ∧ ⟨.speedRecord, 600, 20, 200, some 0⟩
          ∈ (withRecords [slow .vehicle 1 600 700 none] armed).targets .up
      ∧ ⟨.lineEnd, 4000, 3420, 0, none⟩ ∈ armed.targets .up
      ∧ ⟨.lineEnd, 0, 100, 0, none⟩ ∈ armed.targets .down := by
  decide +kernel

theorem witness_ProfileCommands :
    State.reset.Takes (.profileWrite 0 0 100 1500 400 1) ∧ State.reset.Takes (.profileClose 1)
      ∧ State.reset.Takes .profileClear := by decide +kernel

theorem witness_LockRaise :
    State.reset.profile.lock = .levelOpen ∧ armed.profile.lock = .configLocked
      ∧ State.reset.Takes .lockRaise ∧ armed.Takes .lockRaise
      ∧ { State.reset with profile := profileAt .profileLocked }.Takes .lockRaise
      ∧ { State.reset with profile := profileAt .profileLocked }.Good :=
  ⟨rfl, rfl, by decide, by decide, by decide, ⟨by decide +kernel, by decide +kernel, by decide +kernel, by decide +kernel,
    by decide +kernel, by decide +kernel, by decide +kernel,
    ⟨by decide +kernel, by decide +kernel, by decide +kernel, by decide +kernel, by decide +kernel,
      by decide +kernel, by decide +kernel⟩, by decide +kernel, by decide +kernel⟩⟩

theorem witness_ConfigWrite :
    State.reset.profile.params.length = 34 ∧ State.reset.Takes (.configWrite 19 100) := by decide +kernel

theorem witness_Reads :
    armed.profile.segments[1]?.isSome = true ∧ armed.profile.segments[2]? = none
      ∧ 31 < (32 : Byte).toNat ∧ armed.table.get 31 = none
      ∧ ((withRecords [slow .vehicle 1 0 9 none] armed).table.get 0).isSome = true
      ∧ 16 ≤ (16 : Byte).toNat ∧ originOfCode 15 = some (.station 15) := by decide +kernel
theorem witness_Reads_taken :
    armed.Takes (.profileRead 1) ∧ armed.Takes (.configRead 33) ∧ armed.Takes (.recordRead 31)
      ∧ armed.Takes (.recordFind 15 0) ∧ armed.Takes .tableList
      ∧ (withRecords [slow .vehicle 1 0 9 none] armed).Takes (.recordRead 0) :=
  ⟨by decide +kernel, by decide +kernel, by decide +kernel, by decide +kernel, by decide +kernel,
    by decide +kernel⟩

theorem witness_StandstillSettings :
    armed.Takes (.positionSet 400000) ∧ armed.Takes (.directionSelect 2)
      ∧ armed.odo.motion = false := by decide +kernel

/-- An edge up that completes a capture, one that does not, and one that begins a history. -/
theorem witness_CountedEdge :
    moving.odo.history = some ⟨.up, 4, 3, 0⟩ ∧ moving.captureSize = 4
      ∧ moving.odo.measured = some .up ∧ armed.odo.history = none
      ∧ (moving.odo.pinA.level, moving.odo.pinB.level) = (false, false) := by decide +kernel

theorem witness_IllegalStep :
    State.reset.odo.pinA.level = false ∧ State.reset.odo.pinB.level = false
      ∧ (after (.acceptedStep true true 1) State.reset).any (fun t => t.odo.pinionSensor) = true := by
  decide +kernel

/-- At the edge of the capture window, one count beyond it, and between two markers. -/
theorem witness_MarkerPulse :
    let at' (p : Nat) : State := { moving with odo := { moving.odo with position := p } }
    moving.profile.markers = [0, 1000] ∧ moving.profile.SegmentsGood
      ∧ moving.odo.marker.level = false ∧ moving.odo.positionValid = true
      ∧ ((1000 : Int) - (at' 1040).odo.position).natAbs ≤ (at' 1040).param 5
      ∧ ¬((1000 : Int) - (at' 1041).odo.position).natAbs ≤ (at' 1041).param 5
      ∧ ((0 : Int) - (at' 500).odo.position).natAbs = ((1000 : Int) - (at' 500).odo.position).natAbs
      ∧ State.reset.odo.motion = false ∧ State.reset.profile.markers = [] := by decide +kernel

/-- Filter code 0 accepts at once; the default code does not. -/
theorem witness_RawChanges :
    let s : State := { State.reset with profile := { State.reset.profile with
      params := State.reset.profile.params.set 6 0 } }
    s.param 6 = 0 ∧ s.odo.pinA.raw = false ∧ s.odo.pinA.level = false
      ∧ State.reset.param 6 = 3 := by decide +kernel

/-- A table of 32 SPEED records of one station. -/
def fullTable : State :=
  withRecords ((List.range 32).map fun k => slow (.station 1) k 500 600 none) armed

/-- The five cases of an issue: KIND, AMENDED, replacement, NEW and FULL. -/
theorem witness_IssuesAreClassified :
    fullTable.table.Good ∧ (withRecords [stopAt 5] armed).table.Good
      ∧ (withRecords [stopAt 5] armed).table.classify .host { stopAt 5 with number := 4 }
          = ((withRecords [{ stopAt 5 with number := 4 }] armed).table, .new 0 (some 3))
      ∧ (fullTable.table.classify .host (slow (.station 1) 31 1 2 none)).2 = .amended 31
      ∧ (fullTable.table.classify .host { stopAt 5 with origin := .station 1 }).2 = .kind 3 .speed
      ∧ (fullTable.table.classify .host (slow (.station 2) 0 1 2 none)).2 = .full
      ∧ (armed.table.classify .host (stopAt 5)).2 = .new 0 none := by decide +kernel

theorem witness_RecordIssue :
    16 ≤ (16 : Byte).toNat ∧ originOfCode 0 = some .vehicle
      ∧ fullTable.Takes (.recordIssue 0 speedIssue) ∧ fullTable.Takes (.recordIssue 16 speedIssue)
      ∧ recordOfIssue .vehicle { speedIssue with start := 601 } = none
      ∧ (recordOfIssue .vehicle speedIssue).isSome = true
      ∧ statusOf (.recordIssue 2 speedIssue) fullTable = some .full
      ∧ statusOf (.recordIssue 1 { speedIssue with cls := 0x01, stop := 500 }) fullTable
          = some .kind := by decide +kernel

theorem witness_RevokeAndLossAck :
    fullTable.Takes (.recordRevoke 1 31) ∧ fullTable.Takes .lossAck
      ∧ statusOf (.recordRevoke 16 0) fullTable = some .badValue
      ∧ statusOf (.recordRevoke 1 0) moving = some .moving
      ∧ statusOf (.recordRevoke 1 32) fullTable = some .notFound
      ∧ statusOf (.recordRevoke 1 31) fullTable = some .ok
      ∧ fullTable.table.find (.station 1) 31 = some 31
      ∧ statusOf (.recordRevoke 0 3) (withRecords [stopAt 5] moving) = some .ok := by decide +kernel

/-- An edge that passes the record of slot 0, leaves the EXPIRING one of slot 1, and frees both with
the notice of the higher; a withheld edge; an edge that is a capture, and one that turns. -/
theorem witness_EdgesRetire :
    let s := withRecords [slow .vehicle 1 0 99 none, slow .vehicle 2 0 100 (some 0)] armed
    (after (.acceptedStep true false 50) s).map (fun t => (t.table.records, t.table.notice))
        = some ([], ⟨.passed, 1, .speed, .vehicle, 2, none⟩)
      ∧ { armed with odo := { armed.odo with position := 400000 } }.odo.position = 400000
      ∧ (moving.odo.history = some ⟨.up, 4, 3, 0⟩ ∧ moving.captureSize = 4)
      ∧ moving.odo.measured ≠ some .down
      ∧ (after (.acceptedStep true false 100000) moving).any (fun t => t.brake.speed == 100) = true
      ∧ (after (.acceptedStep false true 9) moving).any (fun t => t.brake.speed == 0) = true := by
  decide +kernel

theorem witness_MinuteExpiry :
    (withRecords [slow .vehicle 1 0 99 (some 1), slow .vehicle 2 0 100 (some 1)] armed).table.Good
      ∧ (withRecords [slow .vehicle 1 0 99 (some 1)] armed).table.minuteTimer ≠ none
      ∧ armed.table.minuteTimer = none := by decide +kernel

/-- The four answers of EMERGENCY_ACK; the last from `armed`, which is good. -/
theorem witness_Acknowledgment :
    armed.Takes .emergencyAck ∧ calm.Takes .emergencyAck ∧ statusOf .emergencyAck State.reset = some .wrongState ∧ statusOf .emergencyAck calm = some .wrongState
      ∧ statusOf .emergencyAck { armed with odo := { armed.odo with motion := true } } = some .moving
      ∧ statusOf .emergencyAck { armed with sup := { armed.sup with emergIn := true } }
          = some .causePresent
      ∧ statusOf .emergencyAck armed = some .ok := by decide +kernel

/-- The part of `armed` with the plunger pressed. -/
def pressed : State :=
  { armed with
    brake := { armed.brake with emergIn := .steady false }
    sup := { armed.sup with
      emergIn := true, causes := { armed.sup.causes with emergencyLine := true } } }

theorem witness_EmergencyLine :
    (calm.brake.emergIn.level = true ∧ calm.brake.Good) ∧ pressed.brake.emergIn.level = false
      ∧ pressed.Good :=
  ⟨by decide +kernel, rfl, ⟨by decide +kernel, by decide +kernel, by decide +kernel,
    by decide +kernel, by decide +kernel, by decide +kernel, by decide +kernel,
    ⟨by decide +kernel, by decide +kernel, by decide +kernel, by decide +kernel, by decide +kernel,
      by decide +kernel, by decide +kernel⟩, by decide +kernel, by decide +kernel⟩⟩

theorem witness_BrakeDemand : calm.Takes (.brakeDemand 120 1) ∧ calm.Takes (.brakeDemand 0 2) := by
  decide +kernel

theorem witness_DoorCommands :
    calm.Takes (.doorRelease 1 1) ∧ calm.Takes (.doorOpen 2) ∧ calm.Takes (.doorClose 3)
      ∧ calm.Takes (.doorReset 3) ∧ statusOf (.doorClose 0) calm = some .badValue ∧ statusOf (.doorClose 4) calm = some .badValue
      ∧ statusOf (.doorClose 1) calm = some .ok ∧ statusOf (.doorClose 3) calm = some .ok
      ∧ statusOf (.doorReset 4) calm = some .badValue ∧ doorCode .d3 = (3 : Byte).toNat
      ∧ statusOf (.doorReset 3) calm = some .wrongState := by decide +kernel

/-- A door that closes on a free doorway: CLOSED and OBSTRUCT are not both true. -/
theorem witness_DoorInputs :
    let d : Door := { Door.atRest with state := .closing, closed := .steady false }
    ¬(d.closed.level = true ∧ d.obstruct.level = true) ∧ Door.atRest.state ≠ .closing
      ∧ (d.obstructed ⟨6000, 1000, 3⟩).1.state = .opening
      ∧ (Door.obstructed ⟨6000, 1000, 3⟩ { d with reopen := 3 }).1.state = .held := by decide +kernel

/-- A quiet line with a change waiting: a start possible, no start possible, and a line not quiet. -/
theorem witness_ModeChanges :
    let waiting (s : State) : State := { s with radio := { s.radio with requested := .config } }
    let free : State := { queued with radio := { queued.radio with carrier := false } }
    queued.Takes (.radioMode 1) ∧ (waiting free).radio.canStart = true ∧ (waiting queued).radio.canStart = false
      ∧ (waiting queued).radio.requested ≠ (waiting queued).radio.current
      ∧ (waiting queued).radio.BuffersGood ∧ (waiting queued).radio.QueueGood
      ∧ (waiting queued).radio.txSeq < 256 ∧ (waiting queued).radio.assembler = none
      ∧ (waiting queued).radio.tx = none ∧ (waiting (sending .normal)).radio.tx ≠ none
      ∧ queued.radio.requested = queued.radio.current := by decide +kernel

theorem witness_ReceivedBytes : State.reset.param 2 ≤ 2 := by decide +kernel

/-- The second entry has the higher priority. -/
theorem witness_TransmitterStarts :
    let r : Radio := { queued.radio with carrier := false }
    r.tx = none ∧ r.assembler = none ∧ r.current = .normal ∧ r.queue[1]? = some (hostEntry 1 2)
      ∧ (∀ j q, r.queue[j]? = some q → q.started = false →
          q.priority < (hostEntry 1 2).priority ∨ (q.priority = (hostEntry 1 2).priority ∧ 1 ≤ j)) := by
  refine ⟨rfl, rfl, rfl, rfl, ?_⟩
  intro j q h _
  match j with
  | 0 => cases h; exact .inl (by decide)
  | 1 => cases h; exact .inr ⟨rfl, Nat.le_refl 1⟩
  | _ + 2 => cases h

theorem witness_EndedTransmissions :
    State.reset.radio.tx = none ∧ (sending .normal).radio.tx ≠ none
      ∧ (sending .normal).radio.queue[0]? = some { hostEntry 0 2 with started := true }
      ∧ (sending .selftest).radio.current = .selftest ∧ (sending .selftest).radio.tx ≠ none
      ∧ (after .loopedFrame (sending .selftest)).isSome = true
      ∧ ((after .loopedFrame (sending .selftest)).bind fun t => t.radio.tx.map InFlight.line)
          = some [] := by decide +kernel

/-- The line bits of 0x01: with no parity, even and odd (R155). -/
theorem test_line_bits :
    (lineByte 0 0x01).bits = [false, true, false, false, false, false, false, false, false, true]
      ∧ (lineByte 1 0x01).bits
          = [false, true, false, false, false, false, false, false, false, true, true]
      ∧ (lineByte 2 0x01).bits
          = [false, true, false, false, false, false, false, false, false, false, true] := by
  decide +kernel

/-- A queue of six entries, of a priority. -/
def fullQueue (priority : Nat) : State :=
  { queued with radio := { queued.radio with
    queue := (List.range 6).map fun k => hostEntry k priority, nextHandle := 6 } }

/-- An ALARM with room, over the newest entry of priority 1, and with none to displace. -/
theorem witness_Alarms :
    ((fullQueue 1).handAlarm.radio.queue.map QueueEntry.handle = [0, 1, 2, 3, 4, 6])
      ∧ (fullQueue 2).handAlarm.radio.pendingAlarm.isSome = true
      ∧ queued.handAlarm.radio.queue.length = 3 ∧ State.reset.handAlarm.radio.queue = [] := by
  decide +kernel

theorem witness_HostFrames :
    queued.Takes (.radioSend 1 0 [0x41]) ∧ queued.Takes (.radioAbort 1) ∧ queued.Takes .radioAbortAll
      ∧ queued.Takes .mailboxRead ∧ queued.Takes .mailboxRelease :=
  ⟨by decide +kernel, by decide +kernel, by decide +kernel, by decide +kernel, by decide +kernel⟩
theorem witness_HostFrames_answers :
    statusOf (.radioAbort 9) queued = some .notFound ∧ queued.radio.queue[1]? = some (hostEntry 1 2)
      ∧ statusOf (.radioAbort 1) queued = some .ok ∧ queued.radio.txSeq < 256
      ∧ statusOf (.radioAbort 0) (sending .normal) = some .wrongState
      ∧ statusOf (.radioSend 1 0 []) (fullQueue 0) = some .queueFull := by decide +kernel

/-- A part in NORMAL with a busy processor whose answer waits, and the other buffer as given. -/
def busyWith (other : FrameBuffer) : State :=
  let s := fullQueue 2
  { s with radio := { s.radio with
    busy := true, waiting := some ⟨0x42, 1, [0]⟩, buf1 := other
    buf0 := ⟨.processing, frameContent 32 1 0x03 []⟩ } }

/-- A frame that arrives in OFF, without a FREE buffer, behind a busy processor, at an idle one, and for
another car. -/
theorem witness_StationFrames :
    State.reset.radio.current = .off
      ∧ (busyWith ⟨.held, frameContent 32 2 0x03 []⟩).radio.buf1.state ≠ .free
      ∧ (busyWith ⟨.free, []⟩).radio.busy = true
      ∧ queued.radio.busy = false ∧ queued.param 0 = 32
      ∧ (after (.poll 32 15) (busyWith ⟨.free, []⟩)).any
          (fun t => decide (t.radio.buf1.state = .held)) = true
      ∧ (after (.poll 33 15) queued).any (fun t => t.radio.queue.length == 2) = true := by
  decide +kernel

theorem witness_StationFrames_buffers :
    ((busyWith ⟨.held, frameContent 32 2 0x03 []⟩).radio.buf .buf0).state = .processing
      ∧ ((busyWith ⟨.held, frameContent 32 2 0x03 []⟩).radio.buf BufId.buf0.other).state = .held
      ∧ (busyWith ⟨.free, []⟩).radio.BuffersGood ∧ queued.radio.BuffersGood := by decide +kernel

/-- The kinds at an idle processor in NORMAL, and the looped frame of SELFTEST. -/
theorem witness_FramesAreProcessed :
    queued.radio.current ≠ .selftest ∧ queued.radio.busy = false
      ∧ (frameOf (frameContent 32 1 0x01 (issueBytes speedIssue))).body = issueBytes speedIssue
      ∧ (recordOfIssue (.station 1) speedIssue).isSome = true
      ∧ frameUsed 0x07 0 = false ∧ (sending .selftest).radio.BuffersGood
      ∧ (sending .selftest).radio.busy = false ∧ (sending .selftest).radio.markLatch = false
      ∧ (sending .selftest).radio.tx = some ⟨0, frameContent 1 32 0x05 [0x41],
          (lineBytes (frameContent 1 32 0x05 [0x41])).map (lineByte 1)⟩ := by decide +kernel

/-- A frame in flight in SELFTEST behind a BUSY processor, with the other buffer as given. -/
def crowded (other : FrameBuffer) : State :=
  let s := sending .selftest
  { s with radio := { s.radio with
    busy := true, waiting := some ⟨0x42, 1, [0]⟩, buf1 := other
    buf0 := ⟨.processing, frameContent 32 1 0x03 []⟩ } }

/-- A looped frame behind a BUSY processor is HELD, and without a FREE buffer it is overrun (R163,
R169). -/
theorem witness_LoopedFrameCrowded :
    (crowded ⟨.free, []⟩).radio.BuffersGood
      ∧ (crowded ⟨.held, frameContent 0 32 0x05 []⟩).radio.BuffersGood
      ∧ (crowded ⟨.free, []⟩).radio.markLatch = false ∧ (crowded ⟨.free, []⟩).radio.assembler = none := by
  decide +kernel
theorem witness_LoopedFrameCrowded_after :
    (crowded ⟨.free, []⟩).radio.tx = some ⟨0, frameContent 1 32 0x05 [0x41],
        (lineBytes (frameContent 1 32 0x05 [0x41])).map (lineByte 1)⟩
      ∧ (after .loopedFrame (crowded ⟨.free, []⟩)).map (fun t => t.radio.buf1)
          = some ⟨.held, frameContent 1 32 0x05 [0x41]⟩
      ∧ (after .loopedFrame (crowded ⟨.held, frameContent 0 32 0x05 []⟩)).map (fun t => t.radio.lastError)
          = some (some .receiveOverrun) := by decide +kernel

/-- A HELD frame on the way to LISTEN, and a waiting answer and a pending alarm with one and with two
free slots. -/
theorem witness_ModeChangeItems :
    let s := busyWith ⟨.held, frameContent 32 2 0x03 []⟩
    let going (m : LinkMode) (n : Nat) : State := { s with radio := { s.radio with
      current := if m = .listen then .normal else .listen, requested := m, pendingAlarm := some [0, 0, 0]
      queue := s.radio.queue.take n } }
    (∀ m ∈ [LinkMode.listen, .normal], ∀ n ∈ [4, 5],
        (going m n).radio.BuffersGood ∧ (going m n).radio.QueueGood
        ∧ (going m n).radio.txSeq < 256 ∧ (going m n).radio.assembler = none ∧ (going m n).radio.tx = none)
      ∧ (going .listen 5).changeMode.radio.buf1.state = .held
      ∧ (going .normal 5).changeMode.radio.pendingAlarm = none
      ∧ (going .normal 5).changeMode.radio.waiting = some ⟨0x42, 1, [0]⟩
      ∧ (going .normal 4).changeMode.radio.buf0.state = .free := by decide +kernel

/-- A reset taken in the middle of a selection leaves its rest to be ignored, request and bytes alike,
until SELECT is deasserted (R194). -/
theorem test_reset_cuts_selection :
    (after .powerOnReset (withPort .receiving [0x53] false armed)).bind (after (.receivedByte (.sdi 0)))
      = (after .powerOnReset (withPort .receiving [0x53] false armed))
      ∧ ((after .powerOnReset (withPort .receiving [0x53] false armed)).bind
          (after (.rawInputChange .select false 0))).map (fun t => decide (t.Takes .softReset))
        = some true := by decide +kernel

/-- The deselection in RECEIVING takes the request in the buffer, in a second selection too, and
answers the first failing check of bytes that are none (R193 to R195). -/
theorem test_deselection_takes_request :
    (∀ closed ∈ [false, true],
      after (.rawInputChange .select false 0) (withPort .receiving [0x53, 0x00, 0xAD] closed armed)
        = after .softReset (withPort .receiving [0x53, 0x00, 0xAD] closed armed))
      ∧ statusOf (.rawInputChange .select false 0) (withPort .receiving [0x53, 0x00, 0xAD] true armed)
        = some .ok
      ∧ statusOf (.rawInputChange .select false 0) (withPort .receiving [0x53, 0x00] false armed)
        = some .frameError
      ∧ decodeRequest [0x53, 0x00, 0xAD] true = .ok .softReset := by decide +kernel

/-- Clocks of SCLK spell a request on SDI most significant bit first, and the response comes on SDO most
significant bit first: SOFT_RESET's frame, and the status byte and length byte of its answer. A
selection that ends within a byte is not whole (R193, R195). -/
theorem test_bit_order :
    ((runCommands (.rawInputChange .select true 0 :: clocks ([0x53, 0x00, 0xAD].flatMap bitsMsbFirst)
        ++ [.rawInputChange .select false 0]) armed).map
      fun t => (t.port.state, t.port.request, t.port.response))
        = some (.responseReady, [0x53, 0x00, 0xAD], some ⟨.ok, []⟩)
      ∧ ((runCommands (clocks [false, true, false, true, false, false, true, true])
          (withPort .receiving [] false armed)).map fun t => t.port.request) = some [0x53]
      ∧ ((runCommands (clocks [true]) (withPort .receiving [0x53, 0x00, 0xAD] false armed)).bind
          fun t => statusOf (.rawInputChange .select false 0) t) = some .frameError := by
  decide +kernel
theorem test_bit_order_readout :
    ((runCommands (clocks [true, true, true, true, true, true]) (holding .readout [0, 2])).map
        fun t => (t.port.bits, t.port.sdo)) = some ([false, false, false, false, false, true], true)
      ∧ ((runCommands (clocks (List.replicate 8 true)) (holding .readout [0, 2])).map
          fun t => (t.port.shifted, t.port.bits)) = some ([0, 2, 7], [])
      ∧ ((after (.receivedByte (.sdi 0xFF)) (holding .readout [0, 2])).map
          fun t => (t.port.shifted, t.port.bits)) = some ([0, 2, 7], []) := by
  decide +kernel

/-- A byte on SDI is appended in RECEIVING, and after another assertion of SELECT it is ignored with
PORT_PROTOCOL (R193, R194). -/
theorem test_bytes_on_sdi :
    (after (.receivedByte (.sdi 0)) (withPort .receiving [0x53] false armed)).map (fun t => t.port.request)
        = some [0x53, 0x00]
      ∧ ((after (.rawInputChange .select true 0) (withPort .receiving [0x53] false armed)).bind
          (after (.receivedByte (.sdi 0)))).map
          (fun t => (t.port.request, hasFlag t.port.flags .portProtocol)) = some ([0x53], true) := by
  decide +kernel

/-- The port in each of its states: IDLE, a cut selection, RECEIVING open and closed, a held response,
and a readout two bytes in. -/
theorem witness_Port :
    (armed.port.state = .idle ∧ armed.port.ignoring = false) ∧ cut.port.ignoring = true
      ∧ (withPort .receiving [0x51] false armed).port.closed = false
      ∧ (withPort .receiving [0x51] true armed).port.closed = true
      ∧ (holding .responseReady []).port.response = some ⟨.ok, [7, 8]⟩
      ∧ (holding .readout [0, 2]).port.response = some ⟨.ok, [7, 8]⟩
      ∧ (after (.responseReadout 4) (holding .readout [0, 2])).map (fun t => t.port.shifted)
          = some [0x00, 0x02, 0x07, 0x08, 0xEF, 0x00]
      ∧ armed.Takes (.flagsReadClear 9) ∧ armed.Takes (.flagsEnable 0xFFFF) := by
  decide +kernel

theorem witness_StatusRead :
    armed.Takes (.statusRead 0) ∧ armed.Takes (.statusRead 6) ∧ State.reset.Takes (.statusRead 2)
      ∧ 5 < (6 : Byte).toNat ∧ armed.brake.unit = .armed ∧ State.reset.brake.unit = .safe
      ∧ (dataOf (.statusRead 0) armed).map List.length = some 14 := by decide +kernel

theorem witness_Resets :
    moving.odo.motion = true ∧ moving.Takes .softReset ∧ calm.odo.motion = false
      ∧ calm.Takes .softReset := by decide +kernel

/-- The ports of the statements at bit level: seven bits of a byte in RECEIVING and in READOUT, and the
bytes that they spell with an eighth. -/
theorem witness_PortBits :
    let p := { (withPort .receiving [] false armed).port with
      bits := [false, true, false, true, false, false, true], sdi := true }
    let q := { (holding .readout [0, 2]).port with
      bits := [false, false, false, false, false, true, true], sdo := true }
    p.bits.length = 7 ∧ p.Good ∧ (∀ k, k < 8 →
        (0x53 : Byte).getLsbD (7 - k) = (p.bits ++ [p.sdi]).getD k false)
      ∧ q.bits.length = 7 ∧ q.Good ∧ (∀ k, k < 8 →
        (0x07 : Byte).getLsbD (7 - k) = (q.bits ++ [q.sdo]).getD k false) := by decide +kernel

/-- RESET is released in the states that meet the statements' other hypotheses. -/
theorem witness_released :
    (∀ s ∈ [State.reset, armed, calm, moving, queued, pressed, fullTable, cut, sending .normal,
        sending .selftest, fullQueue 1, busyWith ⟨.free, []⟩, crowded ⟨.free, []⟩, assembling [1],
        holding .readout [0, 2], withPort .receiving [0x51] false armed],
      s.resetHeld = false) ∧ ∀ m, (inMode m State.reset).resetHeld = false :=
  ⟨by decide +kernel, fun _ => rfl⟩

/-- While RESET is asserted requests, bytes, steps and frames do nothing, a raw change is what the
power-on values are taken from, and the release leaves them, with the rest of the selection ignored
(R194, R202). -/
theorem witness_ResetHeld :
    held.resetHeld = true ∧ held.powerOn = held
      ∧ after (.rawInputChange .reset true 0) (withPort .receiving [0x53] false calm) = some held
      ∧ after (.acceptedStep true false 9) held = some held
      ∧ after (.receivedByte (.modem 0x9C true true)) held = some held
      ∧ (after (.lockRaise) held).map (fun t => (t.port.state, t.port.response, t.port.selected))
          = some (.idle, none, false) := by decide +kernel
theorem witness_ResetHeld_wires :
    (after (.rawInputChange (.door .d2 .locked) false 0) held).map
        (fun t => (t.doors.d2.state, t.sup.doorsSecure)) = some (.held, false)
      ∧ (after (.rawInputChange .reset false 0) held).map
          (fun t => (t.resetHeld, t.port.ignoring, decide (t.sup = State.reset.sup)))
          = some (false, true, true)
      ∧ (after (.carrierChange true) held).map (fun t => t.radio.carrier) = some true := by
  decide +kernel

end Sys2Proof.Tests
end

section
/-! What a command can do to the profile store. `ProfileMove` lists the ways in which the store may change
at a command that is no reset of the part, and `exec_moves` says that every such command's outcome is one
of them; what every step keeps of the store is then a matter of seven cases. -/

namespace Sys2Proof.Machine

/-! ### What leaves the profile store alone -/

theorem ReachMessages.profile {s t : State} (h : ReachMessages s t) : t.profile = s.profile := by
  unfold ReachMessages at h; rw [h]
theorem ReachTable.profile {s t : State} (h : ReachTable s t) : t.profile = s.profile :=
  h.messages.profile
theorem ReachSupervision.profile {s t : State} (h : ReachSupervision s t) : t.profile = s.profile :=
  h.table.profile
theorem ReachRadio.profile {s t : State} (h : ReachRadio s t) : t.profile = s.profile :=
  h.messages.profile

@[simp] theorem State.evaluate_profile (s : State) : s.evaluate.profile = s.profile :=
  (evaluate_reach s).profile
@[simp] theorem State.evaluateIf_profile (c : Bool) (s : State) :
    (s.evaluateIf c).profile = s.profile := (evaluateIf_reach c s).profile
@[simp] theorem State.setFlagIf_profile (c : Bool) (f : Flag) (s : State) :
    (s.setFlagIf c f).profile = s.profile := (setFlagIf_reach c f s).profile
@[simp] theorem State.changeSupState_profile (new : SupState) (s : State) :
    (s.changeSupState new).profile = s.profile := (changeSupState_reach new s).profile
@[simp] theorem State.handCause_profile (f : Causes → Causes) (s : State) :
    (s.handCause f).profile = s.profile := (handCause_reach f s).profile
@[simp] theorem State.handEmergIn_profile (b : Bool) (s : State) :
    (s.handEmergIn b).profile = s.profile := (handEmergIn_reach b s).profile
@[simp] theorem State.handSecure_profile (b : Bool) (s : State) :
    (s.handSecure b).profile = s.profile := (handSecure_reach b s).profile
@[simp] theorem State.handSpeed_profile (v : Nat) (s : State) :
    (s.handSpeed v).profile = s.profile := rfl
@[simp] theorem State.issueRecord_profile (src : IssueSource) (o : Origin) (b : IssueBody)
    (s : State) : (s.issueRecord src o b).1.profile = s.profile :=
  (issueRecord_reach src o b s).profile
@[simp] theorem State.revokeSlot_profile (slot : Nat) (s : State) :
    (s.revokeSlot slot).profile = s.profile := (revokeSlot_reach slot s).profile
@[simp] theorem State.minuteExpiry_profile (s : State) : s.minuteExpiry.profile = s.profile :=
  (minuteExpiry_reach s).profile
@[simp] theorem State.retireRecords_profile (dir : Dir) (s : State) :
    (s.retireRecords dir).1.profile = s.profile := (retireRecords_reach dir s).profile
@[simp] theorem State.setLink_profile (l : LinkStatus) (s : State) :
    (s.setLink l).profile = s.profile := (setLink_reach l s).profile
@[simp] theorem State.judgeStart_profile (s : State) : s.judgeStart.profile = s.profile :=
  (judgeStart_reach s).profile
@[simp] theorem State.startFrame_profile (s : State) : s.startFrame.profile = s.profile :=
  (startFrame_reach s).profile
@[simp] theorem State.judgeMode_profile (s : State) : s.judgeMode.profile = s.profile :=
  (judgeMode_reach s).profile
@[simp] theorem State.lineEvent_profile (s : State) : s.lineEvent.profile = s.profile :=
  (lineEvent_reach s).profile
@[simp] theorem State.placeWaiting_profile (s : State) : s.placeWaiting.profile = s.profile :=
  (placeWaiting_reach s).profile
@[simp] theorem State.removeFirst_profile (test : QueueEntry → Bool) (r : TxResult) (s : State) :
    (s.removeFirst test r).profile = s.profile := (removeFirst_reach test r s).profile
@[simp] theorem State.removeEntries_profile (test : QueueEntry → Bool) (r : TxResult) (s : State) :
    (s.removeEntries test r).profile = s.profile := (removeEntries_reach test r s).profile
@[simp] theorem State.abortFrame_profile (e : RxError) (i : BufId) (s : State) :
    (s.abortFrame e i).profile = s.profile := rfl
@[simp] theorem State.takeByte_profile (b : Byte) (e : Bool) (s : State) :
    (s.takeByte b e).profile = s.profile := (takeByte_reach b e s).profile
@[simp] theorem State.takeLooped_profile (s : State) : s.takeLooped.profile = s.profile :=
  (takeLooped_reach s).profile
@[simp] theorem State.loopRest_profile (s : State) : s.loopRest.profile = s.profile :=
  (loopRest_reach s).profile
@[simp] theorem State.finishTransmission_profile (s : State) :
    s.finishTransmission.profile = s.profile := (finishTransmission_reach s).profile
@[simp] theorem State.frameArrives_profile (d src k : Byte) (body : List Byte) (s : State) :
    (s.frameArrives d src k body).profile = s.profile := (frameArrives_reach d src k body s).profile
@[simp] theorem State.makeReport_profile (s : State) : s.makeReport.profile = s.profile :=
  (makeReport_reach s).profile

@[simp] theorem State.endTransmission_profile (s : State) :
    s.endTransmission.profile = s.profile := by
  unfold State.endTransmission; split <;> simp

@[simp] theorem State.commitDoors_profile (x : Doors × Bool) (s : State) :
    (s.commitDoors x).profile = s.profile := by
  unfold State.commitDoors; dsimp only; split <;> simp

@[simp] theorem State.doorEvent_profile (f : DoorTimes → Door → DoorStep) (id : DoorId) (s : State) :
    (s.doorEvent f id).profile = s.profile := State.commitDoors_profile _ s

@[simp] theorem State.grant_profile (side : Side) (override : Bool) (s : State) :
    (s.grant side override).profile = s.profile := by
  cases override <;> exact State.commitDoors_profile _ _

@[simp] theorem State.acknowledge_profile (s : State) : s.acknowledge.profile = s.profile := by
  simp [State.acknowledge, State.clearCauses]

@[simp] theorem State.odoFault_profile (f : OdoFault) (s : State) :
    (s.odoFault f).profile = s.profile := by
  unfold State.odoFault; split <;> simp

@[simp] theorem State.edgePosition_profile (dir : Dir) (s : State) :
    (s.edgePosition dir).1.profile = s.profile := by
  unfold State.edgePosition; split <;> simp

@[simp] theorem State.edgeMotion_profile (s : State) : s.edgeMotion.profile = s.profile := by
  unfold State.edgeMotion; dsimp only; split <;> rfl

@[simp] theorem State.edgeDirection_profile (dir : Dir) (s : State) :
    (s.edgeDirection dir).profile = s.profile := by
  unfold State.edgeDirection; dsimp only; split <;> rfl

@[simp] theorem State.edgeCapture_profile (dir : Dir) (now : Micros) (s : State) :
    (s.edgeCapture dir now).profile = s.profile := by
  unfold State.edgeCapture; dsimp only; split <;> rfl

@[simp] theorem State.countedEdge_profile (dir : Dir) (now : Micros) (s : State) :
    (s.countedEdge dir now).profile = s.profile := by
  unfold State.countedEdge; dsimp only; split <;> simp

@[simp] theorem State.illegalStep_profile (s : State) : s.illegalStep.profile = s.profile := by
  simp [State.illegalStep]

@[simp] theorem State.pinionStep_profile (a b : Bool) (now : Micros) (s : State) :
    (s.pinionStep a b now).profile = s.profile := by
  unfold State.pinionStep; dsimp only; split <;> simp

@[simp] theorem State.enterStandstill_profile (s : State) : s.enterStandstill.profile = s.profile :=
  rfl

@[simp] theorem State.wheelChange_profile (level : Bool) (s : State) :
    (s.wheelChange level).profile = s.profile := by
  unfold State.wheelChange State.wheelTurn; dsimp only; (repeat' split) <;> simp

@[simp] theorem State.markerChange_profile (level : Bool) (s : State) :
    (s.markerChange level).profile = s.profile := by
  unfold State.markerChange State.markerPass; dsimp only; (repeat' split) <;> simp

@[simp] theorem State.bandApplyExpiry_profile (s : State) : s.bandApplyExpiry.profile = s.profile := by
  unfold State.bandApplyExpiry State.brakeFault; dsimp only; split <;> simp

@[simp] theorem State.loopAgreementExpiry_profile (s : State) :
    s.loopAgreementExpiry.profile = s.profile := by
  unfold State.loopAgreementExpiry State.brakeFault; dsimp only; split <;> simp

@[simp] theorem State.afterSection_profile (sect : Nat) (s : State) :
    (s.afterSection sect).profile = s.profile := by
  unfold State.afterSection; split <;> rfl

@[simp] theorem State.softReset_profile (s : State) : s.softReset.profile = s.profile := rfl
@[simp] theorem State.powerOn_profile (s : State) : s.powerOn.profile = State.reset.profile := rfl

/-! ### The ways in which the store changes -/

/-- What a command that is no reset can make of a profile store: what it was, or what the six commands
of chapter 1 that write it make of it, each under the checks that it passes (R5 to R8, R13 to R15,
R17). -/
inductive ProfileMove (p : Profile) : Profile → Prop
  | kept : ProfileMove p p
  | written {index start limitUp limitDown : Nat} (gradient : Int) (marker : Byte)
      (h : p.writeRefusal index start limitUp limitDown = none) :
      ProfileMove p (p.write index (segmentOf start gradient limitUp limitDown marker))
  | closed {lineEnd : Nat} (h : p.closeRefusal lineEnd = none) :
      ProfileMove p { p with lineEnd := some lineEnd, state := .valid }
  | cleared (h : p.lock = .levelOpen) :
      ProfileMove p { p with segments := [], lineEnd := none, state := .loading }
  | profileLocked (h : p.lock = .levelOpen) (hv : p.state = .valid) :
      ProfileMove p { p with lock := .profileLocked }
  | configLocked (h : p.lock = .profileLocked) :
      ProfileMove p { p with lock := .configLocked }
  | configured {index : Nat} (value : Nat) (hi : index < Config.paramCount)
      (h : p.lock = .configLocked → index = 32) :
      ProfileMove p { p with params := storeParam index (boundParam p.params index value) p.params }

/-- The profile store after an outcome comes from that of a state by one of the ways above. -/
def MovesProfile (s : State) (r : Result) : Prop :=
  ∀ t, r = .next t → ProfileMove s.profile t.profile

theorem movesProfile_of_move {s u : State} (h : ProfileMove s.profile u.profile) :
    MovesProfile s (.next u) := by
  rintro t ⟨⟩; exact h

theorem movesProfile_of_kept {s u : State} (h : u.profile = s.profile) : MovesProfile s (.next u) :=
  movesProfile_of_move (h ▸ .kept)

/-- A response leaves the store as the command's effect has it. -/
theorem movesProfile_answer {code : Byte} {params : List Byte} {st : Status} {data : List Byte}
    {s u : State} (h : ProfileMove s.profile u.profile) :
    MovesProfile s (answer code params st data u) :=
  movesProfile_of_move h

/-- A response to a command that leaves the store alone. -/
theorem movesProfile_answer_kept {code : Byte} {params : List Byte} {st : Status} {data : List Byte}
    {s u : State} (h : u.profile = s.profile) : MovesProfile s (answer code params st data u) :=
  movesProfile_of_kept h

theorem movesProfile_unlessReset {s held : State} {r : Result} (hk : held.profile = s.profile)
    (h : MovesProfile s r) : MovesProfile s (s.unlessReset held r) := by
  unfold State.unlessReset; split
  · exact movesProfile_of_kept hk
  · exact h

theorem movesProfile_of_released {s held : State} {r : Result} (hr : s.resetHeld = false)
    (h : MovesProfile s r) : MovesProfile s (s.unlessReset held r) := by
  rwa [State.unlessReset_released _ _ hr]

/-- A selection moves the store only by what taking its frame does. -/
theorem movesProfile_takeSelection {frame : List Byte} {whole : Bool} {s : State} {taken : Result}
    (h : MovesProfile s taken) : MovesProfile s (takeSelection frame whole s taken) := by
  refine movesProfile_unlessReset rfl ?_
  split
  · exact h
  · exact movesProfile_of_kept rfl

/-- A host request moves the store only by what taking it does. -/
theorem movesProfile_hostRequest {code : Byte} {params : List Byte} {s : State} {taken : Result}
    (h : MovesProfile s taken) : MovesProfile s (hostRequest code params s taken) :=
  movesProfile_takeSelection h

/-- A command that acts only while RESET is released, and then leaves the store alone. -/
theorem movesProfile_event {s u : State} (h : u.profile = s.profile) :
    MovesProfile s (s.unlessReset s (.next u)) :=
  movesProfile_unlessReset rfl (movesProfile_of_kept h)

/-! ### The commands that write the store -/

theorem execProfileWrite_moves (index : Byte) (start : U24) (gradient limitUp limitDown : U16)
    (marker : Byte) (s : State) :
    MovesProfile s (execProfileWrite index start gradient limitUp limitDown marker s) := by
  refine movesProfile_hostRequest ?_
  split
  · exact movesProfile_answer_kept rfl
  · exact movesProfile_answer (.written _ _ (by assumption))

theorem execProfileClose_moves (lineEnd : U24) (s : State) :
    MovesProfile s (execProfileClose lineEnd s) := by
  refine movesProfile_hostRequest ?_
  split
  · exact movesProfile_answer_kept rfl
  · exact movesProfile_answer (.closed (by assumption))

theorem execProfileClear_moves (s : State) : MovesProfile s (execProfileClear s) := by
  refine movesProfile_hostRequest ?_
  split
  · exact movesProfile_answer_kept rfl
  · exact movesProfile_answer (.cleared (not_not.mp (by assumption)))

theorem execLockRaise_moves (s : State) : MovesProfile s (execLockRaise s) := by
  refine movesProfile_hostRequest ?_
  split
  · split
    · exact movesProfile_answer (.profileLocked (by assumption) (by assumption))
    · exact movesProfile_answer_kept rfl
  · exact movesProfile_answer (.configLocked (by assumption))
  · exact movesProfile_answer_kept rfl

/-- An accepted CONFIG_WRITE at CONFIG_LOCKED is one of #32 (R13, R17). -/
theorem State.configRefusal_lock {s : State} {index : Nat} (h : s.configRefusal index = none)
    (hl : s.profile.lock = .configLocked) : index = 32 := by
  by_contra hne
  simp [State.configRefusal, hl, hne] at h

theorem execConfigWrite_moves (index : Byte) (value : U24) (s : State) :
    MovesProfile s (execConfigWrite index value s) := by
  refine movesProfile_hostRequest ?_
  dsimp only
  split
  · exact movesProfile_answer_kept rfl
  · next hi =>
    split
    · exact movesProfile_answer_kept rfl
    · next hr =>
      have move := ProfileMove.configured (p := s.profile) value.toNat (not_le.mp hi)
        (State.configRefusal_lock hr)
      refine movesProfile_answer ?_
      split <;> exact move

/-! ### The other commands -/

theorem execFrameError_moves (bytes : List Byte) (whole : Bool) (s : State) :
    MovesProfile s (execFrameError bytes whole s) := by
  refine movesProfile_takeSelection ?_
  split
  · exact movesProfile_of_kept rfl
  · split <;> exact movesProfile_of_kept rfl

/-- A request that the port takes moves the store as chapter 1 says; the requests of the other chapters
leave it alone. -/
theorem takeRequest_moves (i : Instr) (s : State) : MovesProfile s (s.takeRequest i) := by
  cases i with
  | profileWrite index start g u d m => exact execProfileWrite_moves index start g u d m s
  | profileClose e => exact execProfileClose_moves e s
  | profileClear => exact execProfileClear_moves s
  | lockRaise => exact execLockRaise_moves s
  | configWrite index value => exact execConfigWrite_moves index value s
  | profileRead | tableList | flagsReadClear | flagsEnable =>
    exact movesProfile_hostRequest (movesProfile_answer_kept rfl)
  | radioAbortAll => exact movesProfile_hostRequest (movesProfile_answer_kept (by simp))
  | configRead | recordRead | recordFind | mailboxRead | mailboxRelease | softReset =>
    refine movesProfile_hostRequest ?_
    (repeat' split) <;> exact movesProfile_answer_kept rfl
  | recordIssue =>
    refine movesProfile_hostRequest ?_
    split
    · exact movesProfile_answer_kept rfl
    · exact movesProfile_answer_kept (State.issueRecord_profile _ _ _ s)
  | positionSet | directionSelect | recordRevoke | lossAck | doorRelease | doorOpen
  | doorClose | brakeDemand | emergencyAck | radioMode | radioSend | statusRead =>
    refine movesProfile_hostRequest ?_
    (repeat' split) <;> exact movesProfile_answer_kept (by simp)
  | doorReset | radioAbort =>
    refine movesProfile_hostRequest ?_
    dsimp only
    (repeat' split) <;> exact movesProfile_answer_kept (by simp)
  | _ => exact movesProfile_of_kept rfl

/-- The deselection in RECEIVING moves the store as the request in the buffer does. -/
theorem takeBuffer_moves (s : State) : MovesProfile s s.takeBuffer := by
  obtain ⟨i, -, e⟩ | ⟨-, e⟩ := s.takeBuffer_cases <;> rw [e]
  · exact takeRequest_moves i s
  · exact execFrameError_moves _ _ s

theorem selectChange_moves (level : Bool) (s : State) : MovesProfile s (s.selectChange level) := by
  unfold State.selectChange
  split
  · exact movesProfile_of_kept rfl
  · split
    · exact takeBuffer_moves s
    · exact movesProfile_of_kept rfl

/-- A change of an input moves the store at the deselection of a request alone, unless RESET is asserted
then. -/
theorem execRawInputChange_moves {input : InputId} {level : Bool} {now : Micros} {s : State}
    (h : ¬s.Resets (.rawInputChange input level now)) :
    MovesProfile s (execRawInputChange input level now s) := by
  have released : s.resetHeld = false := by
    by_contra held
    exact h (.inr ⟨input, level, now, rfl, .inl (by simpa using held)⟩)
  refine movesProfile_of_released released ?_
  cases input with
  | pinA | pinB | wheel | marker => dsimp only; split <;> exact movesProfile_of_kept (by simp)
  | emergIn | loopSense | bandSense | door | sclk | sdi => exact movesProfile_of_kept rfl
  | select => exact selectChange_moves level s
  | reset =>
    dsimp only
    split
    · next asserted => exact absurd (.inr ⟨_, _, now, rfl, .inr ⟨rfl, asserted⟩⟩) h
    · exact movesProfile_of_kept rfl

theorem execReceivedByte_moves (source : ByteSource) (s : State) :
    MovesProfile s (execReceivedByte source s) := by
  cases source with
  | modem => exact movesProfile_event (by split <;> simp)
  | looped => exact movesProfile_event (by simp)
  | sdi => exact movesProfile_unlessReset rfl (movesProfile_of_kept rfl)

theorem execSilenceTimerExpiry_moves (s : State) : MovesProfile s (execSilenceTimerExpiry s) := by
  refine movesProfile_unlessReset rfl ?_
  split <;> exact movesProfile_of_kept (by simp)

/-- A change of an input of one door moves the store at none of its outcomes. -/
theorem movesProfile_doorInput {c : Prop} [Decidable c] {f : DoorTimes → Door → DoorStep}
    {id : DoorId} {s : State} :
    MovesProfile s (s.unlessReset s (if c then .next s else .next (s.doorEvent f id))) := by
  refine movesProfile_unlessReset rfl ?_
  split <;> exact movesProfile_of_kept (by simp)

/-- Every command that is no reset of the part moves the store in one of the ways of `ProfileMove`. -/
theorem exec_moves {i : Instr} {s : State} (h : ¬s.Resets i) : MovesProfile s (exec i s) := by
  cases i with
  | powerOnReset => exact absurd (.inl rfl) h
  | rawInputChange => exact execRawInputChange_moves h
  | frameError bytes whole => exact execFrameError_moves bytes whole s
  | receivedByte source => exact execReceivedByte_moves source s
  | silenceTimerExpiry => exact execSilenceTimerExpiry_moves s
  | responseReadout | requestSelectionFirstClock | carrierChange =>
    exact movesProfile_unlessReset rfl (movesProfile_of_kept (by simp))
  | doorButtonPress | doorObstruction | doorOpenEnd | doorClosedChange | doorLockedChange =>
    exact movesProfile_doorInput
  | acceptedStep | modeChange | transmissionStart | waitingItemsPlaced | issue | revoke | poll
  | tableQuery | text | linkCheck | frameNotUsed => exact movesProfile_event (by simp)
  | protocolBytesIgnored | standstillTimerExpiry | wheelPulse | markerPulse | minuteTimerExpiry
  | evaluationTimerExpiry | emergInAsserted | emergInReleased | loopSenseChange | bandSenseChange
  | rampTimerExpiry | overlapTimerExpiry | bandApplyTimerExpiry | loopAgreementTimerExpiry
  | doorMotionTimerExpiry | doorLockTimerExpiry | linkTimerExpiry | endOfTransmission | loopedFrame
  | reportTimerExpiry => exact movesProfile_event (by split <;> simp)
  | _ => rw [← State.takeRequest_eq_exec rfl]; exact takeRequest_moves _ s

/-- A reset of the part leaves the store as power-on has it (R202). -/
theorem exec_resets_profile {i : Instr} {s t : State} (h : s.Resets i) (he : exec i s = .next t) :
    t.profile = State.reset.profile := by
  obtain rfl | ⟨input, level, now, rfl, hr⟩ := h
  · cases he; rfl
  · change execRawInputChange input level now s = .next t at he
    unfold execRawInputChange at he
    dsimp only at he
    cases held : s.resetHeld with
    | true => rw [State.unlessReset_held _ _ held] at he; cases he; rfl
    | false =>
      obtain hr | ⟨rfl, rfl⟩ := hr
      · simp [held] at hr
      · rw [State.unlessReset_released _ _ held] at he; cases he; rfl

end Sys2Proof.Machine
end

section
/-! The checks of PROFILE_WRITE and PROFILE_CLOSE as conditions on the store, and what the lock level
freezes (R5, R7, R13, R17). -/

namespace Sys2Proof.Machine

/-! ### The checks of PROFILE_WRITE and PROFILE_CLOSE -/

/-- Checks 2 to 7 of R5 all pass: the index names a segment that is held or the next one, the start lies
between those of its neighbours and within its range, and neither limit is 0. -/
abbrev Profile.WriteFits (p : Profile) (index start limitUp limitDown : Nat) : Prop :=
  index ≤ p.segments.length ∧ index ≤ 95 ∧ start ≤ 399999 ∧ (index = 0 → start = 0)
    ∧ (0 < index → (p.segments[index - 1]?).all (fun g => decide (g.start < start)) = true)
    ∧ (p.segments[index + 1]?).all (fun g => decide (start < g.start)) = true
    ∧ 1 ≤ limitUp ∧ 1 ≤ limitDown

/-- An order that some content breaks is one that not all content keeps. -/
theorem option_any_le_eq_not_all_lt {α : Type} (o : Option α) (f g : α → Nat) :
    o.any (fun x => decide (f x ≤ g x)) = !o.all (fun x => decide (g x < f x)) := by
  cases o with
  | none => rfl
  | some x => simp only [Option.any_some, Option.all_some, ← decide_not, Nat.not_lt]

/-- PROFILE_WRITE is refused LOCKED above OPEN, and otherwise BAD_VALUE by each of checks 2 to 7. -/
theorem Profile.writeRefusal_eq (p : Profile) (index start limitUp limitDown : Nat) :
    p.writeRefusal index start limitUp limitDown =
      if p.lock ≠ .levelOpen then some .locked
      else if p.WriteFits index start limitUp limitDown then none else some .badValue := by
  unfold Profile.writeRefusal
  split
  · rfl
  · simp only [Profile.count, Config.maxSegments, Config.maxSegmentStart,
      option_any_le_eq_not_all_lt]
    (repeat' split) <;> grind

/-- PROFILE_CLOSE is refused LOCKED above OPEN, WRONG_STATE without a segment, and BAD_VALUE unless the
line end lies beyond the start of the last one and within its range. -/
theorem Profile.closeRefusal_eq (p : Profile) (lineEnd : Nat) :
    p.closeRefusal lineEnd =
      if p.lock ≠ .levelOpen then some .locked
      else if p.segments = [] then some .wrongState
      else if (p.segments.getLast?).all (fun g => decide (g.start < lineEnd)) = true
          ∧ lineEnd ≤ 400000 then none
      else some .badValue := by
  unfold Profile.closeRefusal Profile.lastStart
  split
  · rfl
  · cases h : p.segments.getLast? with
    | none => simp [List.getLast?_eq_none_iff.mp h]
    | some g =>
      have held : p.segments ≠ [] := by rintro e; simp [e] at h
      by_cases fits : g.start < lineEnd ∧ lineEnd ≤ 400000 <;>
        simp [held, fits, Config.maxPosition]

theorem Profile.writeRefusal_eq_none_iff {p : Profile} {index start limitUp limitDown : Nat} :
    p.writeRefusal index start limitUp limitDown = none ↔
      p.lock = .levelOpen ∧ p.WriteFits index start limitUp limitDown := by
  rw [Profile.writeRefusal_eq]
  split
  · next hl => exact ⟨nofun, fun h => absurd h.1 hl⟩
  · next hl =>
    split
    · next fits => exact ⟨fun _ => ⟨not_not.mp hl, fits⟩, fun _ => rfl⟩
    · next fits => exact ⟨nofun, fun h => absurd h.2 fits⟩

theorem Profile.closeRefusal_eq_none_iff {p : Profile} {lineEnd : Nat} :
    p.closeRefusal lineEnd = none ↔
      p.lock = .levelOpen ∧ lineEnd ≤ 400000 ∧ ∃ g ∈ p.segments.getLast?, g.start < lineEnd := by
  rw [Profile.closeRefusal_eq]
  by_cases hl : p.lock = .levelOpen
  · cases h : p.segments.getLast? with
    | none => simp [hl, List.getLast?_eq_none_iff.mp h]
    | some g =>
      have held : p.segments ≠ [] := by rintro e; simp [e] at h
      simp [hl, held, and_comm]
  · simp [hl]

/-! ### Locks -/

namespace ProfileMove

variable {p q : Profile}

/-- The lock level never falls (R17). -/
theorem lock_le (h : ProfileMove p q) : lockCode p.lock ≤ lockCode q.lock := by
  cases h with
  | kept | written | closed | cleared | configured => exact le_rfl
  | profileLocked h => simp [h, lockCode]
  | configLocked h => simp [h, lockCode]

/-- Above OPEN the profile stands as it is (R17). -/
theorem frozen (h : ProfileMove p q) (hl : p.lock ≠ .levelOpen) :
    q.segments = p.segments ∧ q.lineEnd = p.lineEnd ∧ q.state = p.state := by
  cases h with
  | kept | profileLocked | configLocked | configured => exact ⟨rfl, rfl, rfl⟩
  | written _ _ h => exact absurd (Profile.writeRefusal_eq_none_iff.mp h).1 hl
  | closed h => exact absurd (Profile.closeRefusal_eq_none_iff.mp h).1 hl
  | cleared h => exact absurd h hl

/-- At CONFIG_LOCKED every parameter but #32 stands as it is (R13, R17). -/
theorem params_frozen (h : ProfileMove p q) (hl : p.lock = .configLocked) {k : Nat} (hk : k ≠ 32) :
    q.params.getD k 0 = p.params.getD k 0 := by
  cases h with
  | kept | written | closed | cleared | profileLocked | configLocked => rfl
  | configured value _ h =>
    obtain rfl := h hl
    simp [storeParam, List.getElem?_set_ne hk.symm]

end ProfileMove

/-- Settles O14: the lock level at each move of the store, and what stands under it. -/
theorem lockLevelFreezesTheStore : Obligations.LockLevelFreezesTheStore := by
  intro i s t he hr
  have move := exec_moves hr t he
  exact ⟨move.lock_le, move.frozen, fun hl k hk => move.params_frozen hl hk⟩

end Sys2Proof.Machine
end

section
/-! The rules that the store keeps: the segments under PROFILE_WRITE and the parameters under
CONFIG_WRITE, and with them the whole store at every move (R1, R3, R4, R11, R14, R15, R17). -/

namespace Sys2Proof.Machine

/-! ### Segments (R1, R5, R6) -/

/-- A stored segment stands between those below its index and those above it (R6). -/
theorem putSegment_eq {index : Nat} {segments : List Segment} (g : Segment)
    (h : index ≤ segments.length) :
    putSegment index g segments = segments.take index ++ g :: segments.drop (index + 1) := by
  unfold putSegment
  split
  · next e => simp [e]
  · rw [List.set_eq_take_append_cons_drop, if_pos (by omega)]

/-- A start beyond that of the segment just below the index is beyond those of all below it. -/
theorem starts_below {segments : List Segment} {index start : Nat}
    (sorted : segments.Pairwise fun g h => g.start < h.start) (hi : index ≤ segments.length)
    (neighbour : 0 < index →
      (segments[index - 1]?).all (fun g => decide (g.start < start)) = true) :
    ∀ g ∈ segments.take index, g.start < start := by
  intro g hg
  obtain ⟨k, hk, rfl⟩ := List.mem_take_iff_getElem.mp hg
  have last : segments[index - 1].start < start := by
    simpa [List.getElem?_eq_getElem (show index - 1 < segments.length by omega)]
      using neighbour (by omega)
  obtain e | lt : k = index - 1 ∨ k < index - 1 := by omega
  · subst e; exact last
  · exact (List.pairwise_iff_getElem.mp sorted k (index - 1) (by omega) (by omega) lt).trans last

/-- A start before that of the segment just above the index is before those of all above it. -/
theorem starts_above {segments : List Segment} {index start : Nat}
    (sorted : segments.Pairwise fun g h => g.start < h.start)
    (neighbour : (segments[index + 1]?).all (fun g => decide (start < g.start)) = true) :
    ∀ g ∈ segments.drop (index + 1), start < g.start := by
  intro g hg
  obtain ⟨k, hk, rfl⟩ := List.mem_drop_iff_getElem.mp hg
  have first : start < segments[index + 1].start := by
    simpa [List.getElem?_eq_getElem (show index + 1 < segments.length by omega)] using neighbour
  cases k with
  | zero => exact first
  | succ k =>
    exact first.trans
      (List.pairwise_iff_getElem.mp sorted (index + 1) _ (by omega) (by omega) (by omega))

/-- The bounded segment of a PROFILE_WRITE has its fields in range (R1, R5, R6). -/
theorem segmentOf_inRange {start limitUp limitDown : Nat} (gradient : Int) (marker : Byte)
    (hs : start ≤ 399999) (hu : 1 ≤ limitUp) (hd : 1 ≤ limitDown) :
    (segmentOf start gradient limitUp limitDown marker).InRange := by
  simp only [Segment.InRange, segmentOf, boundGradient, Config.maxSegmentStart,
    Config.maxGradient, Config.maxSpeed]
  omega

/-- An accepted PROFILE_WRITE keeps the order of the segments and their ranges (R1, R5, R6). -/
theorem Profile.SegmentsGood.write {p : Profile} {index start limitUp limitDown : Nat}
    (h : p.SegmentsGood) (fits : p.WriteFits index start limitUp limitDown) (gradient : Int)
    (marker : Byte) :
    (p.write index (segmentOf start gradient limitUp limitDown marker)).SegmentsGood := by
  obtain ⟨count, sorted, first, ranges⟩ := h
  obtain ⟨hi, hi', hs, zero, neighbourBelow, neighbourAbove, hu, hd⟩ := fits
  have below := starts_below sorted hi neighbourBelow
  have above := starts_above sorted neighbourAbove
  simp only [Profile.SegmentsGood, Profile.write, putSegment_eq _ hi]
  refine ⟨?_, ?_, ?_, ?_⟩
  · simp only [Config.maxSegments] at count ⊢
    simp; omega
  · refine List.pairwise_append.mpr ⟨sorted.take, ?_, ?_⟩
    · exact List.pairwise_cons.mpr ⟨above, sorted.drop⟩
    · intro g hg h hh
      obtain rfl | hh := List.mem_cons.mp hh
      · exact below g hg
      · exact (below g hg).trans (above h hh)
  · intro g hg
    obtain rfl | pos := Nat.eq_zero_or_pos index
    · simp at hg; simp [← hg, segmentOf, zero]
    · refine first g ?_
      cases hp : p.segments with
      | nil => simp [hp] at hi; omega
      | cons a rest => simpa [hp, List.head?_append, List.head?_take, pos.ne'] using hg
  · intro g hg
    obtain hg | hg := List.mem_append.mp hg
    · exact ranges g (List.mem_of_mem_take hg)
    · obtain rfl | hg := List.mem_cons.mp hg
      · exact segmentOf_inRange gradient marker hs hu hd
      · exact ranges g (List.mem_of_mem_drop hg)

/-! ### Parameters (R14, R15) -/

/-- What each parameter is after a write: the bounded value at its index, with the relation of #20 to
#19 kept there, and #20 and #4 moved by a write of #19 and of #3 (R15). -/
theorem storeParam_getD {params : List Nat} (hl : params.length = Config.paramCount)
    {index : Nat} (hi : index < Config.paramCount) (bounded j : Nat) :
    (storeParam index bounded params).getD j 0 =
      if j = index then (if index = 20 then max (params.getD 19 0) bounded else bounded)
      else if index = 19 ∧ j = 20 then max (params.getD 20 0) bounded
      else if index = 3 ∧ j = 4 then min (params.getD 4 0) bounded
      else params.getD j 0 := by
  simp only [Config.paramCount] at hl hi
  unfold storeParam
  simp only [List.getD_eq_getElem?_getD]
  grind

@[simp] theorem storeParam_length (index bounded : Nat) (params : List Nat) :
    (storeParam index bounded params).length = params.length := by
  unfold storeParam
  (repeat' split) <;> simp

/-- The range of a row of the parameter table is not empty (R208). -/
theorem paramRow_lo_le_hi {index : Nat} (hi : index < Config.paramCount) :
    (Config.paramRows.getD index ⟨0, 0, 0⟩).lo ≤ (Config.paramRows.getD index ⟨0, 0, 0⟩).hi := by
  have rows : ∀ i ∈ List.range Config.paramCount, (Config.paramRows.getD i ⟨0, 0, 0⟩).lo
      ≤ (Config.paramRows.getD i ⟨0, 0, 0⟩).hi := by decide
  exact rows index (List.mem_range.mpr hi)

/-- A bounded value lies in its parameter's range, #4 up to the car length (R14). -/
theorem boundParam_bounds {params : List Nat} {index : Nat} (value : Nat)
    (hi : index < Config.paramCount) :
    (Config.paramRows.getD index ⟨0, 0, 0⟩).lo ≤ boundParam params index value
      ∧ (index ≠ 4 → boundParam params index value ≤ (Config.paramRows.getD index ⟨0, 0, 0⟩).hi)
      ∧ (index = 4 → boundParam params index value ≤ params.getD 3 0) := by
  have range := paramRow_lo_le_hi hi
  refine ⟨le_max_left _ _, fun hne => ?_, ?_⟩
  · simp only [boundParam, if_neg hne]; omega
  · rintro rfl
    exact max_le (Nat.zero_le _) (min_le_right _ _)

/-- An accepted CONFIG_WRITE keeps the ranges of the parameters and their relations (R14, R15). -/
theorem Profile.ParamsGood.configure {p : Profile} {index : Nat} (h : p.ParamsGood) (value : Nat)
    (hi : index < Config.paramCount) :
    { p with params := storeParam index (boundParam p.params index value) p.params }.ParamsGood := by
  obtain ⟨count, ranges, offset, margins⟩ := h
  obtain ⟨lower, upper, upperOffset⟩ := boundParam_bounds (params := p.params) value hi
  have range20 := ranges 20 (by decide)
  have row19 : Config.paramRows.getD 19 ⟨0, 0, 0⟩ = ⟨0, 200, 30⟩ := rfl
  have row20 : Config.paramRows.getD 20 ⟨0, 0, 0⟩ = ⟨0, 200, 60⟩ := rfl
  have row4 : Config.paramRows.getD 4 ⟨0, 0, 0⟩ = ⟨0, 480, 0⟩ := rfl
  generalize boundParam p.params index value = bounded at *
  refine ⟨by simpa using count, fun j hj => ?_, ?_, ?_⟩
  all_goals simp only [storeParam_getD count hi]
  · have rangeJ := ranges j hj
    grind
  · grind
  · grind

/-! ### The store at every move -/

/-- Every move of the store keeps it good (R1, R3, R4, R11, R14, R15, R17). -/
theorem ProfileMove.good {p q : Profile} (h : ProfileMove p q) (hp : p.Good) : q.Good := by
  obtain ⟨segments, lineEnd, levels, params⟩ := hp
  cases h with
  | kept => exact ⟨segments, lineEnd, levels, params⟩
  | written gradient marker h =>
    obtain ⟨hl, fits⟩ := Profile.writeRefusal_eq_none_iff.mp h
    exact ⟨segments.write fits gradient marker, ⟨by simp [Profile.write], nofun⟩,
      ⟨nofun, fun hn => absurd hl hn⟩, params⟩
  | closed h =>
    obtain ⟨-, upper, last⟩ := Profile.closeRefusal_eq_none_iff.mp h
    refine ⟨segments, ⟨by simp, ?_⟩, ⟨nofun, fun _ => rfl⟩, params⟩
    rintro e ⟨⟩
    exact ⟨upper, last⟩
  | cleared h =>
    exact ⟨⟨Nat.zero_le _, .nil, nofun, nofun⟩, ⟨by simp, nofun⟩,
      ⟨nofun, fun hn => absurd h hn⟩, params⟩
  | profileLocked h hv => exact ⟨segments, lineEnd, ⟨levels.1, fun _ => hv⟩, params⟩
  | configLocked h =>
    exact ⟨segments, lineEnd, ⟨levels.1, fun _ => levels.2 (by simp [h])⟩, params⟩
  | configured value hi h => exact ⟨segments, lineEnd, levels, params.configure value hi⟩

/-- The power-on values of the store are good (R4, R11, R17, R208). -/
theorem reset_profile_good : State.reset.profile.Good := by decide

/-- Settles O4: a reset brings the power-on values, and every other command is a move of the store. -/
theorem profileStaysGood : Obligations.ProfileStaysGood := by
  intro s t hs good
  unfold step at hs
  split at hs
  · cases hs; exact good
  · next c rest _ =>
    by_cases hr : (s.withPending rest).Resets c
    · rw [exec_resets_profile hr hs]; exact reset_profile_good
    · exact (exec_moves hr t hs).good good

end Sys2Proof.Machine
end

section
/-! The commands that load and lock the profile, where the port takes them: PROFILE_WRITE,
PROFILE_CLOSE, PROFILE_CLEAR and LOCK_RAISE (R5 to R8, R17, R18, R116). -/

namespace Sys2Proof.Machine

/-! ### Requests that the port takes -/

/-- A request that the port takes is what taking it does. -/
theorem hostRequest_taken {code : Byte} {params : List Byte} {s : State} (taken : Result)
    (h : s.resetHeld = false ∧ s.port.Takes (requestFrame code params) true) :
    hostRequest code params s taken = taken :=
  takeSelection_taken taken h.1 h.2

/-! ### PROFILE_WRITE, PROFILE_CLOSE and PROFILE_CLEAR -/

theorem exec_profileWrite_taken {index : Byte} {start : U24} {gradient limitUp limitDown : U16}
    {marker : Byte} {s : State}
    (h : s.Takes (.profileWrite index start gradient limitUp limitDown marker)) :
    exec (.profileWrite index start gradient limitUp limitDown marker) s = .next (
      if s.profile.lock ≠ .levelOpen then
        s.answers (.profileWrite index start gradient limitUp limitDown marker) .locked []
      else if s.profile.WriteFits index.toNat start.toNat limitUp.toNat limitDown.toNat then
        ({ s with profile := { s.profile with
            segments := s.profile.segments.take index.toNat
              ++ segmentOf start.toNat gradient.toInt limitUp.toNat limitDown.toNat marker
                :: s.profile.segments.drop (index.toNat + 1)
            lineEnd := none, state := .loading } }).answers
          (.profileWrite index start gradient limitUp limitDown marker)
          (if 1023 < limitUp.toNat ∨ 1023 < limitDown.toNat then .okClamped else .ok) []
      else s.answers (.profileWrite index start gradient limitUp limitDown marker) .badValue []) := by
  refine (hostRequest_taken _ h).trans ?_
  rw [Profile.writeRefusal_eq]
  by_cases locked : s.profile.lock ≠ .levelOpen
  · simp only [if_pos locked]; rfl
  · by_cases fits : s.profile.WriteFits index.toNat start.toNat limitUp.toNat limitDown.toNat
    · simp only [if_neg locked, if_pos fits, Profile.write, putSegment_eq _ fits.1,
        decide_eq_true_eq]
      rfl
    · simp only [if_neg locked, if_neg fits]; rfl

theorem exec_profileClose_taken {lineEnd : U24} {s : State} (h : s.Takes (.profileClose lineEnd)) :
    exec (.profileClose lineEnd) s = .next (
      if s.profile.lock ≠ .levelOpen then s.answers (.profileClose lineEnd) .locked []
      else if s.profile.segments = [] then s.answers (.profileClose lineEnd) .wrongState []
      else if (s.profile.segments.getLast?).all (fun g => decide (g.start < lineEnd.toNat)) = true
          ∧ lineEnd.toNat ≤ 400000 then
        ({ s with profile := { s.profile with
            lineEnd := some lineEnd.toNat, state := .valid } }).answers (.profileClose lineEnd) .ok []
      else s.answers (.profileClose lineEnd) .badValue []) := by
  refine (hostRequest_taken _ h).trans ?_
  rw [Profile.closeRefusal_eq]
  by_cases locked : s.profile.lock ≠ .levelOpen
  · simp only [if_pos locked]; rfl
  · by_cases empty : s.profile.segments = []
    · simp only [if_neg locked, if_pos empty]; rfl
    · by_cases fits : (s.profile.segments.getLast?).all (fun g => decide (g.start < lineEnd.toNat))
          = true ∧ lineEnd.toNat ≤ 400000
      · simp only [if_neg locked, if_neg empty, if_pos fits]; rfl
      · simp only [if_neg locked, if_neg empty, if_neg fits]; rfl

theorem exec_profileClear_taken {s : State} (h : s.Takes .profileClear) :
    exec .profileClear s = .next (
      if s.profile.lock = .levelOpen then
        ({ s with profile := { s.profile with
            segments := [], lineEnd := none, state := .loading } }).answers .profileClear .ok []
      else s.answers .profileClear .locked []) := by
  refine (hostRequest_taken _ h).trans ?_
  rw [ite_not]
  split <;> rfl

/-- Settles O25, command by command. -/
theorem profileCommandsLoadTheStore : Obligations.ProfileCommandsLoadTheStore := by
  refine ⟨?_, ?_, ?_⟩
  · intro index start gradient limitUp limitDown marker s i h
    have marked : decide (marker ≠ 0) = (marker != 0) := Bool.eq_iff_iff.mpr (by simp)
    exact (exec_profileWrite_taken h).trans (by rw [marked]; rfl)
  · exact fun lineEnd s h => exec_profileClose_taken h
  · exact fun s h => exec_profileClear_taken h

/-! ### LOCK_RAISE -/

/-- A full supervisor demand is the merged demand, whatever the other terms are (R122). -/
theorem Brake.merged_of_full {b : Brake} (level : b.supDemand.level = 100) (host : b.hostLevel ≤ 100)
    (floor : b.floor ≤ 100) : b.merged = 100 := by
  have hostTerm : b.hostTerm ≤ 100 := by unfold Brake.hostTerm; split <;> omega
  have lineTerm : b.lineTerm ≤ 100 := by unfold Brake.lineTerm; split <;> omega
  have floorTerm : b.floorTerm ≤ 100 := by unfold Brake.floorTerm; split <;> omega
  unfold Brake.merged
  omega

/-- SERVICE that stands at the merged demand with the ramp timer stopped stays there (R123). -/
theorem Brake.driveService_of_met {b : Brake} (armed : b.unit = .armed) (met : b.service = b.merged)
    (ramp : b.ramp = none) : b.driveService = b := by
  have kept : b.driveService = { b with ramp := none } := by simp [Brake.driveService, armed, met]
  rw [kept, ← ramp]

/-- Outputs that are as their conditions form them are re-formed to themselves. -/
theorem Brake.reform_of_formed {b : Brake} (formed : b.SwitchesFormed) (service : b.driveService = b)
    (applyTime : Nat) : b.reform applyTime = b := by
  obtain ⟨loop, band⟩ := formed
  have loopKept : b.driveLoop b.loopWanted = b := by simp [Brake.driveLoop, ← loop]
  have bandKept : b.driveBand applyTime b.bandWanted = b := by simp [Brake.driveBand, ← band]
  unfold Brake.reform
  rw [loopKept, bandKept, service]

/-- Arming a good unit that is SAFE, with EMERGENCY kept, moves the unit state alone: LOOP and BAND stay
de-energized, and SERVICE stays at 100 % (R116, R119, R123, R125). -/
theorem Brake.arm_eq {b : Brake} (good : b.Good) (safe : b.unit = .safe)
    (emergency : b.supState = .emergency) (applyTime : Nat) :
    b.arm applyTime = { b with unit := .armed } := by
  obtain ⟨⟨loop, band⟩, ⟨-, full, -⟩, host, demand, floor, -⟩ := good
  obtain ⟨service, ramp⟩ := full safe
  replace loop : b.loop = false := by rw [loop, Brake.loopWanted, safe]; rfl
  replace band : b.band = false := by rw [band, Brake.bandWanted, safe]; rfl
  have level : b.supDemand.level = 100 := by rw [demand, emergency]; rfl
  have merged : ({ b with unit := .armed } : Brake).merged = 100 :=
    Brake.merged_of_full level host floor
  refine Brake.reform_of_formed ⟨?_, ?_⟩ ?_ applyTime
  · simp [Brake.loopWanted, loop, emergency]
  · simp [Brake.bandWanted, band, emergency]
  · exact Brake.driveService_of_met rfl (service.trans merged.symm) ramp

/-- Settles O26: a good unit below CONFIG_LOCKED is SAFE in EMERGENCY, so that arming it moves nothing
else. -/
theorem lockRaiseArmsWithoutRelease : Obligations.LockRaiseArmsWithoutRelease := by
  intro s h
  refine ⟨fun level => ?_, fun level => ?_, fun level good => ?_⟩
  all_goals refine (hostRequest_taken _ h).trans ?_; simp only [level]
  · split <;> rfl
  · rfl
  · obtain ⟨unit, supState, -, -, -, -, -, -, -, -, -, -, -, -, -, emergency⟩ := good.agree
    have safe : s.brake.unit = .safe := by
      cases hu : s.brake.unit with
      | safe => rfl
      | armed => simp [level] at unit; exact absurd hu unit
    have arm := Brake.arm_eq good.brake safe (supState.trans (emergency safe))
    simp only [State.onBrake, arm]
    rfl

end Sys2Proof.Machine
end

section
/-! CONFIG_WRITE where the port takes it: the bounds, the related parameters and the report timer
(R13 to R15, R187). -/

namespace Sys2Proof.Machine

/-! ### CONFIG_WRITE -/

/-- The parameter set after a write, parameter by parameter. -/
theorem storeParam_eq_map {params : List Nat} (hl : params.length = 34) {index : Nat}
    (hi : index < 34) (bounded : Nat) :
    storeParam index bounded params = (List.range 34).map fun j =>
      if j = index then (if index = 20 then max bounded (params.getD 19 0) else bounded)
      else if j = 20 ∧ index = 19 then max (params.getD 20 0) bounded
      else if j = 4 ∧ index = 3 then min (params.getD 4 0) bounded
      else params.getD j 0 := by
  refine List.ext_getElem (by simp [hl]) fun j hj _ => ?_
  have reading := storeParam_getD hl hi bounded j
  simp only [List.getD_eq_getElem _ _ hj] at reading
  simp only [reading, List.getElem_map, List.getElem_range, max_comm bounded, and_comm]

/-- Storing a value in a list changes it exactly where another value stands. -/
theorem list_set_eq_self_iff {l : List Nat} {i : Nat} (hi : i < l.length) (v : Nat) :
    l.set i v = l ↔ l.getD i 0 = v := by
  rw [List.getD_eq_getElem _ _ hi]
  constructor
  · intro h; simpa using List.getElem_of_eq h.symm hi
  · rintro rfl; exact List.set_getElem_self hi

/-- An accepted write is clamped when the value is bounded, or when the write of #19 or #3 moves the
parameter that is related to it (R13, R15). -/
theorem paramClamped_iff {params : List Nat} (hl : params.length = 34) {index : Nat}
    (hi : index < 34) (value bounded : Nat) :
    paramClamped index value params (storeParam index bounded params) = true ↔
      (if index = 20 then max bounded (params.getD 19 0) else bounded) ≠ value
        ∨ (index = 19 ∧ params.getD 20 0 < bounded) ∨ (index = 3 ∧ bounded < params.getD 4 0) := by
  have stored := storeParam_getD hl hi bounded index
  simp only [if_true, max_comm _ bounded] at stored
  simp only [paramClamped, stored, Bool.or_eq_true, decide_eq_true_eq]
  refine or_congr Iff.rfl ?_
  by_cases h19 : index = 19
  · subst h19
    have moved := list_set_eq_self_iff (l := params.set 19 bounded) (i := 20) (by simp [hl])
      (max (params.getD 20 0) bounded)
    have kept : (params.set 19 bounded).getD 20 0 = params.getD 20 0 := by simp
    have after : storeParam 19 bounded params
        = (params.set 19 bounded).set 20 (max (params.getD 20 0) bounded) := rfl
    rw [after, if_neg (by decide), ne_eq, moved, kept]
    omega
  · by_cases h3 : index = 3
    · subst h3
      have moved := list_set_eq_self_iff (l := params.set 3 bounded) (i := 4) (by simp [hl])
        (min (params.getD 4 0) bounded)
      have kept : (params.set 3 bounded).getD 4 0 = params.getD 4 0 := by simp
      have after : storeParam 3 bounded params
          = (params.set 3 bounded).set 4 (min (params.getD 4 0) bounded) := rfl
      rw [after, if_neg (by decide), ne_eq, moved, kept]
      omega
    · by_cases h20 : index = 20 <;> simp [storeParam, h19, h3, h20, max_comm]

/-- A CONFIG_WRITE that the lock or the mode refuses changes nothing but the port (R13). -/
theorem exec_configWrite_refused {index : Byte} {value : U24} {s : State}
    (h : s.Takes (.configWrite index value)) (hi : index.toNat < 34) {refusal : Status}
    (refused : s.configRefusal index.toNat = some refusal) :
    exec (.configWrite index value) s
      = .next (s.answers (.configWrite index value) refusal []) := by
  refine (hostRequest_taken _ h).trans ?_
  have known : ¬Config.paramCount ≤ index.toNat := not_le.mpr hi
  simp only [if_neg known, refused]
  rfl

/-- An accepted CONFIG_WRITE stores the parameters and, at #32, judges the report timer (R13 to R15,
R187). -/
theorem exec_configWrite_accepted {index : Byte} {value : U24} {s : State}
    (h : s.Takes (.configWrite index value)) (hi : index.toNat < 34)
    (accepted : s.configRefusal index.toNat = none) {after : List Nat}
    (ha : storeParam index.toNat (boundParam s.profile.params index.toNat value.toNat)
      s.profile.params = after) :
    exec (.configWrite index value) s = .next (
      ({ s with
          profile := { s.profile with params := after }
          radio := { s.radio with reportTimer := if index.toNat = 32 then
              reportTimerAfterWrite (s.param 32) (after.getD 32 0) s.radio.reportTimer
            else s.radio.reportTimer } }).answers (.configWrite index value)
        (if paramClamped index.toNat value.toNat s.profile.params after then .okClamped else .ok)
        []) := by
  subst ha
  refine (hostRequest_taken _ h).trans ?_
  have known : ¬Config.paramCount ≤ index.toNat := not_le.mpr hi
  simp only [if_neg known, accepted]
  by_cases report : index.toNat = 32
  · simp only [if_pos report]; rfl
  · simp only [if_neg report]; rfl

/-- Settles O27: the three checks in order, and then the stored set, its status and the timer. -/
theorem configWriteBoundsAndRelates : Obligations.ConfigWriteBoundsAndRelates := by
  intro index value s hl i h k row bounded stored after timer adjusted
  by_cases unknown : 33 < k
  · rw [if_pos unknown]
    exact (hostRequest_taken _ h).trans (if_pos unknown)
  have hi : k < 34 := by omega
  have refusal : s.configRefusal k =
      if s.profile.lock = .configLocked ∧ k ≠ 32 then some .locked
      else if k ≤ 2 ∧ s.radio.current ≠ .config then some .wrongMode
      else none := rfl
  rw [if_neg unknown]
  by_cases locked : s.profile.lock = .configLocked ∧ k ≠ 32
  · rw [if_pos locked] at refusal ⊢
    exact exec_configWrite_refused h hi refusal
  rw [if_neg locked] at refusal ⊢
  by_cases wrongMode : k ≤ 2 ∧ s.radio.current ≠ .config
  · rw [if_pos wrongMode] at refusal ⊢
    exact exec_configWrite_refused h hi refusal
  rw [if_neg wrongMode] at refusal ⊢
  have ha : storeParam k bounded s.profile.params = after := storeParam_eq_map hl hi bounded
  have hs : k = 32 → after.getD 32 0 = stored := by
    intro report
    rw [← ha, storeParam_getD hl hi, if_pos report.symm, max_comm]; rfl
  have clamped : paramClamped k value.toNat s.profile.params after = true
      ↔ stored ≠ value.toNat ∨ adjusted := ha ▸ paramClamped_iff hl hi value.toNat bounded
  have ht : (if index.toNat = 32 then
      reportTimerAfterWrite (s.param 32) (after.getD 32 0) s.radio.reportTimer
      else s.radio.reportTimer) = timer := by
    by_cases report : k = 32
    · rw [if_pos report, hs report]
      exact (if_neg (not_not.mpr report)).symm
    · rw [if_neg report]
      exact (if_pos report).symm
  refine (exec_configWrite_accepted h hi refusal ha).trans ?_
  rw [ht, if_congr clamped rfl rfl]

end Sys2Proof.Machine
end

section
/-! The requests that read the store and the restriction table, where the port takes them (R9, R12,
R61, R62, R64 to R66, R205). -/

namespace Sys2Proof.Machine

/-! ### The live records -/

/-- A record is live in a slot exactly when the slot holds it (R41). -/
theorem Table.mem_live {t : Table} {slot : Nat} {r : Record} :
    (slot, r) ∈ t.live ↔ t.slots[slot]? = some (some r) := by
  simp only [Table.live, List.mem_filterMap, Option.map_eq_some_iff, Prod.exists, Prod.mk.injEq]
  constructor
  · rintro ⟨o, k, hmem, r', rfl, rfl, rfl⟩
    exact List.mem_zipIdx_iff_getElem?.mp hmem
  · intro h
    exact ⟨some r, slot, List.mem_zipIdx_iff_getElem?.mpr h, r, rfl, rfl, rfl⟩

/-- The live records without their slots. -/
theorem Table.live_map_snd (t : Table) : t.live.map Prod.snd = t.records := by
  have content : (fun x : Option Record × Nat => (x.1.map fun r => (x.2, r)).map Prod.snd)
      = id ∘ Prod.fst := by
    funext x; simp [Function.comp_def]
  rw [Table.live, List.map_filterMap, content, ← List.filterMap_map, List.zipIdx_map_fst]

/-! ### PROFILE_READ and CONFIG_READ -/

theorem exec_profileRead_segment {k : Byte} {s : State} (h : s.Takes (.profileRead k)) {g : Segment}
    (held : s.profile.segments[k.toNat]? = some g) :
    exec (.profileRead k) s = .next (s.answers (.profileRead k) .ok (s.profile.summary ++ g.item k)) := by
  refine (hostRequest_taken _ h).trans ?_
  simp only [held]
  rfl

theorem exec_profileRead_summary {k : Byte} {s : State} (h : s.Takes (.profileRead k))
    (absent : s.profile.segments[k.toNat]? = none) :
    exec (.profileRead k) s = .next (s.answers (.profileRead k) .ok s.profile.summary) := by
  refine (hostRequest_taken _ h).trans ?_
  simp only [absent, List.append_nil]
  rfl

/-- A write would pass the lock and mode checks: not at CONFIG_LOCKED but for #32, and #0 to #2 only in
CONFIG (R12, R13). -/
theorem State.configRefusal_isNone (s : State) (index : Nat) :
    (s.configRefusal index).isNone = decide ((s.profile.lock = .configLocked → index = 32)
      ∧ (index ≤ 2 → s.radio.current = .config)) := by
  unfold State.configRefusal
  by_cases locked : s.profile.lock = .configLocked ∧ index ≠ 32
  · simp [locked]
  · by_cases wrongMode : index ≤ 2 ∧ s.radio.current ≠ .config
    · simp [locked, wrongMode]
    · simp only [locked, wrongMode, if_false]; grind

theorem exec_configRead_taken {k : Byte} {s : State} (h : s.Takes (.configRead k)) :
    exec (.configRead k) s = .next (
      if 33 < k.toNat then s.answers (.configRead k) .badValue []
      else s.answers (.configRead k) .ok
        (u24 (s.param k.toNat) ++ bool (s.configRefusal k.toNat).isNone)) := by
  refine (hostRequest_taken _ h).trans ?_
  by_cases unknown : 33 < k.toNat
  · rw [if_pos unknown]; exact if_pos unknown
  · rw [if_neg unknown]; exact if_neg unknown

/-! ### RECORD_READ, RECORD_FIND and TABLE_LIST -/

theorem exec_recordRead_unknown {k : Byte} {s : State} (h : s.Takes (.recordRead k))
    (unknown : 31 < k.toNat) :
    exec (.recordRead k) s = .next (s.answers (.recordRead k) .badValue []) :=
  (hostRequest_taken _ h).trans (if_pos unknown)

/-- A slot number's byte is the number sent for it. -/
theorem u8_toNat (k : Byte) : u8 k.toNat = [k] := by simp [u8]

theorem exec_recordRead_empty {k : Byte} {s : State} (h : s.Takes (.recordRead k))
    (known : k.toNat ≤ 31) (free : s.table.get k.toNat = none) :
    exec (.recordRead k) s = .next (s.answers (.recordRead k) .empty []) := by
  have inTable : ¬Config.slotCount ≤ k.toNat := by simp only [Config.slotCount]; omega
  refine (hostRequest_taken _ h).trans ?_
  simp only [if_neg inTable, free]
  rfl

theorem exec_recordRead_live {k : Byte} {s : State} (h : s.Takes (.recordRead k))
    (known : k.toNat ≤ 31) {r : Record} (live : s.table.get k.toNat = some r) :
    exec (.recordRead k) s
      = .next (s.answers (.recordRead k) .ok (s.recordItem k.toNat r)) := by
  have inTable : ¬Config.slotCount ≤ k.toNat := by simp only [Config.slotCount]; omega
  refine (hostRequest_taken _ h).trans ?_
  simp only [if_neg inTable, live]
  rfl

theorem exec_recordFind_found {origin : Byte} {number : U16} {s : State}
    (h : s.Takes (.recordFind origin number)) {o : Origin} (ho : originOfCode origin = some o)
    {slot : Nat} (found : s.table.find o number.toNat = some slot) :
    exec (.recordFind origin number) s
      = .next (s.answers (.recordFind origin number) .ok (u8 slot)) := by
  refine (hostRequest_taken _ h).trans ?_
  simp only [ho, found]
  rfl

theorem exec_recordFind_missing {origin : Byte} {number : U16} {s : State}
    (h : s.Takes (.recordFind origin number)) {o : Origin} (ho : originOfCode origin = some o)
    (missing : s.table.find o number.toNat = none) :
    exec (.recordFind origin number) s
      = .next (s.answers (.recordFind origin number) .notFound []) := by
  refine (hostRequest_taken _ h).trans ?_
  simp only [ho, missing]
  rfl

theorem exec_recordFind_unknown {origin : Byte} {number : U16} {s : State}
    (h : s.Takes (.recordFind origin number)) (unknown : 16 ≤ origin.toNat) :
    exec (.recordFind origin number) s
      = .next (s.answers (.recordFind origin number) .badValue []) := by
  have ho : originOfCode origin = none := by
    unfold originOfCode
    rw [if_neg (by omega), if_neg (by omega)]
  refine (hostRequest_taken _ h).trans ?_
  simp only [ho]
  rfl

/-- The number of the live records (R41, R66). -/
theorem Table.count_eq (t : Table) : t.count = t.records.length := by
  rw [← t.live_map_snd, List.length_map]; rfl

theorem exec_tableList_taken {s : State} (h : s.Takes .tableList) :
    exec .tableList s = .next (s.answers .tableList .ok s.table.listing) :=
  hostRequest_taken _ h

theorem replacedBytes_none : replacedBytes none = [0, 0, 0] := by decide

/-- A STATION-origin DOORS record is suspended while the link is lost (R61). -/
theorem State.suspended_eq (s : State) (r : Record) : s.suspended r
    = decide (r.imposes.kind = .doors ∧ r.origin ≠ .vehicle ∧ s.radio.link = .lost) := by
  rw [Bool.eq_iff_iff]
  simp [State.suspended, and_assoc]

/-- Settles O28: the codes, and then each reading request in each of its cases. -/
theorem readsAnswerAndChangeNothing : Obligations.ReadsAnswerAndChangeNothing := by
  refine ⟨⟨rfl, rfl, rfl, rfl, rfl, ⟨rfl, fun _ => rfl⟩, fun _ => rfl, ?_⟩, ?_⟩
  · rintro ⟨event, slot, kind, origin, number, replaced⟩
    cases replaced with
    | none => simp only [Notice.item, replacedBytes_none]; cases event <;> rfl
    | some q => cases event <;> rfl
  intro k origin number s p summary
  refine ⟨?_, exec_profileRead_summary, ?_, exec_recordRead_unknown, exec_recordRead_empty, ?_,
    exec_recordFind_unknown, ?_, ?_⟩
  · intro g h held
    refine (exec_profileRead_segment h held).trans ?_
    simp only [Segment.item, Profile.summary, List.append_assoc]
    rfl
  · intro h
    rw [exec_configRead_taken h, State.configRefusal_isNone]
  · intro r h known live
    rw [exec_recordRead_live h known live, State.recordItem, u8_toNat, State.suspended_eq]
    cases r.imposes <;> rfl
  · intro o h ho
    cases found : s.table.find o number.toNat with
    | none => exact exec_recordFind_missing h ho found
    | some slot => exact exec_recordFind_found h ho found
  · intro h
    rw [exec_tableList_taken h, Table.listing, Table.count_eq]
    rfl

end Sys2Proof.Machine
end

section
/-! What the profile store serves to its readers, and the terms of the ceiling at the car (R2, R10,
R43, R78, R79, R81). -/

namespace Sys2Proof.Machine

/-! ### What the store serves (R2, R10) -/

@[simp] theorem withEnds_length (lineEnd : Nat) (segments : List Segment) :
    (withEnds lineEnd segments).length = segments.length := by
  induction segments using withEnds.induct <;> simp_all [withEnds]

/-- A segment ends where the next one starts, and the last one at the line end (R2). -/
theorem withEnds_getElem? (lineEnd : Nat) (segments : List Segment) (k : Nat) :
    (withEnds lineEnd segments)[k]? = segments[k]?.map fun g =>
      (g, ((segments[k + 1]?).map Segment.start).getD lineEnd) := by
  induction segments using withEnds.induct generalizing k with
  | case1 => simp [withEnds]
  | case2 g => cases k <;> simp [withEnds]
  | case3 g h rest ih =>
    cases k with
    | zero => simp [withEnds]
    | succ k => simpa [withEnds] using ih k

/-- A VALID profile serves its segments with their ends. -/
theorem Profile.track_of_valid {p : Profile} {lineEnd : Nat} (valid : p.state = .valid)
    (closed : p.lineEnd = some lineEnd) : p.track = withEnds lineEnd p.segments := by
  simp only [Profile.track, valid, closed]

theorem Profile.servedLineEnd_of_valid {p : Profile} (valid : p.state = .valid) :
    p.servedLineEnd = p.lineEnd := by
  simp only [Profile.servedLineEnd, valid]

/-- A profile that is not VALID serves nothing (R10). -/
theorem Profile.track_of_not_valid {p : Profile} (h : p.state ≠ .valid) : p.track = [] := by
  unfold Profile.track
  split
  · next valid _ => exact absurd valid h
  · rfl

theorem Profile.servedLineEnd_of_not_valid {p : Profile} (h : p.state ≠ .valid) :
    p.servedLineEnd = none := by
  unfold Profile.servedLineEnd
  split
  · next valid => exact absurd valid h
  · rfl

/-- The marker positions are the starts of the segments with a marker (R10). -/
theorem Profile.mem_markers {p : Profile} {m : Nat} :
    m ∈ p.markers ↔ ∃ g e, (g, e) ∈ p.track ∧ g.marker = true ∧ g.start = m := by
  simp [Profile.markers, and_assoc]

/-! ### The ceiling at the car (R78 to R81) -/

/-- The lowest of a list and a first value is one of them, and none is below it. -/
theorem foldl_min_mem_and_le (l : List Nat) (a : Nat) :
    l.foldl min a ∈ a :: l ∧ ∀ b ∈ a :: l, l.foldl min a ≤ b :=
  List.min?_eq_some_iff.mp List.min?_cons'

theorem State.mem_staticLimits {s : State} {dir : Dir} {v : Nat} :
    v ∈ s.staticLimits dir ↔ ∃ g e, (g, e) ∈ s.profile.track
      ∧ g.start ≤ s.odo.position + s.param 3 ∧ s.odo.position < e ∧ v = g.limit dir := by
  simp only [State.staticLimits, overlapsSpan, State.carLength, List.mem_map, List.mem_filter,
    Bool.and_eq_true, decide_eq_true_eq, Prod.exists, and_assoc, @eq_comm Nat v]

/-- A SPEED record limits the car when it applies and overlaps the car (R43, R79). -/
theorem State.recordLimit_eq_some {s : State} {dir : Dir} {r : Record} {v : Nat} :
    s.recordLimit dir r = some v ↔ r.imposes = .speed v ∧ r.dir.appliesTo dir = true
      ∧ s.odo.position ≤ r.last ∧ r.first ≤ s.odo.position + s.param 3 := by
  unfold State.recordLimit
  cases r.imposes with
  | speed limit =>
    have length : s.carLength = s.param 3 := rfl
    simp only [Record.overlapsCar, Option.ite_none_right_eq_some,
      Bool.and_eq_true, decide_eq_true_eq, Option.some.injEq, Imposes.speed.injEq, length]
    tauto
  | stop => simp
  | doors => simp

/-- What every live record gives, slot by slot, is what the records give. -/
theorem Table.live_filterMap {α : Type} (t : Table) (f : Record → Option α) :
    t.live.filterMap (fun x => f x.2) = t.records.filterMap f := by
  rw [← t.live_map_snd, List.filterMap_map]; rfl

/-- The fallback speed holds by a fallback cause, or beyond the line end in a full evaluation (R78,
R81). -/
theorem State.fallback_iff (s : State) :
    (s.fallbackCause || s.beyondLineEnd) = true ↔
      (s.radio.link = .lost ∧ s.param 33 = 1) ∨ s.table.lossLatch = true
        ∨ s.odo.positionValid = false ∨ s.profile.state ≠ .valid
        ∨ ∃ e, s.profile.lineEnd = some e ∧ e < s.odo.position + s.param 3 := by
  by_cases valid : s.profile.state = .valid
  · have beyond : s.beyondLineEnd = true ↔ s.odo.positionValid = true
        ∧ ∃ e, s.profile.lineEnd = some e ∧ e < s.odo.position + s.param 3 := by
      rw [State.beyondLineEnd, Profile.servedLineEnd_of_valid valid]
      have length : s.carLength = s.param 3 := rfl
      cases s.profile.lineEnd <;> simp [State.degraded, valid, length]
    simp only [State.fallbackCause, Bool.or_eq_true, Bool.and_eq_true, beq_iff_eq, bne_iff_ne,
      Bool.not_eq_true', beyond]
    grind
  · simp [State.fallbackCause, valid]

theorem State.mem_ceilingTerms {s : State} {dir : Dir} {v : Nat} :
    v ∈ s.ceilingTerms dir ↔
      (∃ g e, (g, e) ∈ s.profile.track ∧ g.start ≤ s.odo.position + s.param 3
        ∧ s.odo.position < e ∧ v = g.limit dir)
      ∨ (∃ r ∈ s.table.records, r.imposes = .speed v ∧ r.dir.appliesTo dir = true
        ∧ s.odo.position ≤ r.last ∧ r.first ≤ s.odo.position + s.param 3)
      ∨ (v = s.param 22 ∧ (s.fallbackCause || s.beyondLineEnd) = true) := by
  simp only [State.ceilingTerms, List.mem_append, State.mem_staticLimits, Table.live_filterMap,
    List.mem_filterMap, State.recordLimit_eq_some, or_assoc]
  split <;> simp_all

/-- Settles O23: the ceiling is the lowest of 1023 and its terms, and those are the ones of the statement.
-/
theorem ceilingIsTheLowestLimit : Obligations.CeilingIsTheLowestLimit := by
  refine ⟨fun p => ⟨fun h => ?_, fun e valid closed => ?_, fun m => Profile.mem_markers⟩, ?_⟩
  · have track := Profile.track_of_not_valid h
    exact ⟨track, Profile.servedLineEnd_of_not_valid h, by simp [Profile.markers, track]⟩
  · rw [Profile.track_of_valid valid closed, Profile.servedLineEnd_of_valid valid]
    refine ⟨closed, withEnds_length e _, fun k g held => ?_⟩
    rw [withEnds_getElem?, held]; rfl
  · intro s dir p front static recorded fallback term
    have limit (g : Segment) : g.limit dir = if dir = .up then g.limitUp else g.limitDown := by
      cases dir <;> rfl
    have terms (v : Nat) : v ∈ 1023 :: s.ceilingTerms dir ↔ term v := by
      rw [List.mem_cons, State.mem_ceilingTerms, State.fallback_iff]
      simp only [limit]
      rfl
    obtain ⟨member, least⟩ := foldl_min_mem_and_le (s.ceilingTerms dir) 1023
    exact ⟨(terms _).mp member, fun v hv => least v ((terms v).mpr hv)⟩

end Sys2Proof.Machine
end

section
/-! The state right after power-on reset. -/

namespace Sys2Proof.Machine

/-! ### The state right after power-on reset -/

theorem reset_radio_good : State.reset.radio.Good where
  buffers := by decide
  held := by decide
  queue := by decide
  mailbox := by decide
  line := by decide
  link := by decide
  sequence := by decide

theorem reset_good : State.reset.Good where
  port := by decide
  profile := reset_profile_good
  odo := by decide
  table := by decide
  sup := by decide
  brake := by decide
  doors := by decide
  radio := reset_radio_good
  agree := by decide
  held := by decide

/-- Settles O3: every block of the reset state is written out in the model, so each is good by
evaluation. -/
theorem resetIsGood : Obligations.ResetIsGood :=
  ⟨reset_good, by decide, rfl, rfl, rfl, rfl, rfl, rfl, rfl, rfl, rfl, rfl, rfl, rfl, rfl⟩

end Sys2Proof.Machine
end

section
/-! The commands of the odometry unit but for the counted edge: the settings at standstill, the raw
changes of the inputs, the illegal step, the standstill timer and the two pulses (R19, R21, R24, R29 to
R36, R39, R40). -/

namespace Sys2Proof.Machine

/-! ### POSITION_SET and DIRECTION_SELECT -/

theorem exec_positionSet_taken {position : U24} {s : State} (h : s.Takes (.positionSet position)) :
    exec (.positionSet position) s = .next (
      if s.odo.motion = true then s.answers (.positionSet position) .moving []
      else if 400000 < position.toNat then s.answers (.positionSet position) .badValue []
      else (State.evaluate { s with odo := { s.odo with
          position := position.toNat, positionValid := true, lastCorrection := 0 } }).answers
        (.positionSet position) .ok []) := by
  refine (hostRequest_taken _ h).trans ?_
  have refusal : s.positionRefusal position.toNat =
      if s.odo.motion then some .moving else if 400000 < position.toNat then some .badValue
      else none := rfl
  rw [refusal]
  by_cases moving : s.odo.motion = true
  · simp only [if_pos moving]; rfl
  · by_cases beyond : 400000 < position.toNat
    · simp only [if_neg moving, if_pos beyond]; rfl
    · simp only [if_neg moving, if_neg beyond]; rfl

/-- The direction codes are 0 to 2 (R36, R204). -/
theorem directionOfCode_eq (b : Byte) : directionOfCode b =
    if 2 < b.toNat then none
    else some (if b.toNat = 0 then none else if b.toNat = 1 then some .up else some .down) := by
  unfold directionOfCode
  split
  · next code => simp [code]
  · next code => simp [code]
  · next code => simp [code]
  · next zero one two =>
    have beyond : 2 < b.toNat := by simp only [imp_false] at zero one two; omega
    rw [if_pos beyond]

theorem exec_directionSelect_taken {direction : Byte} {s : State}
    (h : s.Takes (.directionSelect direction)) :
    exec (.directionSelect direction) s = .next (
      if s.odo.motion = true then s.answers (.directionSelect direction) .moving []
      else if 2 < direction.toNat then s.answers (.directionSelect direction) .badValue []
      else (State.evaluate { s with odo := { s.odo with
          selected := if direction.toNat = 0 then none
            else if direction.toNat = 1 then some .up else some .down } }).answers
        (.directionSelect direction) .ok []) := by
  refine (hostRequest_taken _ h).trans ?_
  rw [directionOfCode_eq]
  by_cases moving : s.odo.motion = true
  · simp only [if_pos moving]; rfl
  · by_cases unknown : 2 < direction.toNat
    · simp only [if_neg moving, if_pos unknown]; rfl
    · simp only [if_neg moving, if_neg unknown]; rfl

/-- Settles O29, command by command. -/
theorem standstillSettingsAreEvaluated : Obligations.StandstillSettingsAreEvaluated :=
  ⟨fun _ _ h => exec_positionSet_taken h, fun _ _ h => exec_directionSelect_taken h⟩

/-! ### Faults and the pinion pair -/

/-- A fault found is latched, sets ODOMETRY_FAULT and is handed on, where its latch is clear (R39,
R107). -/
theorem State.odoFault_latched {f : OdoFault} {s : State} (h : s.odo.latched f = true) :
    s.odoFault f = s := if_pos h

theorem State.odoFault_clear {f : OdoFault} {s : State} (h : s.odo.latched f = false) :
    s.odoFault f = State.evaluate { s with
      odo := s.odo.latch f
      port := { s.port with flags := setBit s.port.flags .odometryFault }
      sup := { s.sup with causes := f.cause s.sup.causes } } :=
  if_neg (by simp [h])

/-- A pair that is as it was is no step (R19). -/
theorem decodeStep_same (p : Bool × Bool) : decodeStep p p = .noChange := by
  obtain ⟨a, b⟩ := p
  cases a <;> cases b <;> rfl

/-- A step in which both levels change is illegal (R21). -/
theorem decodeStep_both {a b a' b' : Bool} (ha : a' ≠ a) (hb : b' ≠ b) :
    decodeStep (a, b) (a', b') = .illegal := by
  obtain rfl := Bool.eq_not_of_ne ha
  obtain rfl := Bool.eq_not_of_ne hb
  cases a <;> cases b <;> rfl

theorem exec_acceptedStep {s : State} (hr : s.resetHeld = false) (a b : Bool) (now : Micros) :
    exec (.acceptedStep a b now) s = .next (s.pinionStep a b now) :=
  State.unlessReset_released _ _ hr

/-- Settles O31: the pair as it was, and the pair with both levels changed. -/
theorem illegalStepLatchesTheSensorFault : Obligations.IllegalStepLatchesTheSensorFault := by
  intro a b now s hr seen illegal
  refine ⟨?_, fun ha hb => ?_⟩
  · rintro rfl rfl
    simp only [exec_acceptedStep hr, State.pinionStep, decodeStep_same, beq_self_eq_true, if_true]
    rfl
  · have step : s.pinionStep a b now = illegal.odoFault .pinionSensor := by
      simp only [State.pinionStep, decodeStep_both ha hb, beq_eq_false_iff_ne.mpr ha,
        beq_eq_false_iff_ne.mpr hb]
      rfl
    rw [exec_acceptedStep hr, step]
    cases latched : s.odo.pinionSensor with
    | true => rw [if_pos rfl, State.odoFault_latched (f := .pinionSensor) (s := illegal) latched]
    | false =>
      rw [if_neg Bool.false_ne_true, State.odoFault_clear (f := .pinionSensor) (s := illegal) latched]
      rfl

/-! ### The forming of the outputs -/

/-- Driving LOOP writes the output and, at a change, judges agreement (R132). -/
theorem Brake.driveLoop_eq (on : Bool) (b : Brake) : b.driveLoop on = { b with
    loop := on
    loopTimer := if on = b.loop then b.loopTimer
      else if on = b.loopSense.level then none
      else some (b.loopTimer.getD Config.loopAgreementTime) } := by
  by_cases same : on = b.loop
  · subst same; simp [Brake.driveLoop]
  · simp only [Brake.driveLoop, beq_eq_false_iff_ne.mpr same, Bool.false_eq_true, if_false,
      if_neg same, Brake.judgeLoop, Brake.loopAgrees, beq_iff_eq]
    split <;> rfl

/-- Driving BAND writes the output and, at a change, drives the band apply supervision (R130). -/
theorem Brake.driveBand_eq (t : Nat) (on : Bool) (b : Brake) : b.driveBand t on = { b with
    band := on
    bandTimer := if on = b.band then b.bandTimer else if on then none
      else if b.bandSense.level then b.bandTimer else some t } := by
  by_cases same : on = b.band
  · subst same; simp [Brake.driveBand]
  · simp only [Brake.driveBand, beq_eq_false_iff_ne.mpr same, Bool.false_eq_true, if_false,
      if_neg same]
    cases on <;> rfl

/-- SERVICE of a SAFE unit is 100 % with no ramp; that of an ARMED one is never below the merged demand,
and the ramp timer runs exactly while it is above (R116, R123). -/
theorem Brake.driveService_eq (b : Brake) : b.driveService = { b with
    service := if b.unit = .safe then 100 else max b.service b.merged
    ramp := if b.unit = .armed ∧ b.merged < b.service then
        some (b.ramp.getD Config.rampPeriod)
      else none } := by
  cases unit : b.unit with
  | safe => simp [Brake.driveService, unit]
  | armed =>
    simp only [Brake.driveService, unit, reduceCtorEq, if_false, true_and]
    obtain below | met | above := lt_trichotomy b.service b.merged
    · rw [if_pos below, if_neg (by omega), max_eq_right below.le]
    · rw [if_neg (by omega), if_neg (by omega), if_neg (by omega), ← met, max_self]
    · rw [if_neg (by omega), if_pos above, if_pos above, max_eq_left above.le]

/-- The outputs as they are formed, in one update (R119, R123, R125, R130, R132). -/
theorem Brake.reform_eq (t : Nat) (b : Brake) : b.reform t = { b with
    loop := b.loopWanted
    loopTimer := if b.loopWanted = b.loop then b.loopTimer
      else if b.loopWanted = b.loopSense.level then none
      else some (b.loopTimer.getD Config.loopAgreementTime)
    band := b.bandWanted
    bandTimer := if b.bandWanted = b.band then b.bandTimer else if b.bandWanted then none
      else if b.bandSense.level then b.bandTimer else some t
    service := if b.unit = .safe then 100 else max b.service b.merged
    ramp := if b.unit = .armed ∧ b.merged < b.service then
        some (b.ramp.getD Config.rampPeriod)
      else none } := by
  rw [Brake.reform, Brake.driveService_eq, Brake.driveBand_eq, Brake.driveLoop_eq]
  rfl

@[simp] theorem Brake.reform_motion (t : Nat) (b : Brake) : (b.reform t).motion = b.motion := by
  rw [Brake.reform_eq]

@[simp] theorem Brake.reform_loopWanted (t : Nat) (b : Brake) :
    (b.reform t).loopWanted = b.loopWanted := by
  rw [Brake.reform_eq]; rfl

/-- Formed outputs are as their conditions form them. -/
theorem Brake.reform_switches (t : Nat) (b : Brake) : (b.reform t).SwitchesFormed := by
  rw [Brake.reform_eq]; exact ⟨rfl, rfl⟩

/-- SERVICE that has been formed is driven no further (R123). -/
theorem Brake.reform_driveService (t : Nat) (b : Brake) :
    (b.reform t).driveService = b.reform t := by
  have merged : (b.reform t).merged = b.merged := by rw [Brake.reform_eq]; rfl
  rw [Brake.driveService_eq, merged, Brake.reform_eq]
  cases b.unit with
  | safe => simp
  | armed => by_cases above : b.merged < b.service <;> simp [above]

/-- Outputs that have been formed are re-formed to themselves. -/
theorem Brake.reform_idem (t u : Nat) (b : Brake) : (b.reform t).reform u = b.reform t :=
  Brake.reform_of_formed (b.reform_switches t) (b.reform_driveService t) u

/-- The kept speed has no part in the forming of the outputs (R119, R123, R125). -/
theorem Brake.reform_speed (t v : Nat) (b : Brake) :
    ({ b with speed := v } : Brake).reform t = { b.reform t with speed := v } := by
  rw [Brake.reform_eq, Brake.reform_eq]; rfl

/-! ### The standstill timer -/

/-- Without MOTION a new speed starts no handover (R126). -/
theorem Brake.takeSpeed_still {b : Brake} (h : b.motion = false) (t fade overlapMs v : Nat) :
    b.takeSpeed t fade overlapMs v = { b.reform t with speed := v } := by
  have starts : b.handoverStarts fade v = false := by simp [Brake.handoverStarts, h]
  rw [Brake.takeSpeed, if_neg (by simp [starts]), Brake.reform_speed]

theorem State.enterStandstill_eq (s : State) : s.enterStandstill = { s with
    odo := s.odo.standstill
    brake := { Brake.reform (s.param 27) { s.brake with
        motion := false, hold := false, overlap := none, floor := 0 } with speed := 0 }
    doors := { s.doors with motion := false } } := by
  have still : (s.brake.takeMotion (s.param 27) false).motion = false := by
    simp [Brake.takeMotion]
  have speed := Brake.takeSpeed_still still (s.param 27) (s.param 24) (overlapTime (s.param 25)) 0
  rw [show s.brake.takeMotion (s.param 27) false = Brake.reform (s.param 27) { s.brake with
    motion := false, hold := false, overlap := none, floor := 0 } from rfl, Brake.reform_idem] at speed
  rw [← speed]
  rfl

theorem exec_standstillTimerExpiry {s : State} (hr : s.resetHeld = false) :
    exec .standstillTimerExpiry s
      = .next (if s.odo.standstillTimer.isSome then s.enterStandstill else s) :=
  State.unlessReset_released _ _ hr

/-- Settles O32: MOTION false re-forms the outputs, and the speed 0 handed after it moves none of them. -/
theorem standstillClearsTheMovement : Obligations.StandstillClearsTheMovement := by
  intro s hr
  rw [exec_standstillTimerExpiry hr, s.enterStandstill_eq]
  cases s.odo.standstillTimer <;> rfl

/-! ### The two pulses -/

theorem exec_wheelPulse {s : State} (hr : s.resetHeld = false) (level : Bool) :
    exec (.wheelPulse level) s
      = .next (if level = s.odo.wheel.level then s else s.wheelChange level) :=
  State.unlessReset_released _ _ hr

/-- Settles O33: the change to low, a window that is not full, and a full one with and without a slip
to latch. -/
theorem wheelPulseComparesTheWindow : Obligations.WheelPulseComparesTheWindow := by
  intro level s hr w slip restarted
  rw [exec_wheelPulse hr]
  congr 1
  by_cases same : level = s.odo.wheel.level
  · rw [if_pos same, if_pos same]
  rw [if_neg same, if_neg same]
  cases level with
  | false => rfl
  | true =>
    by_cases filling : w < 1000 * s.param 10
    · rw [if_neg Bool.true_eq_false.mp, if_pos filling]
      exact if_pos filling
    rw [if_neg Bool.true_eq_false.mp, if_neg filling]
    have full : s.wheelChange true
        = if slip then State.odoFault .pinionSlip { s with odo := restarted }
          else { s with odo := restarted } := by
      refine (if_neg filling).trans (if_congr ?_ rfl rfl)
      simp only [slips, decide_eq_true_eq]
      rfl
    rw [full]
    by_cases hs : slip
    · cases latched : s.odo.pinionSlip with
      | true =>
        rw [if_pos hs, if_neg (by simp)]
        exact State.odoFault_latched latched
      | false =>
        rw [if_pos hs, if_pos ⟨hs, rfl⟩]
        exact State.odoFault_clear latched
    · rw [if_neg hs, if_neg (by simp [hs])]

/-! ### The marker snap -/

/-- The segments that a VALID profile serves are its segments (R10). -/
theorem withEnds_map_fst (lineEnd : Nat) (segments : List Segment) :
    (withEnds lineEnd segments).map Prod.fst = segments := by
  induction segments using withEnds.induct <;> simp_all [withEnds]

/-- The marker positions ascend (R1, R10). -/
theorem Profile.markers_sorted {p : Profile} (h : p.SegmentsGood) : p.markers.Pairwise (· < ·) := by
  obtain ⟨-, sorted, -⟩ := h
  refine List.Pairwise.map (R := fun g h : Segment × Nat => g.1.start < h.1.start) _
    (fun _ _ h => h) (List.Pairwise.filter _ ?_)
  unfold Profile.track
  split
  · next lineEnd _ _ =>
    rw [← withEnds_map_fst lineEnd p.segments] at sorted
    exact List.pairwise_map (f := Prod.fst) |>.mp sorted
  · exact .nil

/-- Some position of a list is the nearest, unless there is none. -/
theorem nearest_eq_none {x : Nat} {l : List Nat} (h : nearest x l = none) : l = [] := by
  cases l with
  | nil => rfl
  | cons m rest =>
    unfold nearest at h
    (repeat' split at h) <;> simp at h

/-- The nearest of a list of positions is in it, none is nearer, and of those as near it is the lowest,
where the list ascends (R31). -/
theorem nearest_spec {x n : Nat} {l : List Nat} (sorted : l.Pairwise (· < ·))
    (h : nearest x l = some n) :
    n ∈ l ∧ ∀ q ∈ l, ((n : Int) - x).natAbs ≤ ((q : Int) - x).natAbs
      ∧ (((n : Int) - x).natAbs = ((q : Int) - x).natAbs → n ≤ q) := by
  induction l generalizing n with
  | nil => simp [nearest] at h
  | cons m rest ih =>
    obtain ⟨first, sorted⟩ := List.pairwise_cons.mp sorted
    cases hr : nearest x rest with
    | none =>
      obtain rfl : m = n := by simpa [nearest, hr] using h
      simp [nearest_eq_none hr]
    | some k =>
      obtain ⟨member, least⟩ := ih sorted hr
      have above := first k member
      simp only [nearest, hr] at h
      split at h
      · next near =>
        obtain rfl := Option.some.inj h
        refine ⟨List.mem_cons_self, List.forall_mem_cons.mpr ⟨⟨le_rfl, fun _ => le_rfl⟩, ?_⟩⟩
        exact fun q hq => ⟨near.trans (least q hq).1, fun _ => (first q hq).le⟩
      · next far =>
        obtain rfl := Option.some.inj h
        refine ⟨List.mem_cons_of_mem _ member, List.forall_mem_cons.mpr ⟨?_, least⟩⟩
        exact ⟨by omega, fun e => absurd e.ge far⟩

/-- A position that none of a list precedes in nearness and height is the nearest (R31). -/
theorem nearest_eq_some {x m : Nat} {l : List Nat} (sorted : l.Pairwise (· < ·)) (hm : m ∈ l)
    (least : ∀ q ∈ l, ((m : Int) - x).natAbs ≤ ((q : Int) - x).natAbs
      ∧ (((m : Int) - x).natAbs = ((q : Int) - x).natAbs → m ≤ q)) :
    nearest x l = some m := by
  cases h : nearest x l with
  | none => simp [nearest_eq_none h] at hm
  | some n =>
    obtain ⟨member, leastN⟩ := nearest_spec sorted h
    obtain ⟨near, low⟩ := least n member
    obtain ⟨nearN, lowN⟩ := leastN m hm
    have same := le_antisymm near nearN
    exact congrArg some (le_antisymm (lowN same.symm) (low same))

/-- The correction of a snap to the nearest marker (R31). -/
theorem snapCorrection_of_nearest {position offset window m : Nat} {markers : List Nat}
    (h : nearest (position + offset) markers = some m) :
    snapCorrection position offset window markers =
      if ((m : Int) - (position + offset)).natAbs ≤ window
          ∧ 0 ≤ (position : Int) + (m - (position + offset)) then
        some ((m : Int) - (position + offset))
      else none := by
  simp only [snapCorrection, h, Nat.cast_add]

theorem exec_markerPulse {s : State} (hr : s.resetHeld = false) (level : Bool) :
    exec (.markerPulse level) s
      = .next (if level = s.odo.marker.level then s else s.markerChange level) :=
  State.unlessReset_released _ _ hr

/-- Settles O34: the level that is no change, the change to low, the pulse that is ignored, and the
pulse in motion without and with a marker. -/
theorem markerPulseSnapsToTheNearest : Obligations.MarkerPulseSnapsToTheNearest := by
  intro s hr high x
  have pulse (low : s.odo.marker.level = false) : exec (.markerPulse true) s = .next high.markerPass := by
    rw [exec_markerPulse hr, if_neg (by simp [low])]; rfl
  have pass (moving : s.odo.motion = true) (valid : s.odo.positionValid = true) :
      high.markerPass = match snapCorrection s.odo.position (s.param 4) (s.param 5)
          s.profile.markers with
        | some c => State.evaluate { high with odo := { high.odo with
            position := (s.odo.position + c).toNat, lastCorrection := c } }
        | none => high.setFlag .markerMiss :=
    if_pos (by simp [high, moving, valid])
  refine ⟨fun level same => ?_, fun up => ?_, fun low still => ?_, fun low moving valid none => ?_,
    fun m hm segments low moving valid least => ?_⟩
  · rw [exec_markerPulse hr, if_pos same]
  · rw [exec_markerPulse hr, if_neg (by simp [up])]; rfl
  · rw [pulse low]
    exact congrArg _ (if_neg (by obtain still | still := still <;> simp [high, still]))
  · rw [pulse low, pass moving valid, none]; rfl
  · have near := nearest_eq_some (x := s.odo.position + s.param 4)
      (Profile.markers_sorted segments) hm (by simpa using least)
    rw [pulse low, pass moving valid, snapCorrection_of_nearest near]
    by_cases within : ((m : Int) - x).natAbs ≤ s.param 5 ∧ 0 ≤ (s.odo.position : Int) + (m - x)
    · rw [if_pos within, if_pos within]
    · rw [if_neg within, if_neg within]

/-! ### The raw changes of the filtered inputs -/

/-- A raw change times the filter, or cancels it (R19, R117, R137). -/
theorem InputLine.rawChange_eq (filterMicros : Nat) (level : Bool) (i : InputLine) :
    i.rawChange filterMicros level = if level = i.raw then i
      else ⟨level, i.level, if level = i.level then none else some filterMicros⟩ := by
  simp only [InputLine.rawChange, beq_iff_eq]

/-- An input takes a change when it is seen with filter code 0 alone (R19). -/
theorem InputLine.acceptsNow_iff {filterMicros : Nat} {level : Bool} {i : InputLine} :
    i.acceptsNow filterMicros level = true
      ↔ filterMicros = 0 ∧ level ≠ i.raw ∧ level ≠ i.level := by
  simp [InputLine.acceptsNow, and_assoc]

/-- The filter times by their code (R19). -/
theorem pinionFilterMicros_eq (code : Nat) :
    pinionFilterMicros code = [0, 2, 5, 10, 20, 50, 100, 200].getD (min code 7) 0 := by
  obtain small | large := Nat.lt_or_ge code 7
  · interval_cases code <;> rfl
  · rw [min_eq_right large]
    unfold pinionFilterMicros
    split <;> first | omega | rfl

/-- Settles O35: the four odometry inputs with the change timed and taken at once, and the inputs with
a fixed filter. -/
theorem rawChangesAreFiltered : Obligations.RawChangesAreFiltered := by
  intro level now s hr line micros atOnce o timed
  have filter : s.pinionFilter = micros := pinionFilterMicros_eq _
  have released (input : InputId) : exec (.rawInputChange input level now) s
      = execRawInputChange input level now s := rfl
  have changed (f : Nat) (i : InputLine) : i.rawChange f level = line f i :=
    InputLine.rawChange_eq f level i
  have accepts (i : InputLine) : i.acceptsNow s.pinionFilter level = true ↔ atOnce i := by
    rw [filter]; exact InputLine.acceptsNow_iff
  simp only [released, execRawInputChange, State.unlessReset_released _ _ hr, changed]
  refine ⟨fun h => ?_, fun h => ?_, fun h => ?_, fun h => ?_, fun h => ?_, fun h => ?_,
    fun h => ?_, fun h => ?_, rfl, rfl, rfl, fun id => ⟨?_, ?_, ?_, ?_, ?_⟩⟩
  · rw [if_neg (mt (accepts _).mp h), filter]; rfl
  · rw [if_neg (mt (accepts _).mp h), filter]; rfl
  · rw [if_neg (mt (accepts _).mp h), filter]; rfl
  · rw [if_neg (mt (accepts _).mp h), filter]; rfl
  · rw [if_pos ((accepts _).mpr h), exec_acceptedStep hr]
  · rw [if_pos ((accepts _).mpr h), exec_acceptedStep hr]
  · rw [if_pos ((accepts _).mpr h), exec_wheelPulse hr, if_neg h.2.2]
  · rw [if_pos ((accepts _).mpr h), exec_markerPulse hr, if_neg h.2.2]
  all_goals rfl

end Sys2Proof.Machine
end

section
/-! STATUS_READ: the coding of its items, and the six sections where the port takes the request (R40,
R114, R136, R153, R175, R192, R201, R204). -/

namespace Sys2Proof.Machine

/-! ### The coding of the items (R204) -/

/-- A negative number is sent in two's complement (R204). -/
theorem s16_eq {z : Int} (lower : -32768 ≤ z) (upper : z ≤ 32767) :
    s16 z = u16 (if z < 0 then (z + 65536).toNat else z.toNat) := by
  have code : (BitVec.ofInt 16 z).toNat = if z < 0 then (z + 65536).toNat else z.toNat := by
    rw [BitVec.toNat_ofInt]
    split <;> omega
  rw [s16, code]

/-- A word of two bytes is sent as its number (R204). -/
theorem bytes16_eq (w : U16) : bytes16 w = u16 w.toNat := by
  have high : w.extractLsb' 8 8 = BitVec.ofNat 8 (w.toNat / 256) := by
    apply BitVec.eq_of_toNat_eq; simp [Nat.shiftRight_eq_div_pow]
  have low : w.extractLsb' 0 8 = BitVec.ofNat 8 w.toNat := by
    apply BitVec.eq_of_toNat_eq; simp
  rw [bytes16, high, low]; rfl

/-- The first item listed stands at bit 0 of a mask (R204). -/
theorem maskOf_testBit (bs : List Bool) (k : Nat) : (maskOf bs).testBit k = bs.getD k false := by
  induction bs generalizing k with
  | nil => simp [maskOf]
  | cons b bs ih =>
    cases k with
    | zero => cases b <;> simp [maskOf, Nat.testBit_zero]
    | succ k =>
      have half : (b.toNat + 2 * maskOf bs) / 2 = maskOf bs := by cases b <;> simp; omega
      rw [maskOf, Nat.testBit_succ, half, ih, List.getD_cons_succ]

/-- UNLOCK is on in every state but LOCKED and LOCKING, and each drive in the state that moves its way
(R138). -/
theorem DoorState.outputMask_eq (d : DoorState) : d.outputMask =
    maskOf [decide (d ≠ .locked ∧ d ≠ .locking), decide (d = .opening), decide (d = .closing)] := by
  cases d <;> rfl

/-- The band state by its code: released 0, applying 1, applied 2 (R124, R204). -/
theorem Brake.bandCode_eq (b : Brake) : bandCode b.bandState =
    if b.band = true then 0 else if b.bandSense.level = false then 1 else 2 := by
  unfold Brake.bandState
  cases b.band <;> cases b.bandSense.level <;> rfl

/-! ### The sections (R201) -/

theorem exec_statusRead_section {sect : Byte} {s : State} (h : s.Takes (.statusRead sect))
    {data : List Byte} (held : s.sectionBytes sect.toNat = some data) :
    exec (.statusRead sect) s
      = .next ((s.afterSection sect.toNat).answers (.statusRead sect) .ok data) := by
  refine (hostRequest_taken _ h).trans ?_
  simp only [held]
  rfl

theorem exec_statusRead_unknown {sect : Byte} {s : State} (h : s.Takes (.statusRead sect))
    (unknown : s.sectionBytes sect.toNat = none) :
    exec (.statusRead sect) s = .next (s.answers (.statusRead sect) .badValue []) := by
  refine (hostRequest_taken _ h).trans ?_
  simp only [unknown]
  rfl

/-- The free-value counter stands after every section but section 2 of a SAFE unit. -/
theorem State.afterSection_eq {s : State} {n : Nat} (h : n = 2 → s.brake.unit = .armed) :
    s.afterSection n = s := by
  refine if_neg fun used => ?_
  obtain ⟨code, safe⟩ := used
  simp [h code] at safe

theorem exec_statusRead_shows {sect : Byte} {s : State} (h : s.Takes (.statusRead sect)) {n : Nat}
    (code : sect.toNat = n) (free : n = 2 → s.brake.unit = .armed) {data : List Byte}
    (held : s.sectionBytes n = some data) :
    exec (.statusRead sect) s = .next (s.answers (.statusRead sect) .ok data) := by
  subst code
  rw [exec_statusRead_section h held, State.afterSection_eq free]

/-- Settles O59: the codes, and then each section. -/
theorem statusReadShowsItsSection : Obligations.StatusReadShowsItsSection := by
  refine ⟨⟨fun _ => ⟨rfl, rfl, rfl⟩, fun z => s16_eq, bytes16_eq, fun b => by cases b <;> rfl,
    maskOf_testBit, rfl, rfl, rfl, rfl, rfl, rfl, rfl, rfl, rfl, rfl, rfl, rfl, rfl, rfl, rfl,
    fun _ => rfl⟩, ?_⟩
  intro sect s i o p c b ds r target door brakes h
  have doorItem (d : Door) : d.status = door d := by
    simp only [Door.status, DoorState.outputMask_eq]; rfl
  have brakeItems (merged : Byte) : b.status merged = brakes merged := by
    simp only [Brake.status, Brake.bandCode_eq, Brake.stored, brakes, List.append_assoc]; rfl
  refine ⟨fun unknown => ?_, fun code => ?_, fun code => ?_, fun code armed => ?_,
    fun code safe => ?_, fun code => ?_, fun code => ?_, fun code => ?_⟩
  · refine exec_statusRead_unknown h ?_
    unfold State.sectionBytes
    split <;> first | omega | rfl
  · exact exec_statusRead_shows h code nofun rfl
  · refine exec_statusRead_shows h code nofun (congrArg some ?_)
    have targetItems : governingBytes p.governing = target := by
      simp only [target]
      cases p.governing <;> rfl
    rw [Supervisor.status, targetItems]; rfl
  · refine exec_statusRead_shows h code (fun _ => armed) (congrArg some ?_)
    rw [brakeItems, State.mergedReport, armed]
  · refine ⟨s.mergedReport, ?_⟩
    have used : s.afterSection sect.toNat = { s with free := s.free + 1 } := if_pos ⟨code, safe⟩
    rw [exec_statusRead_section h (data := brakes s.mergedReport) ?_, used]
    rw [code, ← brakeItems]; rfl
  · refine exec_statusRead_shows h code nofun (congrArg some ?_)
    simp only [Doors.status, doorItem]; rfl
  · exact exec_statusRead_shows h code nofun rfl
  · refine exec_statusRead_shows h code nofun (congrArg some ?_)
    have last : lastTxBytes r.lastTx = match r.lastTx with
        | none => [0, 0, 0]
        | some x => [1] ++ u8 x.handle ++ u8 (txResultCode x.result) := by
      cases r.lastTx <;> rfl
    have live : s.table.count = s.table.records.length := s.table.count_eq
    rw [State.messageSection, Radio.messageStatus, last, live]
    rfl

end Sys2Proof.Machine
end

section
/-! The two resets, and the commands while RESET is asserted (R23, R73, R99, R115, R135, R154, R175,
R192, R194, R202, R203). -/

namespace Sys2Proof.Machine

/-! ### Events at the doors of some sides -/

/-- A door that takes an event has what the event makes of it, and the others are as they were (R151). -/
theorem Doors.step_get (f : Door → DoorStep) (i j : DoorId) (ds : Doors) :
    (ds.step f i).1.get j = if i = j then (f (ds.get i)).1 else ds.get j := by
  have put (e : DoorEvent) : ({ ds.put (f (ds.get i)).1 i with lastEvent := e } : Doors).get j
      = (ds.put (f (ds.get i)).1 i).get j := by cases j <;> rfl
  have stepped : (ds.step f i).1.get j = (ds.put (f (ds.get i)).1 i).get j := by
    unfold Doors.step
    dsimp only
    split
    · exact put _
    · rfl
  rw [stepped]
  split
  · next same => subst same; exact Doors.get_put_same _ _ _
  · next other => exact Doors.get_put_other _ _ other

/-- An event at a door leaves what is not of a door: the release states and the kept MOTION. -/
theorem Doors.step_rest (f : Door → DoorStep) (i : DoorId) (ds : Doors) :
    (ds.step f i).1.leftReleased = ds.leftReleased ∧ (ds.step f i).1.rightReleased = ds.rightReleased
      ∧ (ds.step f i).1.motion = ds.motion := by
  unfold Doors.step
  dsimp only
  split <;> exact ⟨Doors.put_leftReleased _ _ _, Doors.put_rightReleased _ _ _,
    Doors.put_motion _ _ _⟩

/-- The doors of the sides that are named take the event, each for itself (R151). -/
theorem Doors.stepSides_get (sides : List Side) (f : Door → DoorStep) (ds : Doors) (id : DoorId) :
    (ds.stepSides sides f).1.get id
      = if doorSide id ∈ sides then (f (ds.get id)).1 else ds.get id := by
  by_cases left : Side.left ∈ sides <;> by_cases right : Side.right ∈ sides <;> cases id <;>
    simp [Doors.stepSides, allDoors, doorSide, left, right, Doors.step_get]

theorem Doors.stepSides_rest (sides : List Side) (f : Door → DoorStep) (ds : Doors) :
    (ds.stepSides sides f).1.leftReleased = ds.leftReleased
      ∧ (ds.stepSides sides f).1.rightReleased = ds.rightReleased
      ∧ (ds.stepSides sides f).1.motion = ds.motion := by
  unfold Doors.stepSides
  refine List.foldlRecOn allDoors _ (motive := fun acc : Doors × Bool =>
    acc.1.leftReleased = ds.leftReleased ∧ acc.1.rightReleased = ds.rightReleased
      ∧ acc.1.motion = ds.motion) ⟨rfl, rfl, rfl⟩ fun acc kept id _ => ?_
  split
  · obtain ⟨left, right, motion⟩ := Doors.step_rest f id acc.1
    obtain ⟨keptLeft, keptRight, keptMotion⟩ := kept
    exact ⟨left.trans keptLeft, right.trans keptRight, motion.trans keptMotion⟩
  · exact kept

/-- SOFT_RESET closes every door as DOOR_CLOSE(ALL) does and releases no side (R154). -/
theorem Doors.softReset_eq (t : DoorTimes) (ds : Doors) :
    (ds.softReset t).leftReleased = false ∧ (ds.softReset t).rightReleased = false
      ∧ ∀ id, (ds.softReset t).get id = (Door.close t (ds.get id)).1 := by
  obtain ⟨left, right, -⟩ := Doors.stepSides_rest [.left, .right] (Door.close t)
    ([Side.left, .right].foldl (Doors.setReleased false) ds)
  refine ⟨left, right, fun id => ?_⟩
  have closed := Doors.stepSides_get [.left, .right] (Door.close t)
    ([Side.left, .right].foldl (Doors.setReleased false) ds) id
  rw [if_pos (by cases id <;> simp [doorSide])] at closed
  cases id <;> exact closed

/-! ### The power-on values -/

/-- A door at power-on stands by its raw inputs (R154). -/
theorem Door.powerOn_eq (d : Door) : d.powerOn = { d with
    state := if d.closed.raw = true ∧ d.locked.raw = true then .locked else .held
    closed := ⟨d.closed.raw, d.closed.raw, none⟩, locked := ⟨d.locked.raw, d.locked.raw, none⟩
    openEnd := ⟨d.openEnd.raw, d.openEnd.raw, none⟩
    obstruct := ⟨d.obstruct.raw, d.obstruct.raw, none⟩
    button := ⟨d.button.raw, d.button.raw, none⟩
    reopen := 0, reclose := false, motionTimer := none, lockTimer := none } := by
  unfold Door.powerOn
  simp only [Bool.and_eq_true]
  rfl

/-! ### While RESET is asserted -/

/-- A change of an input while RESET is asserted has every block retake its power-on values (R202). -/
theorem exec_rawInputChange_held {s : State} (hr : s.resetHeld = true) (input : InputId) (level : Bool)
    (now : Micros) :
    exec (.rawInputChange input level now) s = exec .powerOnReset (s.withRaw input level) :=
  State.unlessReset_held _ _ hr

/-- The assertion of RESET is a power-on reset, and its release leaves what stands (R202). -/
theorem exec_rawInputChange_reset {s : State} (hr : s.resetHeld = false) (now : Micros) :
    exec (.rawInputChange .reset true now) s = exec .powerOnReset { s with resetHeld := true }
      ∧ exec (.rawInputChange .reset false now) s = .next s :=
  ⟨State.unlessReset_released _ _ hr, State.unlessReset_released _ _ hr⟩

/-- Settles O60: the two resets, the assertion and release of RESET, and every command in between. -/
theorem resetsTakeTheirValues : Obligations.ResetsTakeTheirValues := by
  intro s clear supervisor unit radio line door ds
  refine ⟨fun h moving => ?_, fun h still => ?_, ?_, fun hr now => exec_rawInputChange_reset hr now,
    fun hr i => ?_⟩
  · exact (hostRequest_taken _ h).trans (if_pos moving)
  · obtain ⟨left, right, doors⟩ := s.doors.softReset_eq s.doorTimes
    refine ⟨s.softReset, (hostRequest_taken _ h).trans (if_neg (by simp [still])), rfl, left, right,
      rfl, rfl, doors⟩
  · have doors : s.doors.powerOn = ds := by simp only [Doors.powerOn, Door.powerOn_eq]; rfl
    refine congrArg Host.Outcome.next ?_
    rw [State.powerOn, doors]
    rfl
  · intro raw ported ignored
    cases i with
    | powerOnReset => rfl
    | rawInputChange input level now =>
      refine (exec_rawInputChange_held hr input level now).trans ?_
      cases input with
      | door id input => cases input <;> rfl
      | _ => rfl
    | receivedByte source => cases source <;> exact State.unlessReset_held _ _ hr
    | _ => exact State.unlessReset_held _ _ hr

end Sys2Proof.Machine
end

section
/-! The counted edge: the state in which it leaves the part before it starts an evaluation, in one update
(R20, R22, R24 to R28, R33, R35, R37, R40). -/

namespace Sys2Proof.Machine

/-! ### What an evaluation leaves alone -/

theorem ReachMessages.odo {s t : State} (h : ReachMessages s t) : t.odo = s.odo := by
  unfold ReachMessages at h; rw [h]
theorem ReachMessages.doors {s t : State} (h : ReachMessages s t) : t.doors = s.doors := by
  unfold ReachMessages at h; rw [h]
theorem ReachMessages.resetHeld {s t : State} (h : ReachMessages s t) :
    t.resetHeld = s.resetHeld := by
  unfold ReachMessages at h; rw [h]
theorem ReachTable.odo {s t : State} (h : ReachTable s t) : t.odo = s.odo := h.messages.odo
theorem ReachTable.doors {s t : State} (h : ReachTable s t) : t.doors = s.doors := h.messages.doors
theorem ReachSupervision.odo {s t : State} (h : ReachSupervision s t) : t.odo = s.odo := h.table.odo
theorem ReachSupervision.doors {s t : State} (h : ReachSupervision s t) : t.doors = s.doors :=
  h.table.doors
theorem ReachSupervision.table_eq {s t : State} (h : ReachSupervision s t) : t.table = s.table := by
  unfold ReachSupervision at h; rw [h]
theorem ReachRadio.odo {s t : State} (h : ReachRadio s t) : t.odo = s.odo := h.messages.odo

@[simp] theorem State.evaluate_odo (s : State) : s.evaluate.odo = s.odo := (evaluate_reach s).odo
@[simp] theorem State.evaluate_doors (s : State) : s.evaluate.doors = s.doors :=
  (evaluate_reach s).doors
@[simp] theorem State.evaluateIf_odo (c : Bool) (s : State) : (s.evaluateIf c).odo = s.odo :=
  (evaluateIf_reach c s).odo
@[simp] theorem State.evaluateIf_doors (c : Bool) (s : State) : (s.evaluateIf c).doors = s.doors :=
  (evaluateIf_reach c s).doors
@[simp] theorem State.evaluateIf_param (c : Bool) (s : State) (i : Nat) :
    (s.evaluateIf c).param i = s.param i := by
  simp only [State.param, State.evaluateIf_profile]
@[simp] theorem State.retireRecords_odo (dir : Dir) (s : State) :
    (s.retireRecords dir).1.odo = s.odo := (retireRecords_reach dir s).odo

/-! ### The parts of the edge -/

/-- Handing a new speed is taken by the brake output unit alone (R40, R126). -/
theorem State.handSpeed_eq (v : Nat) (s : State) : s.handSpeed v = { s with
    brake := s.brake.takeSpeed (s.param 27) (s.param 24) (overlapTime (s.param 25)) v } := rfl

/-- The unit after a counted edge, with the capture group's size, the standstill time and the reading of
the counter at the edge (R22 to R28, R33, R35, R37). -/
def Odometry.edge (dir : Dir) (size timer : Nat) (now : Micros) (o : Odometry) : Odometry :=
  let turned := o.changesDirection dir
  let capture := captureEdge dir size now (if turned then none else o.history)
  { o with
    position := if withheld dir o.position then o.position else movedPosition dir o.position
    motion := true
    standstillTimer := some timer
    measured := some dir
    speed := capture.2.getD (if turned then 0 else o.speed)
    history := some capture.1
    wheelTravel := if turned then 0 else o.wheelTravel
    netCounts := (if turned then 0 else o.netCounts) + (match dir with
      | .up => 1
      | .down => -1)
    rollback := rollbackAfter o.selected dir o.rollback }

/-- The new speed that an edge hands on, where it is a capture that gives one (R26, R27). -/
def State.edgeSpeed (dir : Dir) (now : Micros) (s : State) : Option Nat :=
  (captureEdge dir s.captureSize now (if s.odo.changesDirection dir then none else s.odo.history)).2

/-- The brake output unit with MOTION handed by the first edge after standstill (R40). -/
def State.motionBrake (s : State) : Brake :=
  if s.odo.motion then s.brake else s.brake.takeMotion (s.param 27) true

/-- The brake output unit with speed 0 handed at a direction change too (R25, R40). -/
def State.turnBrake (dir : Dir) (s : State) : Brake :=
  if s.odo.changesDirection dir then
    s.motionBrake.takeSpeed (s.param 27) (s.param 24) (overlapTime (s.param 25)) 0
  else s.motionBrake

/-- The brake output unit after a counted edge: MOTION, speed 0 and the new speed are handed to it in
this order (R40, R126). -/
def State.edgeBrake (dir : Dir) (now : Micros) (s : State) : Brake :=
  match s.edgeSpeed dir now with
  | some v => (s.turnBrake dir).takeSpeed (s.param 27) (s.param 24) (overlapTime (s.param 25)) v
  | none => s.turnBrake dir

/-- The part after a counted edge, before the evaluations that it starts (log entry 11). -/
def State.edgeTaken (dir : Dir) (now : Micros) (s : State) : State := { s with
  odo := s.odo.edge dir s.captureSize (s.param 8) now
  table := (s.edgePosition dir).1.table
  brake := s.edgeBrake dir now
  doors := if s.odo.motion then s.doors else { s.doors with motion := true }
  port := (s.edgePosition dir).1.port }

/-- The position part of an edge moves the unit's position, and beside it at most the table and the
flags (R22, R56). -/
theorem State.edgePosition_eq (dir : Dir) (s : State) : (s.edgePosition dir).1 = { s with
    odo := { s.odo with position := if withheld dir s.odo.position then s.odo.position
      else movedPosition dir s.odo.position }
    table := (s.edgePosition dir).1.table
    port := (s.edgePosition dir).1.port } := by
  unfold State.edgePosition
  split
  · rfl
  · unfold State.retireRecords; dsimp only; split <;> rfl

/-- MOTION, direction and capture, in one update (R24 to R27, R40). -/
theorem State.edgeMotion_eq (s : State) : s.edgeMotion = { s with
    odo := { s.odo with motion := true, standstillTimer := some (s.param 8) }
    brake := s.motionBrake
    doors := if s.odo.motion then s.doors else { s.doors with motion := true } } := by
  unfold State.edgeMotion State.motionBrake
  cases s.odo.motion <;> rfl

theorem State.edgeDirection_eq (dir : Dir) (s : State) : s.edgeDirection dir = { s with
    odo := s.odo.turn dir
    brake := if s.odo.changesDirection dir then (s.handSpeed 0).brake else s.brake } := by
  unfold State.edgeDirection
  cases s.odo.changesDirection dir <;> rfl

theorem State.edgeCapture_eq (dir : Dir) (now : Micros) (s : State) :
    s.edgeCapture dir now =
      let capture := captureEdge dir s.captureSize now s.odo.history
      { s with
        odo := { s.odo with history := some capture.1, speed := capture.2.getD s.odo.speed }
        brake := match capture.2 with
          | some v => (s.handSpeed v).brake
          | none => s.brake } := by
  unfold State.edgeCapture
  dsimp only
  split <;> next h => rw [h]; rfl

/-- The unit through the parts of an edge after its position (R24 to R28, R33, R35, R37). -/
theorem Odometry.edge_eq_parts (dir : Dir) (size timer : Nat) (now : Micros) (o : Odometry) :
    o.edge dir size timer now =
      let moved : Odometry := { o with
        position := if withheld dir o.position then o.position else movedPosition dir o.position
        motion := true, standstillTimer := some timer }
      let turned := moved.turn dir
      let capture := captureEdge dir size now turned.history
      let caught : Odometry := { turned with
        history := some capture.1, speed := capture.2.getD turned.speed }
      { caught.engage dir with rollback := rollbackAfter o.selected dir o.rollback } := by
  have turns : ∀ p m t, ({ o with position := p, motion := m, standstillTimer := t } :
    Odometry).changesDirection dir = o.changesDirection dir := fun _ _ _ => rfl
  unfold Odometry.edge Odometry.turn
  simp only [turns]
  cases o.changesDirection dir <;> rfl

/-- The parts of an edge in their order, in one update (R20). -/
theorem State.edgeTaken_eq_parts (dir : Dir) (now : Micros) (s : State) :
    s.edgeTaken dir now =
      let p := (((s.edgePosition dir).1.edgeMotion).edgeDirection dir).edgeCapture dir now
      { p with odo := { p.odo.engage dir with
          rollback := rollbackAfter p.odo.selected dir p.odo.rollback } } := by
  have turns : ∀ p m t, ({ s.odo with position := p, motion := m, standstillTimer := t } :
    Odometry).changesDirection dir = s.odo.changesDirection dir := fun _ _ _ => rfl
  rw [State.edgeTaken, State.edgeCapture_eq, State.edgeDirection_eq, State.edgeMotion_eq,
    State.edgePosition_eq, Odometry.edge_eq_parts, State.edgeBrake, State.turnBrake,
    State.edgeSpeed]
  generalize (s.edgePosition dir).1.table = table, (s.edgePosition dir).1.port = port
  dsimp only
  unfold Odometry.turn
  simp only [turns]
  cases s.odo.changesDirection dir <;> rfl

/-- An edge is one event: the part as the edge leaves it, then the evaluation for the records that it
has freed, then the fault of a rollback beyond the tolerance (R20, R38, R63). -/
theorem State.countedEdge_eq (dir : Dir) (now : Micros) (s : State) :
    s.countedEdge dir now =
      let v := (s.edgeTaken dir now).evaluateIf (s.edgePosition dir).2
      if s.param 12 < rollbackAfter s.odo.selected dir s.odo.rollback then v.odoFault .rollback
      else v := by
  have param : ((s.edgeTaken dir now).evaluateIf (s.edgePosition dir).2).param 12 = s.param 12 :=
    State.evaluateIf_param _ _ 12
  have rollback : ((s.edgeTaken dir now).evaluateIf (s.edgePosition dir).2).odo.rollback
      = rollbackAfter s.odo.selected dir s.odo.rollback :=
    congrArg Odometry.rollback (State.evaluateIf_odo _ _)
  dsimp only
  rw [← param, ← rollback, State.edgeTaken_eq_parts]
  rfl

end Sys2Proof.Machine
end

section
/-! One evaluation and the handing of an ALARM, each in one update: what they make of the supervisor, the
brake output unit, the radio and the condition flags (R99, R101, R112, R113, R186). -/

namespace Sys2Proof.Machine

/-! ### The flag word -/

theorem Flag.bit_lt (f : Flag) : f.bit < 15 := by cases f <;> decide

theorem Flag.bit_injective {f g : Flag} (h : f.bit = g.bit) : f = g := by
  cases f <;> cases g <;> first | rfl | (simp [Flag.bit] at h)

/-- Setting a flag sets that flag and leaves the others (R198). -/
theorem hasFlag_setBit (flags : BitVec 15) (g f : Flag) :
    hasFlag (setBit flags g) f = (hasFlag flags f || decide (f = g)) := by
  have inWord := f.bit_lt
  by_cases h : f = g
  · subst h; simp [hasFlag, setBit, inWord]
  · have other : f.bit ≠ g.bit := fun same => h (Flag.bit_injective same)
    simp [hasFlag, setBit, inWord, other, h]

/-! ### The handing of an ALARM (R173, R174, R186, R190) -/

/-- The radio after the start of the frame that the queue selects, where R173 allows one. -/
def Radio.startSelected (parity : Nat) (address : Byte) (r : Radio) : Radio :=
  match r.canStart, selectEntry r.queue with
  | true, some e => r.start parity address e
  | _, _ => r

/-- The radio after a start event: nothing starts while a mode change waits. -/
def Radio.startIfQuiet (parity : Nat) (address : Byte) (r : Radio) : Radio :=
  if r.changeWaits then r else r.startSelected parity address

theorem State.startFrame_eq (s : State) :
    s.startFrame = s.onRadio (Radio.startSelected (s.param 2) s.carAddress) := by
  unfold State.startFrame Radio.startSelected State.onRadio
  dsimp only
  cases s.radio.canStart <;> cases selectEntry s.radio.queue <;> rfl

theorem State.judgeStart_eq (s : State) :
    s.judgeStart = s.onRadio (Radio.startIfQuiet (s.param 2) s.carAddress) := by
  rw [State.judgeStart, State.startFrame_eq]
  unfold State.onRadio Radio.startIfQuiet
  cases s.radio.changeWaits <;> rfl

/-- The entry that an ALARM displaces: the newest unsent one of priority 0 or 1 (R186). -/
def Radio.displacedEntry (r : Radio) : Option QueueEntry :=
  r.queue.reverse.find? QueueEntry.displaceable

/-- The radio without the displaced entry, with its TX_DONE report (R186, R190). -/
def Radio.displace (r : Radio) : Radio :=
  match r.displacedEntry with
  | some e =>
    let left := { r with queue := (r.queue.reverse.eraseP QueueEntry.displaceable).reverse }
    match e.origin with
    | .part => left
    | .vehicle => left.reportTx e.handle .displaced
  | none => r

theorem Radio.displacedEntry_isSome (r : Radio) :
    r.displacedEntry.isSome = r.queue.any QueueEntry.displaceable := by
  rw [Radio.displacedEntry, Bool.eq_iff_iff]; simp

/-- The displaced entry is one of the host, so that it makes a TX_DONE report (R190). -/
def Radio.displacedReports (r : Radio) : Bool := r.displacedEntry.any fun e => e.origin == .vehicle

/-- An ALARM displaces an entry of the host (R186, R190). -/
def Radio.alarmReports (r : Radio) : Bool :=
  r.current.places && !r.hasRoom && r.displacedReports

/-- The radio after an ALARM is handed to it (R186). -/
def Radio.alarmed (parity : Nat) (address : Byte) (body : List Byte) (r : Radio) : Radio :=
  if !r.current.places then r
  else if r.hasRoom then (r.placeAlarm body).startIfQuiet parity address
  else if r.queue.any QueueEntry.displaceable then
    (r.displace.placeAlarm body).startIfQuiet parity address
  else { r with pendingAlarm := some body }

theorem State.removeNewest_displaceable (s : State) :
    s.removeNewest QueueEntry.displaceable .displaced = { s with
      radio := s.radio.displace
      port := { s.port with flags :=
        if s.radio.displacedReports then setBit s.port.flags .txDone else s.port.flags } } := by
  unfold State.removeNewest Radio.displace Radio.displacedReports Radio.displacedEntry
  cases s.radio.queue.reverse.find? QueueEntry.displaceable with
  | none => rfl
  | some e =>
    dsimp only [State.reportLeaving]
    cases h : e.origin <;> simp [h] <;> rfl

/-- The handing of an ALARM moves the radio and, for a displaced entry of the host, sets TX_DONE. -/
theorem State.handAlarm_eq (s : State) : s.handAlarm = { s with
    radio := s.radio.alarmed (s.param 2) s.carAddress s.alarmBody
    port := { s.port with flags :=
      if s.radio.alarmReports then setBit s.port.flags .txDone else s.port.flags } } := by
  unfold State.handAlarm Radio.alarmed Radio.alarmReports
  cases places : s.radio.current.places
  · rfl
  cases room : s.radio.hasRoom
  · cases any : s.radio.queue.any QueueEntry.displaceable
    · rw [← Radio.displacedEntry_isSome] at any
      rw [Radio.displacedReports, Option.isSome_eq_false_iff.mp any |> Option.isNone_iff_eq_none.mp]
      rfl
    · simp only [State.removeNewest_displaceable, State.judgeStart_eq]
      rfl
  · simp only [State.judgeStart_eq]
    rfl

/-! ### The change of the supervision state and the evaluation (R101, R112, R113) -/

/-- A change of the supervision state in one update (R101, R112, R113). -/
theorem State.changeSupState_eq (new : SupState) (s : State) : s.changeSupState new = { s with
    sup := { s.sup with state := new, demand := new.demand }
    brake := s.brake.takeSupervisor (s.param 27) new new.demand
    radio := if alarms s.sup.state new then
        s.radio.alarmed (s.param 2) s.carAddress (u8 (supCode new) ++ u16 s.sup.causes.bits)
      else s.radio
    port := { s.port with
      flags := if alarms s.sup.state new && s.radio.alarmReports then
          setBit (setBit s.port.flags .supervision) .txDone
        else setBit s.port.flags .supervision } } := by
  unfold State.changeSupState
  simp only [State.handAlarm_eq]
  cases alarms s.sup.state new <;> rfl

/-- The flags after an evaluation that moves the supervision state or leaves it (R92, R101, R190). -/
def State.evaluatedFlags (new : SupState) (s : State) : BitVec 15 :=
  let short := if s.judge.shortfall && !s.sup.shortfall then setBit s.port.flags .shortfall
    else s.port.flags
  if new = s.sup.state then short
  else if alarms s.sup.state new && s.radio.alarmReports then
    setBit (setBit short .supervision) .txDone
  else setBit short .supervision

/-- One evaluation in one update: its results, the next state with its demand, the period of the
evaluation timer, and a change of the state handed on (R99, R101). -/
theorem State.evaluate_eq (s : State) : s.evaluate =
    let new := s.nextSupState s.judge
    { s with
      sup := { s.judge with
        state := new
        demand := if new = s.sup.state then s.sup.demand else new.demand
        evalTimer := some (s.param 23) }
      brake := if new = s.sup.state then s.brake
        else s.brake.takeSupervisor (s.param 27) new new.demand
      radio := if alarms s.sup.state new then
          s.radio.alarmed (s.param 2) s.carAddress (u8 (supCode new) ++ u16 s.judge.causes.bits)
        else s.radio
      port := { s.port with flags := s.evaluatedFlags new } } := by
  unfold State.evaluate State.evaluatedFlags
  simp only [State.setFlagIf_eq, State.changeSupState_eq]
  by_cases kept : s.nextSupState s.judge = s.sup.state
  · have quiet : alarms s.sup.state s.sup.state = false := by simp [alarms]
    have same : s.judge.state = s.sup.state := rfl
    simp only [kept, same, if_true, quiet]
    rfl
  · have moved : ¬s.nextSupState s.judge = s.judge.state := kept
    simp only [if_neg kept, if_neg moved]
    rfl

/-! ### What an evaluation keeps of the unit and of the flags -/

/-- An evaluation hands the unit at most a state with its demand (R118). -/
theorem State.evaluate_brake_motion (s : State) : s.evaluate.brake.motion = s.brake.motion := by
  rw [State.evaluate_eq]
  dsimp only
  split
  · rfl
  · unfold Brake.takeSupervisor
    dsimp only
    split <;> exact Brake.reform_motion _ _

/-- A flag that neither an evaluation nor a transmission sets. -/
abbrev Flag.Apart (f : Flag) : Prop := f ≠ .supervision ∧ f ≠ .shortfall ∧ f ≠ .txDone

/-- An evaluation leaves the flags of the other blocks (R92, R101, R190). -/
theorem State.evaluate_hasFlag {f : Flag} (apart : f.Apart) (s : State) :
    hasFlag s.evaluate.port.flags f = hasFlag s.port.flags f := by
  obtain ⟨supervision, shortfall, txDone⟩ := apart
  rw [State.evaluate_eq]
  unfold State.evaluatedFlags
  dsimp only
  (repeat' split) <;> simp [hasFlag_setBit, supervision, shortfall, txDone]

theorem State.evaluateIf_brake_motion (c : Bool) (s : State) :
    (s.evaluateIf c).brake.motion = s.brake.motion := by
  cases c
  · rfl
  · exact s.evaluate_brake_motion

theorem State.evaluateIf_hasFlag {f : Flag} (apart : f.Apart) (c : Bool) (s : State) :
    hasFlag (s.evaluateIf c).port.flags f = hasFlag s.port.flags f := by
  cases c
  · rfl
  · exact s.evaluate_hasFlag apart

end Sys2Proof.Machine
end

section
/-! The freeing of several records at one event: the slots, the notices and the minute timer after it
(R41, R56, R58, R60, R62). -/

namespace Sys2Proof.Machine

/-! ### Freeing records -/

/-- Freeing a slot with a notice leaves the slot FREE, whether it held a record or not (R41). -/
theorem Table.freeWithNotice_slots (e : NoticeEvent) (slot : Nat) (t : Table) :
    (t.freeWithNotice e slot).slots = t.slots.set slot none := by
  unfold Table.freeWithNotice Table.get
  split
  · rfl
  · next free =>
    refine List.ext_getElem? fun k => ?_
    rw [List.getElem?_set]
    split
    · next same =>
      subst same
      cases held : t.slots[slot]? with
      | none => simp [List.getElem?_eq_none_iff.mp held]
      | some o => simp [held] at free; simp [free, List.getElem?_eq_some_iff.mp held |>.1]
    · rfl

theorem Table.freeWithNotice_live {e : NoticeEvent} {slot : Nat} {t : Table} {r : Record}
    (live : t.get slot = some r) : t.freeWithNotice e slot = { t with
      slots := t.slots.set slot none
      notice := ⟨e, slot, r.imposes.kind, r.origin, r.number, none⟩
      noticeSeq := (t.noticeSeq + 1) % 65536 } := by
  simp only [Table.freeWithNotice, live]; rfl

theorem Table.freeAll_cons (x : Nat × NoticeEvent) (frees : List (Nat × NoticeEvent)) (t : Table) :
    t.freeAll (x :: frees) = (t.freeWithNotice x.2 x.1).freeAll frees := rfl

/-- Freeing leaves the other slots as they are. -/
theorem Table.get_freeWithNotice_other {e : NoticeEvent} {slot k : Nat} (t : Table) (h : k ≠ slot) :
    (t.freeWithNotice e slot).get k = t.get k := by
  rw [Table.get, Table.freeWithNotice_slots, List.getElem?_set_ne h.symm]; rfl

theorem Table.get_freeAll_other {frees : List (Nat × NoticeEvent)} {k : Nat} (t : Table)
    (h : ∀ x ∈ frees, x.1 ≠ k) : (t.freeAll frees).get k = t.get k := by
  induction frees generalizing t with
  | nil => rfl
  | cons x frees ih =>
    obtain ⟨first, rest⟩ := List.forall_mem_cons.mp h
    rw [Table.freeAll_cons, ih _ rest, Table.get_freeWithNotice_other _ first.symm]

/-- After several slots are freed, those are FREE and the others hold what they held (R41). -/
theorem Table.freeAll_slots (frees : List (Nat × NoticeEvent)) (t : Table) (k : Nat) :
    (t.freeAll frees).slots[k]?
      = if k ∈ frees.map Prod.fst then t.slots[k]?.map fun _ => none else t.slots[k]? := by
  induction frees generalizing t with
  | nil => simp [Table.freeAll]
  | cons x frees ih =>
    rw [Table.freeAll_cons, ih, Table.freeWithNotice_slots, List.getElem?_set]
    by_cases first : x.1 = k
    · subst first
      by_cases held : x.1 < t.slots.length
      · simp [held]
      · simp [held]
    · have others : k ∈ (x :: frees).map Prod.fst ↔ k ∈ frees.map Prod.fst := by
        rw [List.map_cons, List.mem_cons, or_iff_right (Ne.symm first)]
      rw [if_neg first, if_congr others rfl rfl]

theorem Table.freeAll_rest (frees : List (Nat × NoticeEvent)) (t : Table) :
    (t.freeAll frees).minuteTimer = t.minuteTimer ∧ (t.freeAll frees).lossLatch = t.lossLatch := by
  induction frees generalizing t with
  | nil => exact ⟨rfl, rfl⟩
  | cons x frees ih =>
    obtain ⟨timer, latch⟩ := ih (t.freeWithNotice x.2 x.1)
    rw [Table.freeAll_cons, timer, latch]
    unfold Table.freeWithNotice
    split <;> exact ⟨rfl, rfl⟩

/-- Each record that is freed writes a notice of its own (R62). -/
theorem Table.freeAll_noticeSeq {frees : List (Nat × NoticeEvent)} {t : Table}
    (live : ∀ x ∈ frees, (t.get x.1).isSome) (apart : frees.Pairwise fun x y => x.1 < y.1)
    (some_ : frees ≠ []) :
    (t.freeAll frees).noticeSeq = (t.noticeSeq + frees.length) % 65536 := by
  induction frees generalizing t with
  | nil => exact absurd rfl some_
  | cons x frees ih =>
    obtain ⟨first, live⟩ := List.forall_mem_cons.mp live
    obtain ⟨below, apart⟩ := List.pairwise_cons.mp apart
    obtain ⟨r, held⟩ := Option.isSome_iff_exists.mp first
    have seq : (t.freeWithNotice x.2 x.1).noticeSeq = (t.noticeSeq + 1) % 65536 := by
      rw [Table.freeWithNotice_live held]
    rw [Table.freeAll_cons]
    cases frees with
    | nil => exact seq
    | cons y frees =>
      rw [ih ?_ apart (by simp), seq, List.length_cons (a := x)]
      · omega
      · intro z hz
        rw [Table.get_freeWithNotice_other t (below z hz).ne']
        exact live z hz

/-- The last notice is that of the last slot freed (R62). -/
theorem Table.freeAll_notice {frees : List (Nat × NoticeEvent)} {x : Nat × NoticeEvent} {t : Table}
    {r : Record} (live : t.get x.1 = some r) (last : ∀ y ∈ frees, y.1 ≠ x.1) :
    (t.freeAll (frees ++ [x])).notice
      = ⟨x.2, x.1, r.imposes.kind, r.origin, r.number, none⟩ := by
  have held : (t.freeAll frees).get x.1 = some r := by rw [t.get_freeAll_other last, live]
  rw [Table.freeAll, List.foldl_append]
  exact congrArg Table.notice (Table.freeWithNotice_live held)

/-! ### The records that an event frees -/

/-- The live records stand in ascending slot order. -/
theorem Table.live_sorted (t : Table) : t.live.Pairwise fun x y => x.1 < y.1 := by
  have slots : t.slots.zipIdx.Pairwise fun x y => x.2 < y.2 := by
    have numbers : (t.slots.zipIdx.map Prod.snd).Pairwise (· < ·) := by
      rw [List.zipIdx_map_snd]; exact List.pairwise_lt_range'
    exact List.pairwise_map.mp numbers
  refine List.pairwise_filterMap.mpr (slots.imp ?_)
  rintro ⟨o, j⟩ ⟨p, k⟩ below x hx y hy
  obtain ⟨r, -, rfl⟩ := Option.map_eq_some_iff.mp hx
  obtain ⟨q, -, rfl⟩ := Option.map_eq_some_iff.mp hy
  exact below

/-- The slots whose records an event frees, each with its reason. -/
def Table.freesBy (reason : Record → Option NoticeEvent) (t : Table) : List (Nat × NoticeEvent) :=
  t.live.filterMap fun x => (reason x.2).map fun e => (x.1, e)

theorem Table.mem_freesBy {reason : Record → Option NoticeEvent} {t : Table} {x : Nat × NoticeEvent} :
    x ∈ t.freesBy reason ↔ ∃ r, t.slots[x.1]? = some (some r) ∧ reason r = some x.2 := by
  obtain ⟨k, e⟩ := x
  simp only [Table.freesBy, List.mem_filterMap, Option.map_eq_some_iff, Prod.mk.injEq, Prod.exists]
  constructor
  · rintro ⟨j, r, live, e', reason, rfl, rfl⟩
    exact ⟨r, Table.mem_live.mp live, reason⟩
  · rintro ⟨r, live, reason⟩
    exact ⟨k, r, Table.mem_live.mpr live, e, reason, rfl, rfl⟩

theorem Table.freesBy_sorted (reason : Record → Option NoticeEvent) (t : Table) :
    (t.freesBy reason).Pairwise fun x y => x.1 < y.1 := by
  refine List.pairwise_filterMap.mpr (t.live_sorted.imp ?_)
  intro x y below a ha b hb
  obtain ⟨-, -, rfl⟩ := Option.map_eq_some_iff.mp ha
  obtain ⟨-, -, rfl⟩ := Option.map_eq_some_iff.mp hb
  exact below

/-- As many slots are freed as records have a reason to be. -/
theorem Table.freesBy_length (reason : Record → Option NoticeEvent) (t : Table) :
    (t.freesBy reason).length = (t.records.filter fun r => (reason r).isSome).length := by
  have reasons : (t.freesBy reason).map Prod.snd = t.records.filterMap reason := by
    rw [← t.live_filterMap, Table.freesBy, List.map_filterMap]
    congr 1
    funext x
    cases reason x.2 <;> rfl
  rw [← List.length_map (f := Prod.snd), reasons, List.length_filterMap_eq_countP,
    List.countP_eq_length_filter]

/-- After the records with a reason are freed, a slot holds its record exactly when that has none. -/
theorem Table.freeAll_freesBy_slots (reason : Record → Option NoticeEvent) (t : Table) :
    (t.freeAll (t.freesBy reason)).slots
      = t.slots.map fun o => o.filter fun r => !(reason r).isSome := by
  refine List.ext_getElem? fun k => ?_
  rw [Table.freeAll_slots, List.getElem?_map]
  have freed : k ∈ (t.freesBy reason).map Prod.fst
      ↔ ∃ r, t.slots[k]? = some (some r) ∧ (reason r).isSome := by
    simp only [List.mem_map, Table.mem_freesBy, Prod.exists, exists_and_right, exists_eq_right,
      Option.isSome_iff_exists]
    constructor
    · rintro ⟨e, r, held, reason⟩; exact ⟨r, held, e, reason⟩
    · rintro ⟨r, held, e, reason⟩; exact ⟨e, r, held, reason⟩
  split
  · next member =>
    obtain ⟨r, held, why⟩ := freed.mp member
    simp [held, Option.filter, Option.isSome_iff_ne_none.mp why]
  · next kept =>
    rcases held : t.slots[k]? with _ | _ | r
    · rfl
    · rfl
    · have stays : reason r = none :=
        Option.not_isSome_iff_eq_none.mp fun why => kept (freed.mpr ⟨r, held, why⟩)
      simp [Option.filter, stays]

/-- The notice after the records with a reason are freed is that of the highest of their slots (R62). -/
theorem Table.freeAll_freesBy_notice {reason : Record → Option NoticeEvent} {t : Table} {k : Nat}
    {r : Record} {e : NoticeEvent} (held : t.slots[k]? = some (some r)) (he : reason r = some e)
    (highest : ∀ j q, t.slots[j]? = some (some q) → (reason q).isSome → j ≤ k) :
    (t.freeAll (t.freesBy reason)).notice = ⟨e, k, r.imposes.kind, r.origin, r.number, none⟩ := by
  have member : (k, e) ∈ t.freesBy reason := Table.mem_freesBy.mpr ⟨r, held, he⟩
  have sorted := t.freesBy_sorted reason
  obtain ⟨before, after, split⟩ := List.append_of_mem member
  have below (x : Nat × NoticeEvent) (hx : x ∈ t.freesBy reason) : x.1 ≤ k := by
    obtain ⟨q, heldQ, hq⟩ := Table.mem_freesBy.mp hx
    exact highest x.1 q heldQ (by simp [hq])
  rw [split] at sorted below ⊢
  obtain ⟨-, sortedAfter, apart⟩ := List.pairwise_append.mp sorted
  have none_after : after = [] := by
    refine List.eq_nil_iff_forall_not_mem.mpr fun x hx => ?_
    have above : k < x.1 := (List.pairwise_cons.mp sortedAfter).1 x hx
    exact absurd (below x (by simp [hx])) (by omega)
  subst none_after
  refine Table.freeAll_notice (x := (k, e)) (by simp [Table.get, held]) fun y hy => ?_
  exact (apart y hy (k, e) (by simp)).ne

end Sys2Proof.Machine
end

section
/-! An accepted step that is a counted edge: what it does to the odometry unit and beside it (R20, R22,
R24 to R28, R33, R35, R37, R38, R40, R56, R57, R60, R62, R63, R126). -/

namespace Sys2Proof.Machine

/-! ### The decoding of an edge (R20) -/

/-- The four steps of an UP edge, from the pair before to the pair after it (R20). -/
def upEdges : List ((Bool × Bool) × (Bool × Bool)) :=
  [((false, false), (true, false)), ((true, false), (true, true)),
    ((true, true), (false, true)), ((false, true), (false, false))]

/-- A DOWN edge is an UP edge taken back (R20). -/
theorem decodeStep_edge {before after : Bool × Bool} {dir : Dir}
    (up : dir = .up → (before, after) ∈ upEdges) (down : dir = .down → (after, before) ∈ upEdges) :
    decodeStep before after = .edge dir := by
  have ups : ∀ e ∈ upEdges, decodeStep e.1 e.2 = .edge .up ∧ decodeStep e.2 e.1 = .edge .down := by
    decide
  cases dir with
  | up => exact (ups _ (up rfl)).1
  | down => exact (ups _ (down rfl)).2

/-- The state that takes a step: the filtered pair and the reading of the counter are the step's. -/
def State.stepSeen (a b : Bool) (now : Micros) (s : State) : State := { s with odo := { s.odo with
  pinA := if a = s.odo.pinA.level then s.odo.pinA else .steady a
  pinB := if b = s.odo.pinB.level then s.odo.pinB else .steady b
  timebase := now } }

theorem State.pinionStep_edge {a b : Bool} {dir : Dir} {s : State} (now : Micros)
    (h : decodeStep (s.odo.pinA.level, s.odo.pinB.level) (a, b) = .edge dir) :
    s.pinionStep a b now = (s.stepSeen a b now).countedEdge dir now := by
  simp only [State.pinionStep, h, beq_iff_eq]
  rfl

/-! ### The codes and conditions of the statements -/

/-- The edges of a capture by their code (R11). -/
theorem captureGroup_eq (code : Nat) : captureGroup code = [1, 2, 4].getD code 8 := by
  unfold captureGroup
  split
  · rfl
  · rfl
  · rfl
  · next zero one two =>
    simp only [imp_false] at zero one two
    exact (List.getD_eq_default _ _ (by simp; omega)).symm

/-- A direction change is an edge against the measured direction (R25). -/
theorem Odometry.changesDirection_iff {o : Odometry} {dir : Dir} :
    o.changesDirection dir = true ↔ o.measured ≠ none ∧ o.measured ≠ some dir := by
  unfold Odometry.changesDirection
  cases o.measured <;> simp

/-- An edge is withheld at either end of the positions (R22). -/
theorem withheld_iff {dir : Dir} {p : Nat} :
    withheld dir p = true ↔ (dir = .up ∧ 400000 ≤ p) ∨ (dir = .down ∧ p = 0) := by
  cases dir with
  | up =>
    have atEnd : withheld .up p = decide (400000 ≤ p) := rfl
    simp [atEnd]
  | down => simp [withheld]

theorem movedPosition_eq (dir : Dir) (p : Nat) :
    movedPosition dir p = if dir = .up then p + 1 else p - 1 := by
  cases dir <;> rfl

/-- A capture is the last edge of a group that goes on in its direction and size (R26, R27). -/
theorem captureEdge_some {dir : Dir} {n : Nat} {now : Micros} {h : Capture} (hd : h.dir = dir)
    (hn : h.size = n) : captureEdge dir n now (some h) =
      if h.count + 1 = n then
        (⟨dir, n, 0, now⟩, some (min 1023 (n * 25000000 / max (now - h.stamp).toNat 1 / 10)))
      else (⟨dir, n, h.count + 1, h.stamp⟩, none) := by
  subst hd hn
  exact if_pos ⟨rfl, rfl⟩

/-- Any other edge begins a group (R26). -/
theorem captureEdge_begins {dir : Dir} {n : Nat} {now : Micros} {history : Option Capture}
    (h : ∀ c, history = some c → ¬(c.dir = dir ∧ c.size = n)) :
    captureEdge dir n now history = (⟨dir, n, 0, now⟩, none) := by
  cases history with
  | none => rfl
  | some c => exact if_neg (h c rfl)

/-! ### The records that an edge frees (R56, R57, R60) -/

/-- Why an edge frees a record, if it does: an edge that is withheld, and one without a valid position,
frees none. -/
def State.edgeReason (dir : Dir) (s : State) (r : Record) : Option NoticeEvent :=
  if withheld dir s.odo.position || !s.odo.positionValid then none
  else r.retires dir (movedPosition dir s.odo.position) s.carLength

/-- The position part of an edge: the slots that it frees, the flags that it sets, and whether it makes
an evaluation due (R22, R56, R62, R63). -/
theorem State.edgePosition_frees (dir : Dir) (s : State) :
    let frees := s.table.freesBy (s.edgeReason dir)
    let flags := if withheld dir s.odo.position then setBit s.port.flags .offProfile
      else s.port.flags
    (s.edgePosition dir).1.table
        = (if frees = [] then s.table else (s.table.freeAll frees).settleTimer)
      ∧ (s.edgePosition dir).1.port
        = { s.port with flags := if frees = [] then flags else setBit flags .tableChanged }
      ∧ (s.edgePosition dir).2 = decide (frees ≠ []) := by
  dsimp only
  have none_freed : (∀ r, s.edgeReason dir r = none) → s.table.freesBy (s.edgeReason dir) = [] := by
    intro stays
    simp [Table.freesBy, stays]
  cases held : withheld dir s.odo.position with
  | true =>
    rw [none_freed (by simp [State.edgeReason, held]), State.edgePosition, if_pos held]
    exact ⟨rfl, rfl, rfl⟩
  | false =>
    rw [State.edgePosition, if_neg (by simp [held])]
    cases valid : s.odo.positionValid with
    | false =>
      rw [none_freed (by simp [State.edgeReason, valid])]
      simp [State.retireRecords, valid]
    | true =>
      have frees : s.table.freesBy (s.edgeReason dir) = s.table.retirements dir
          (movedPosition dir s.odo.position) s.carLength := by
        have reason : s.edgeReason dir
            = Record.retires dir (movedPosition dir s.odo.position) s.carLength := by
          funext r; simp [State.edgeReason, held, valid]
        rw [reason]; rfl
      rw [frees]
      unfold State.retireRecords
      have length (o : Odometry) : ({ s with odo := o } : State).carLength = s.carLength := rfl
      simp only [valid, Bool.true_and, length]
      cases s.table.retirements dir (movedPosition dir s.odo.position) s.carLength <;>
        exact ⟨rfl, rfl, rfl⟩

/-! ### The whole edge -/

/-- The unit after an edge, with the fault that it finds (R38, R39). -/
theorem State.odoFault_odo (f : OdoFault) (s : State) :
    (s.odoFault f).odo = s.odo.latch f := by
  cases h : s.odo.latched f with
  | true =>
    rw [State.odoFault_latched h]
    cases f <;> simp only [Odometry.latched] at h <;> simp only [Odometry.latch, ← h]
  | false => rw [State.odoFault_clear h, State.evaluate_odo]

theorem State.countedEdge_odo (dir : Dir) (now : Micros) (s : State) :
    (s.countedEdge dir now).odo = { s.odo.edge dir s.captureSize (s.param 8) now with
      rollbackLatch := s.odo.rollbackLatch
        || decide (s.param 12 < rollbackAfter s.odo.selected dir s.odo.rollback) } := by
  rw [State.countedEdge_eq]
  dsimp only
  split
  · next beyond =>
    rw [State.odoFault_odo, State.evaluateIf_odo]
    simp only [decide_eq_true beyond, Bool.or_true]
    rfl
  · next within =>
    rw [State.evaluateIf_odo]
    simp only [decide_eq_false within, Bool.or_false]
    rfl

/-- A rollback beyond the tolerance is latched and handed on where its latch is clear (R38, R39). -/
theorem State.countedEdge_latches (dir : Dir) (now : Micros) (s : State) :
    s.countedEdge dir now =
      let v := (s.edgeTaken dir now).evaluateIf (s.edgePosition dir).2
      if s.odo.rollbackLatch = false
          ∧ s.param 12 < rollbackAfter s.odo.selected dir s.odo.rollback then
        State.evaluate { v with
          odo := { v.odo with rollbackLatch := true }
          port := { v.port with flags := setBit v.port.flags .odometryFault }
          sup := { v.sup with causes := { v.sup.causes with rollback := true } } }
      else v := by
  rw [State.countedEdge_eq]
  dsimp only
  have latch : ((s.edgeTaken dir now).evaluateIf (s.edgePosition dir).2).odo.rollbackLatch
      = s.odo.rollbackLatch := by rw [State.evaluateIf_odo]; rfl
  generalize (s.edgeTaken dir now).evaluateIf (s.edgePosition dir).2 = v at latch
  rw [← latch]
  by_cases beyond : s.param 12 < rollbackAfter s.odo.selected dir s.odo.rollback
  · rw [if_pos beyond]
    cases latched : v.odo.rollbackLatch with
    | true =>
      rw [if_neg fun h => Bool.true_eq_false.mp h.1]
      exact State.odoFault_latched latched
    | false =>
      rw [if_pos ⟨rfl, beyond⟩]
      exact State.odoFault_clear latched
  · rw [if_neg beyond, if_neg fun h => beyond h.2]

/-- Why an edge frees a record, as conditions on the moved position (R57, R60). -/
theorem State.edgeReason_eq (dir : Dir) (s : State) (r : Record) :
    let p := movedPosition dir s.odo.position
    let front := p + s.param 3
    s.edgeReason dir r =
      if withheld dir s.odo.position = true ∨ s.odo.positionValid = false then none
      else if (r.passage && r.dir.appliesTo dir
          && decide (if dir = .up then r.last < p else front < r.first)) = true then some .passed
      else if (r.expiring && !(decide (p ≤ r.last) && decide (r.first ≤ front))) = true then
        some .expired
      else none := by
  have frees : (withheld dir s.odo.position || !s.odo.positionValid) = true
      ↔ withheld dir s.odo.position = true ∨ s.odo.positionValid = false := by simp
  unfold State.edgeReason Record.retires Record.passed
  dsimp only
  rw [if_congr frees rfl rfl]
  cases dir <;> rfl

/-- The new speed of an edge that goes on to the end of a group, and of no other edge (R26, R27). -/
theorem State.edgeSpeed_eq_some {dir : Dir} {now : Micros} {s : State} {h : Capture}
    (straight : s.odo.changesDirection dir = false) (history : s.odo.history = some h)
    (hd : h.dir = dir) (hn : h.size = s.captureSize) (full : h.count + 1 = s.captureSize) :
    s.edgeSpeed dir now = some
      (min 1023 (s.captureSize * 25000000 / max (now - h.stamp).toNat 1 / 10)) := by
  rw [State.edgeSpeed, straight, history, if_neg (by simp), captureEdge_some hd hn, if_pos full]

/-- An edge that does not end a group that goes on hands on no new speed (R26, R27). -/
theorem State.edgeSpeed_eq_none {dir : Dir} {now : Micros} {s : State}
    (h : ∀ c, ¬(s.odo.changesDirection dir = false ∧ s.odo.history = some c ∧ c.dir = dir
      ∧ c.size = s.captureSize ∧ c.count + 1 = s.captureSize)) : s.edgeSpeed dir now = none := by
  unfold State.edgeSpeed
  cases turned : s.odo.changesDirection dir with
  | true => rfl
  | false =>
    rw [if_neg (by simp)]
    cases history : s.odo.history with
    | none => rfl
    | some c =>
      by_cases goesOn : c.dir = dir ∧ c.size = s.captureSize
      · obtain ⟨hd, hn⟩ := goesOn
        rw [captureEdge_some hd hn, if_neg fun full => h c ⟨turned, history, hd, hn, full⟩]
      · rw [captureEdge_begins]
        rintro c' ⟨⟩; exact goesOn

/-- MOTION and speed 0 are handed on through the part's own operations (R40). -/
theorem State.turnBrake_handed (dir : Dir) (s : State) :
    let first : State := if s.odo.motion = true then s
      else { s with brake := Brake.reform (s.param 27) { s.brake with motion := true } }
    (if s.odo.changesDirection dir = true then first.handSpeed 0 else first)
      = { s with brake := s.turnBrake dir } := by
  unfold State.turnBrake State.motionBrake
  cases s.odo.motion <;> cases s.odo.changesDirection dir <;> rfl

/-- A table after several slots are freed, written out (R58, R62). -/
theorem Table.freeAll_settleTimer_eq {reason : Record → Option NoticeEvent} {t : Table}
    (some_ : t.freesBy reason ≠ []) :
    let after := (t.freeAll (t.freesBy reason)).settleTimer
    let slots := t.slots.map fun o => o.filter fun r => !(reason r).isSome
    after = { t with
      slots := slots
      minuteTimer := if slots.any (fun o => o.any Record.counts) = true then
          some (t.minuteTimer.getD Config.minutePeriod)
        else none
      notice := after.notice
      noticeSeq := (t.noticeSeq + (t.freesBy reason).length) % 65536 } := by
  have live : ∀ x ∈ t.freesBy reason, (t.get x.1).isSome := by
    intro x hx
    obtain ⟨r, held, -⟩ := Table.mem_freesBy.mp hx
    simp [Table.get, held]
  have seq := Table.freeAll_noticeSeq live (t.freesBy_sorted reason) some_
  have slots := t.freeAll_freesBy_slots reason
  obtain ⟨timer, latch⟩ := t.freeAll_rest (t.freesBy reason)
  dsimp only
  rw [← slots, ← seq, ← timer]
  unfold Table.settleTimer Table.anyLifetime
  simp only [latch]

/-- Settles O40: the edge is the state `edgeTaken` and the evaluations after it; its table is the freeing
of the records with a reason, and its unit takes the handings in their order. -/
theorem edgesRetirePassedRecords : Obligations.EdgesRetirePassedRecords := by
  intro a b now dir s hr o up before hup hdown withholds p front passed left retires gone slots runs
    turned n first turning captured count
  let s' := s.stepSeen a b now
  have edge : exec (.acceptedStep a b now) s = .next (s'.countedEdge dir now) := by
    rw [exec_acceptedStep hr, State.pinionStep_edge now (decodeStep_edge hup hdown)]
  have held : withheld dir o.position = true ↔ withholds := withheld_iff
  have reason (r : Record) : s'.edgeReason dir r =
      if withheld dir o.position = true ∨ o.positionValid = false then none
      else if passed r = true then some .passed else if left r = true then some .expired
      else none := by
    have moved : movedPosition dir s'.odo.position = p := movedPosition_eq dir _
    have reason := s'.edgeReason_eq dir r
    rw [moved] at reason
    exact reason
  have leaves (r : Record) : (s'.edgeReason dir r).isSome = retires r := by
    rw [reason]
    simp only [retires, ← held]
    by_cases stays : withheld dir o.position = true ∨ o.positionValid = false
    · rw [if_pos stays]
      obtain stays | stays := stays <;> simp [stays]
    · rw [if_neg stays]
      simp only [not_or, Bool.not_eq_true, Bool.not_eq_false] at stays
      cases passed r <;> cases left r <;> simp [stays]
  have size : s'.captureSize = n := captureGroup_eq _
  have turns : s'.odo.changesDirection dir = true ↔ turned := Odometry.changesDirection_iff
  have handed : turning = { s with brake := s.turnBrake dir } := by
    simp only [turning, ← turns]
    exact s.turnBrake_handed dir
  obtain ⟨table, port, freed⟩ := s'.edgePosition_frees dir
  have length : (s'.table.freesBy (s'.edgeReason dir)).length = gone := by
    rw [Table.freesBy_length]; simp only [leaves]; rfl
  have slotsFreed := s'.table.freeAll_freesBy_slots (s'.edgeReason dir)
  simp only [leaves] at slotsFreed
  generalize hf : s'.table.freesBy (s'.edgeReason dir) = frees at *
  have none_gone : gone = 0 ↔ frees = [] := by rw [← length, List.length_eq_zero_iff]
  refine ⟨s'.countedEdge dir now, edge, s'.edgeTaken dir now, ?_, ?_, ?_, ?_, ?_, ?_, ?_⟩
  · rw [State.countedEdge_odo]
    have flags : (if frees = [] then if withheld dir s'.odo.position then
          setBit s'.port.flags .offProfile else s'.port.flags
        else setBit (if withheld dir s'.odo.position then
          setBit s'.port.flags .offProfile else s'.port.flags) .tableChanged)
        = (let flags := if withholds then setBit s.port.flags .offProfile else s.port.flags
          if gone = 0 then flags else setBit flags .tableChanged) := by
      dsimp only
      rw [if_congr none_gone rfl rfl, if_congr held.symm rfl rfl]
      rfl
    rw [← flags]
    unfold State.edgeTaken
    rw [port]
    rfl
  · intro stays
    exact table.trans (if_pos (none_gone.mp stays))
  · intro leaving
    have some_ : frees ≠ [] := mt none_gone.mpr leaving
    have after : (s'.edgeTaken dir now).table = (s'.table.freeAll frees).settleTimer :=
      table.trans (if_neg some_)
    rw [after]
    subst hf
    have settled := Table.freeAll_settleTimer_eq some_
    simp only [leaves, length] at settled
    exact settled
  · intro k r live leaving highest
    have why : s'.edgeReason dir r = some (if passed r = true then .passed else .expired) := by
      simp only [retires, ← held, Bool.and_eq_true, decide_eq_true_eq, Bool.or_eq_true] at leaving
      obtain ⟨⟨moves, valid⟩, why⟩ := leaving
      rw [reason, if_neg (by simp [moves, valid])]
      by_cases passes : passed r = true
      · simp only [if_pos passes]
      · simp only [if_neg passes, if_pos (why.resolve_left passes)]
    have member : (k, if passed r = true then NoticeEvent.passed else .expired) ∈ frees := by
      rw [← hf]; exact Table.mem_freesBy.mpr ⟨r, live, why⟩
    have some_ : frees ≠ [] := List.ne_nil_of_mem member
    have after : (s'.edgeTaken dir now).table = (s'.table.freeAll frees).settleTimer :=
      table.trans (if_neg some_)
    rw [after, ← hf]
    exact Table.freeAll_freesBy_notice live why fun j q held leaving =>
      highest j q held ((leaves q).symm.trans leaving)
  · rintro h ⟨straight, history, hd, hn, full⟩
    have speed : s'.edgeSpeed dir now
        = some (min 1023 (n * 25000000 / max (now - h.stamp).toNat 1 / 10)) := by
      rw [← size] at hn full ⊢
      exact State.edgeSpeed_eq_some (Bool.eq_false_iff.mpr (mt turns.mp straight)) history hd hn full
    have brake : (s'.edgeTaken dir now).brake = s'.edgeBrake dir now := rfl
    rw [brake, State.edgeBrake, speed, handed]
    rfl
  · intro none_captured
    have speed : s'.edgeSpeed dir now = none := by
      refine State.edgeSpeed_eq_none fun c => ?_
      rintro ⟨straight, history, hd, hn, full⟩
      rw [size] at hn full
      have straight : ¬turned := mt turns.mpr (Bool.eq_false_iff.mp straight)
      exact none_captured c ⟨straight, history, hd, hn, full⟩
    have brake : (s'.edgeTaken dir now).brake = s'.edgeBrake dir now := rfl
    rw [brake, State.edgeBrake, speed, handed]
    rfl
  · have due : (s'.edgePosition dir).2 = decide (gone ≠ 0) := by
      rw [freed]; exact decide_eq_decide.mpr (not_congr none_gone.symm)
    rw [State.countedEdge_latches, due]
    rfl

/-! ### The unit, the doors and the flags after an edge -/

@[simp] theorem Brake.takeSpeed_motion (t fade overlapMs v : Nat) (b : Brake) :
    (b.takeSpeed t fade overlapMs v).motion = b.motion := by
  unfold Brake.takeSpeed
  (repeat' split) <;> exact Brake.reform_motion _ _

/-- The first edge hands MOTION true to the unit, and nothing of the edge takes it back (R40). -/
theorem State.edgeBrake_motion (dir : Dir) (now : Micros) (s : State) :
    (s.edgeBrake dir now).motion = (s.brake.motion || !s.odo.motion) := by
  have first : s.motionBrake.motion = (s.brake.motion || !s.odo.motion) := by
    unfold State.motionBrake
    cases s.odo.motion <;> simp [Brake.takeMotion]
  have turned : (s.turnBrake dir).motion = s.motionBrake.motion := by
    unfold State.turnBrake
    split
    · exact Brake.takeSpeed_motion _ _ _ _ _
    · rfl
  unfold State.edgeBrake
  split
  · rw [Brake.takeSpeed_motion, turned, first]
  · rw [turned, first]

theorem State.countedEdge_brake_motion (dir : Dir) (now : Micros) (s : State) :
    (s.countedEdge dir now).brake.motion = (s.brake.motion || !s.odo.motion) := by
  rw [State.countedEdge_latches]
  dsimp only
  split <;> simp only [State.evaluate_brake_motion, State.evaluateIf_brake_motion] <;>
    exact s.edgeBrake_motion dir now

theorem State.countedEdge_doors (dir : Dir) (now : Micros) (s : State) :
    (s.countedEdge dir now).doors
      = if s.odo.motion = true then s.doors else { s.doors with motion := true } := by
  rw [State.countedEdge_latches]
  dsimp only
  split <;> simp only [State.evaluate_doors, State.evaluateIf_doors] <;> rfl

/-- Beside the flags of an evaluation, an edge sets OFF_PROFILE, TABLE_CHANGED and ODOMETRY_FAULT (R22,
R39, R62). -/
theorem State.countedEdge_hasFlag {f : Flag} (apart : f.Apart) (table : f ≠ .tableChanged) (dir : Dir)
    (now : Micros) (s : State) :
    hasFlag (s.countedEdge dir now).port.flags f = (hasFlag s.port.flags f
      || (decide (f = .offProfile) && withheld dir s.odo.position)
      || (decide (f = .odometryFault) && (!s.odo.rollbackLatch
        && decide (s.param 12 < rollbackAfter s.odo.selected dir s.odo.rollback)))) := by
  have taken : hasFlag (s.edgeTaken dir now).port.flags f
      = (hasFlag s.port.flags f || (decide (f = .offProfile) && withheld dir s.odo.position)) := by
    obtain ⟨-, port, -⟩ := s.edgePosition_frees dir
    have taken : (s.edgeTaken dir now).port = (s.edgePosition dir).1.port := rfl
    rw [taken, port]
    cases withheld dir s.odo.position <;> dsimp only <;> split <;>
      simp [hasFlag_setBit, table]
  rw [State.countedEdge_latches]
  dsimp only
  split
  · next fault =>
    obtain ⟨latch, beyond⟩ := fault
    rw [State.evaluate_hasFlag apart]
    simp [hasFlag_setBit, State.evaluateIf_hasFlag apart, taken, latch, beyond]
  · next quiet =>
    rw [State.evaluateIf_hasFlag apart, taken]
    cases latch : s.odo.rollbackLatch with
    | true => simp
    | false => simp [decide_eq_false fun beyond => quiet ⟨latch, beyond⟩]

/-- Settles O30: the unit is that of `Odometry.edge`, with the capture in its three cases. -/
theorem countedEdgeMovesTheUnit : Obligations.CountedEdgeMovesTheUnit := by
  intro a b now dir s hr o up before hup hdown withholds turned n goesOn count
  let s' := s.stepSeen a b now
  have edge : exec (.acceptedStep a b now) s = .next (s'.countedEdge dir now) := by
    rw [exec_acceptedStep hr, State.pinionStep_edge now (decodeStep_edge hup hdown)]
  have held : withheld dir o.position = true ↔ withholds := withheld_iff
  have turns : o.changesDirection dir = true ↔ turned := Odometry.changesDirection_iff
  have size : s'.captureSize = n := captureGroup_eq _
  have unit := s'.countedEdge_odo dir now
  let capture := captureEdge dir n now (if o.changesDirection dir then none else o.history)
  have history : (s'.countedEdge dir now).odo.history = some capture.1 := by
    rw [unit, size]; rfl
  have speed : (s'.countedEdge dir now).odo.speed
      = capture.2.getD (if turned then 0 else o.speed) := by
    rw [unit, size, ← if_congr turns rfl rfl]; rfl
  have goes {h : Capture} (going : goesOn h) : capture = captureEdge dir n now (some h)
      ∧ ¬turned ∧ h.dir = dir ∧ h.size = n := by
    obtain ⟨straight, held, hd, hn⟩ := going
    have straight' := Bool.eq_false_iff.mpr (mt turns.mp straight)
    exact ⟨by simp only [capture, straight', held]; rfl, straight, hd, hn⟩
  refine ⟨s'.countedEdge dir now, edge, fun h going full => ?_, fun h going filling => ?_,
    fun none_goes => ?_, ?_, ?_, ?_, ?_, ?_, ?_⟩
  · obtain ⟨caught, straight, hd, hn⟩ := goes going
    rw [history, speed, caught, captureEdge_some hd hn, if_pos full]
    exact ⟨rfl, Option.getD_some⟩
  · obtain ⟨caught, straight, hd, hn⟩ := goes going
    rw [history, speed, caught, captureEdge_some hd hn, if_neg filling, if_neg straight]
    exact ⟨rfl, rfl⟩
  · have begins : capture = (⟨dir, n, 0, now⟩, none) := by
      refine captureEdge_begins fun c hc => ?_
      rintro ⟨hd, hn⟩
      split at hc
      · simp at hc
      · next straight => exact none_goes c ⟨mt turns.mpr straight, hc, hd, hn⟩
    rw [history, speed, begins]
    exact ⟨rfl, rfl⟩
  · have position : (if withheld dir o.position = true then o.position
        else movedPosition dir o.position) = if withholds then o.position
          else if dir = .up then o.position + 1 else o.position - 1 := by
      rw [if_congr held rfl rfl, movedPosition_eq]
    have travel : (if o.changesDirection dir = true then 0 else o.wheelTravel)
        = if turned then 0 else o.wheelTravel := if_congr turns rfl rfl
    have counts : (if o.changesDirection dir = true then 0 else o.netCounts) + (match dir with
          | .up => (1 : Int)
          | .down => -1)
        = (if turned then 0 else o.netCounts) + (if dir = .up then 1 else -1) := by
      rw [if_congr turns rfl rfl]; cases dir <;> rfl
    rw [unit, ← position, ← travel, ← counts]
    rfl
  · exact State.countedEdge_profile dir now s'
  · exact s'.countedEdge_brake_motion dir now
  · exact s'.countedEdge_doors dir now
  · have decided : decide withholds = withheld dir o.position := by
      rw [Bool.eq_iff_iff, decide_eq_true_iff, held]
    rw [State.countedEdge_hasFlag (by decide) (by decide), decided]
    simp only [decide_true, Bool.true_and, reduceCtorEq, decide_false, Bool.false_and, Bool.or_false]
    rfl
  · rw [State.countedEdge_hasFlag (by decide) (by decide)]
    simp only [decide_true, Bool.true_and, reduceCtorEq, decide_false, Bool.false_and, Bool.or_false]
    rfl

end Sys2Proof.Machine
end

section
/-! EMERGENCY_ACK: the checks in order, and the state after an accepted one (R39, R92, R99, R101, R104,
R109, R110, R112, R113, R118, R119, R133). -/

namespace Sys2Proof.Machine

/-! ### The checks (R109) -/

theorem exec_emergencyAck_refused {s : State} (h : s.Takes .emergencyAck) {refusal : Status}
    (refused : s.ackRefusal = some refusal) :
    exec .emergencyAck s = .next (s.answers .emergencyAck refusal []) := by
  refine (hostRequest_taken _ h).trans ?_
  simp only [refused]
  rfl

theorem exec_emergencyAck_accepted {s : State} (h : s.Takes .emergencyAck)
    (accepted : s.ackRefusal = none) :
    exec .emergencyAck s = .next (s.acknowledge.answers .emergencyAck .ok
      (u16 s.sup.causes.latchedOnly.bits ++ u8 (supCode s.acknowledge.sup.state))) := by
  refine (hostRequest_taken _ h).trans ?_
  simp only [accepted]
  rfl

/-! ### What the acknowledgment hands on -/

/-- The acknowledgment as the unit takes it: latches and line hold cleared, both supervisions judged
afresh, and the outputs re-formed (R133). -/
theorem Brake.takeAck_eq (t : Nat) (b : Brake) : b.takeAck t = Brake.reform t { b with
    bandFault := false, loopFault := false, lineHold := false
    bandTimer := if b.band = false ∧ b.bandSense.level = false then some t else b.bandTimer
    loopTimer := if b.loop = b.loopSense.level then b.loopTimer
      else some (b.loopTimer.getD Config.loopAgreementTime) } := by
  simp only [Brake.takeAck, Brake.loopAgrees, Bool.and_eq_true, Bool.not_eq_true', beq_iff_eq]
  by_cases applying : b.band = false ∧ b.bandSense.level = false
  · simp only [if_pos applying]; split <;> rfl
  · simp only [if_neg applying]; split <;> rfl

/-- An armed unit without a line hold or an asserted emergency line closes the loop in NORMAL (R123). -/
theorem Brake.loopWanted_normal {b : Brake} {d : Demand} (unit : b.unit = .armed)
    (released : b.emergAsserted = false) (hold : b.lineHold = false) :
    ({ b with supState := .normal, supDemand := d } : Brake).loopWanted = true := by
  have line : ({ b with supState := .normal, supDemand := d } : Brake).emergAsserted = false := released
  rw [Brake.loopWanted, line]
  simp [unit, hold]

theorem Radio.startIfQuiet_link (parity : Nat) (address : Byte) (r : Radio) :
    (r.startIfQuiet parity address).link = r.link := by
  unfold Radio.startIfQuiet Radio.startSelected
  (repeat' split) <;> rfl

theorem Radio.displace_link (r : Radio) : r.displace.link = r.link := by
  unfold Radio.displace
  dsimp only
  (repeat' split) <;> rfl

/-- An ALARM leaves the link status (R171, R186). -/
theorem Radio.alarmed_link (parity : Nat) (address : Byte) (body : List Byte) (r : Radio) :
    (r.alarmed parity address body).link = r.link := by
  unfold Radio.alarmed
  (repeat' split)
  · rfl
  · exact Radio.startIfQuiet_link _ _ _
  · rw [Radio.startIfQuiet_link]; exact r.displace_link
  · rfl

/-- What the computation does not read: the supervisor, the brake output unit, the port, the latches of
the odometry unit, and of the radio all but the link status (R74 to R96). -/
theorem State.compute_unread (s : State) (sup : Supervisor) (brake : Brake) (port : Port) (r : Radio)
    (link : r.link = s.radio.link) :
    ({ s with sup := sup, odo := s.odo.takeAck, brake := brake, port := port, radio := r } :
      State).compute = s.compute := by
  have kept : r = { r with link := s.radio.link } := by rw [← link]
  rw [kept]
  rfl

/-- The part when an acknowledgment has moved it to NORMAL, before its evaluation (R110, R112, R113). -/
theorem State.clearCauses_changeSupState (s : State) (emergency : s.sup.state = .emergency) :
    s.clearCauses.changeSupState .normal = { s with
      sup := { s.sup with
        state := .normal, causes := s.sup.causes.clearLatched, demand := ⟨0, false, false⟩ }
      odo := s.odo.takeAck
      brake := Brake.reform (s.param 27) { s.brake.takeAck (s.param 27) with
        supState := .normal, supDemand := ⟨0, false, false⟩ }
      radio := s.radio.alarmed (s.param 2) s.carAddress
        (u8 (supCode .normal) ++ u16 s.sup.causes.clearLatched.bits)
      port := { s.port with
        flags := if s.radio.alarmReports then setBit (setBit s.port.flags .supervision) .txDone
          else setBit s.port.flags .supervision } } := by
  have exits : alarms s.clearCauses.sup.state .normal = true := by
    have kept : s.clearCauses.sup.state = s.sup.state := rfl
    rw [kept, emergency]; rfl
  rw [State.changeSupState_eq, exits]
  rfl

/-- At standstill, with no cause and in NORMAL, an evaluation finds no cause and stays in NORMAL (R101,
R102). -/
theorem State.evaluate_still {s : State} (normal : s.sup.state = .normal)
    (still : s.odo.motion = false) (speed : s.odo.speed = 0)
    (causes : s.sup.causes.anyLatched = false) (line : s.sup.causes.emergencyLine = false) :
    s.evaluate = { s with
      sup := { s.sup with
        causes := ⟨false, false, false, false, false, false, false, false, false, false⟩
        permitted := s.compute.2.permitted, evalDir := some s.compute.1
        governing := s.compute.2.governing, shortfall := s.compute.2.shortfall
        overrunFinding := s.compute.2.overrun, excess := -(s.compute.2.permitted : Int)
        evalTimer := some (s.param 23) }
      port := { s.port with
        flags := if s.compute.2.shortfall && !s.sup.shortfall then setBit s.port.flags .shortfall
          else s.port.flags } } := by
  simp only [Causes.anyLatched, Bool.or_eq_false_iff] at causes
  have judged : s.judge = { s.sup with
      causes := ⟨false, false, false, false, false, false, false, false, false, false⟩
      permitted := s.compute.2.permitted, evalDir := some s.compute.1
      governing := s.compute.2.governing, shortfall := s.compute.2.shortfall
      overrunFinding := s.compute.2.overrun, excess := -(s.compute.2.permitted : Int) } := by
    have under : ¬(s.param 20 : Int) < -(s.compute.2.permitted : Int) := by omega
    simp [State.judge, still, speed, causes, line, under]
  have stays : s.nextSupState s.judge = .normal := by
    have state : s.judge.state = .normal := normal
    rw [State.nextSupState, state, judged]
    simp only [SupState.next, Causes.any, Causes.anyLatched, Causes.anyLive]
    rw [if_neg (by simp), if_neg (by omega), if_neg (by omega)]
  rw [State.evaluate_eq]
  dsimp only
  rw [stays, judged, normal, State.evaluatedFlags, normal, judged]
  rfl

theorem setBit_comm (flags : BitVec 15) (f g : Flag) :
    setBit (setBit flags f) g = setBit (setBit flags g) f := by
  simp only [setBit, BitVec.or_assoc, BitVec.or_comm (BitVec.twoPow 15 f.bit)]

/-- The whole part after an accepted acknowledgment at standstill, with no live cause but what the
evaluation judges (R109 to R113). -/
theorem State.acknowledge_eq {s : State} (emergency : s.sup.state = .emergency)
    (still : s.odo.motion = false) (speed : s.odo.speed = 0)
    (line : s.sup.causes.emergencyLine = false) :
    s.acknowledge = { s with
      sup := ⟨.normal, ⟨false, false, false, false, false, false, false, false, false, false⟩,
        -(s.compute.2.permitted : Int), ⟨0, false, false⟩, some (s.param 23), s.sup.emergIn,
        s.sup.doorsSecure, s.compute.2.permitted, some s.compute.1, s.compute.2.governing,
        s.compute.2.shortfall, s.compute.2.overrun⟩
      odo := s.odo.takeAck
      brake := Brake.reform (s.param 27) { s.brake.takeAck (s.param 27) with
        supState := .normal, supDemand := ⟨0, false, false⟩ }
      radio := s.radio.alarmed (s.param 2) s.carAddress
        (u8 (supCode .normal) ++ u16 s.sup.causes.clearLatched.bits)
      port := { s.port with
        flags :=
          let flags := setBit
            (if s.radio.alarmReports then setBit s.port.flags .txDone else s.port.flags) .supervision
          if s.compute.2.shortfall && !s.sup.shortfall then setBit flags .shortfall else flags } } := by
  have flags : (if s.radio.alarmReports then setBit (setBit s.port.flags .supervision) .txDone
      else setBit s.port.flags .supervision)
      = setBit (if s.radio.alarmReports then setBit s.port.flags .txDone else s.port.flags)
        .supervision := by
    split
    · exact setBit_comm _ _ _
    · rfl
  rw [State.acknowledge, State.clearCauses_changeSupState s emergency, flags]
  refine Eq.trans (State.evaluate_still ?_ ?_ ?_ ?_ ?_) ?_
  · rfl
  · exact still
  · exact speed
  · rfl
  · exact line
  · rw [State.compute_unread s _ _ _ _ (Radio.alarmed_link _ _ _ _)]
    rfl

/-- Settles O43: the checks in order, and then the state after the change to NORMAL and its evaluation. -/
theorem acknowledgmentEndsTheEmergency : Obligations.AcknowledgmentEndsTheEmergency := by
  intro s i h
  refine ⟨fun wrong => ?_, fun emergency armed moving => ?_, fun emergency armed still line => ?_,
    fun emergency armed still line good => ?_⟩
  · refine exec_emergencyAck_refused h ?_
    unfold State.ackRefusal
    split
    · rfl
    · next emergency => rw [if_pos (wrong.resolve_left emergency)]
  · exact exec_emergencyAck_refused h (by simp [State.ackRefusal, emergency, armed, moving])
  · exact exec_emergencyAck_refused h
      (by simp [State.ackRefusal, State.liveCause, emergency, armed, still, line])
  · intro c b r acked alarmed
    obtain ⟨-, -, -, -, -, -, -, -, emergIn, live, -⟩ := good.agree
    obtain ⟨-, -, -, -, -, stands, -⟩ := good.odo
    obtain ⟨speed, -, -⟩ := stands still
    have accepted : s.ackRefusal = none := by
      simp [State.ackRefusal, State.liveCause, emergency, armed, still, line]
    have acknowledged := State.acknowledge_eq emergency still speed (live.trans line)
    refine ⟨s.acknowledge, ?_, ?_, ?_, ?_⟩
    · refine (exec_emergencyAck_accepted h accepted).trans ?_
      rw [acknowledged]
      rfl
    · have asserted : s.brake.emergAsserted = false := emergIn.symm.trans line
      have wanted : s.acknowledge.brake.loop = ({ Brake.reform (s.param 27) acked with
          supState := .normal, supDemand := ⟨0, false, false⟩ } : Brake).loopWanted := by
        rw [acknowledged, Brake.takeAck_eq]
        exact (Brake.reform_switches _ _).1.trans (Brake.reform_loopWanted _ _)
      have formed : (Brake.reform (s.param 27) acked).unit = .armed
          ∧ (Brake.reform (s.param 27) acked).emergAsserted = false
          ∧ (Brake.reform (s.param 27) acked).lineHold = false := by
        rw [Brake.reform_eq]; exact ⟨armed, asserted, rfl⟩
      obtain ⟨unit, released, hold⟩ := formed
      exact wanted.trans (Brake.loopWanted_normal unit released hold)
    · rw [acknowledged]
      dsimp only
      split <;> simp [hasFlag_setBit]
    · have radio : alarmed.radio = _ := congrArg State.radio (State.handAlarm_eq _)
      have flags : alarmed.port.flags = _ :=
        congrArg (fun t : State => t.port.flags) (State.handAlarm_eq _)
      have shortfall : (r.shortfall && !s.sup.shortfall) = true
          ↔ r.shortfall = true ∧ s.sup.shortfall = false := by simp
      rw [acknowledged, Brake.takeAck_eq, radio, flags]
      simp only [← shortfall]
      rfl

end Sys2Proof.Machine
end

section
/-! What a command can do to the odometry unit. `OdoMove` lists the ways in which position, motion,
direction, speed, capture history and rollback count may change at a command that is no reset of the part,
and `exec_movesOdo` says that every such command's outcome is one of them; what every step keeps of the
unit, and what moves its position, is then a matter of seven cases. -/

namespace Sys2Proof.Machine

/-! ### What leaves the odometry unit alone -/

@[simp] theorem State.setFlagIf_odo (c : Bool) (f : Flag) (s : State) :
    (s.setFlagIf c f).odo = s.odo := (setFlagIf_reach c f s).odo
@[simp] theorem State.changeSupState_odo (new : SupState) (s : State) :
    (s.changeSupState new).odo = s.odo := (changeSupState_reach new s).odo
@[simp] theorem State.handCause_odo (f : Causes → Causes) (s : State) :
    (s.handCause f).odo = s.odo := (handCause_reach f s).odo
@[simp] theorem State.handEmergIn_odo (b : Bool) (s : State) :
    (s.handEmergIn b).odo = s.odo := (handEmergIn_reach b s).odo
@[simp] theorem State.handSecure_odo (b : Bool) (s : State) :
    (s.handSecure b).odo = s.odo := (handSecure_reach b s).odo
@[simp] theorem State.issueRecord_odo (src : IssueSource) (o : Origin) (b : IssueBody) (s : State) :
    (s.issueRecord src o b).1.odo = s.odo := (issueRecord_reach src o b s).odo
@[simp] theorem State.revokeSlot_odo (slot : Nat) (s : State) :
    (s.revokeSlot slot).odo = s.odo := (revokeSlot_reach slot s).odo
@[simp] theorem State.minuteExpiry_odo (s : State) : s.minuteExpiry.odo = s.odo :=
  (minuteExpiry_reach s).odo
@[simp] theorem State.setLink_odo (l : LinkStatus) (s : State) : (s.setLink l).odo = s.odo :=
  (setLink_reach l s).odo
@[simp] theorem State.judgeStart_odo (s : State) : s.judgeStart.odo = s.odo :=
  (judgeStart_reach s).odo
@[simp] theorem State.startFrame_odo (s : State) : s.startFrame.odo = s.odo :=
  (startFrame_reach s).odo
@[simp] theorem State.judgeMode_odo (s : State) : s.judgeMode.odo = s.odo := (judgeMode_reach s).odo
@[simp] theorem State.lineEvent_odo (s : State) : s.lineEvent.odo = s.odo := (lineEvent_reach s).odo
@[simp] theorem State.placeWaiting_odo (s : State) : s.placeWaiting.odo = s.odo :=
  (placeWaiting_reach s).odo
@[simp] theorem State.removeFirst_odo (test : QueueEntry → Bool) (r : TxResult) (s : State) :
    (s.removeFirst test r).odo = s.odo := (removeFirst_reach test r s).odo
@[simp] theorem State.removeEntries_odo (test : QueueEntry → Bool) (r : TxResult) (s : State) :
    (s.removeEntries test r).odo = s.odo := (removeEntries_reach test r s).odo
@[simp] theorem State.takeByte_odo (b : Byte) (e : Bool) (s : State) :
    (s.takeByte b e).odo = s.odo := (takeByte_reach b e s).odo
@[simp] theorem State.takeLooped_odo (s : State) : s.takeLooped.odo = s.odo := (takeLooped_reach s).odo
@[simp] theorem State.loopRest_odo (s : State) : s.loopRest.odo = s.odo := (loopRest_reach s).odo
@[simp] theorem State.finishTransmission_odo (s : State) : s.finishTransmission.odo = s.odo :=
  (finishTransmission_reach s).odo
@[simp] theorem State.frameArrives_odo (d src k : Byte) (body : List Byte) (s : State) :
    (s.frameArrives d src k body).odo = s.odo := (frameArrives_reach d src k body s).odo
@[simp] theorem State.makeReport_odo (s : State) : s.makeReport.odo = s.odo := (makeReport_reach s).odo

@[simp] theorem State.endTransmission_odo (s : State) : s.endTransmission.odo = s.odo := by
  unfold State.endTransmission; split <;> simp

@[simp] theorem State.commitDoors_odo (x : Doors × Bool) (s : State) :
    (s.commitDoors x).odo = s.odo := by
  unfold State.commitDoors; dsimp only; split <;> simp

@[simp] theorem State.doorEvent_odo (f : DoorTimes → Door → DoorStep) (id : DoorId) (s : State) :
    (s.doorEvent f id).odo = s.odo := State.commitDoors_odo _ s

@[simp] theorem State.grant_odo (side : Side) (override : Bool) (s : State) :
    (s.grant side override).odo = s.odo := by
  cases override <;> exact State.commitDoors_odo _ _

@[simp] theorem State.bandApplyExpiry_odo (s : State) : s.bandApplyExpiry.odo = s.odo := by
  unfold State.bandApplyExpiry State.brakeFault; dsimp only; split <;> simp

@[simp] theorem State.loopAgreementExpiry_odo (s : State) : s.loopAgreementExpiry.odo = s.odo := by
  unfold State.loopAgreementExpiry State.brakeFault; dsimp only; split <;> simp

@[simp] theorem State.afterSection_odo (sect : Nat) (s : State) :
    (s.afterSection sect).odo = s.odo := by
  unfold State.afterSection; split <;> rfl

@[simp] theorem State.acknowledge_odo (s : State) : s.acknowledge.odo = s.odo.takeAck := by
  simp [State.acknowledge, State.clearCauses]

/-! ### The ways in which the unit changes -/

/-- What of the unit the bounds of R22 to R27 and R37 speak of: all but the inputs, the latches, the
selected direction, the window and the marks of position. -/
def Odometry.travel (o : Odometry) : Odometry := { State.reset.odo with
  position := o.position, motion := o.motion, standstillTimer := o.standstillTimer
  measured := o.measured, speed := o.speed, history := o.history, rollback := o.rollback }

/-- What a command `i` that is no reset can make of the unit of a state: its travel stands, or a
POSITION_SET, a counted edge, an illegal transition, the entry to standstill, a marker snap or an
acknowledgment moves it, each under the checks that it passes (R21, R22, R24, R29, R31, R39). -/
inductive OdoMove (s : State) (i : Instr) (o : Odometry) : Prop
  | kept (h : o.travel = s.odo.travel)
  | set {p : U24} (brings : s.Brings i (.positionSet p)) (still : s.odo.motion = false)
      (fits : p.toNat ≤ Config.maxPosition)
      (h : o.travel = { s.odo with position := p.toNat }.travel)
  | edge {a b : Bool} {now : Micros} {dir : Dir}
      (source : i = .acceptedStep a b now ∨ i = .rawInputChange .pinA a now
        ∨ i = .rawInputChange .pinB b now)
      (h : o.travel = (s.odo.edge dir s.captureSize (s.param 8) now).travel)
  | illegal (h : o.travel = { s.odo with history := none }.travel)
  | standstill (h : o.travel = s.odo.standstill.travel)
  | snapped {level : Bool} {now : Micros} {c : Int}
      (source : i = .markerPulse level ∨ i = .rawInputChange .marker level now)
      (motion : s.odo.motion = true) (valid : s.odo.positionValid = true)
      (snap : snapCorrection s.odo.position (s.param 4) (s.param 5) s.profile.markers = some c)
      (correction : o.lastCorrection = c)
      (h : o.travel = { s.odo with position := (s.odo.position + c).toNat }.travel)
  | acknowledged (h : o.travel = { s.odo with rollback := 0 }.travel)

/-- The odometry unit after an outcome comes from that of a state by one of the ways above. -/
def MovesOdo (s : State) (i : Instr) (r : Result) : Prop := ∀ t, r = .next t → OdoMove s i t.odo

theorem movesOdo_of_move {s u : State} {i : Instr} (h : OdoMove s i u.odo) :
    MovesOdo s i (.next u) := by
  rintro t ⟨⟩; exact h

theorem movesOdo_of_kept {s u : State} {i : Instr} (h : u.odo = s.odo) : MovesOdo s i (.next u) :=
  movesOdo_of_move (.kept (congrArg _ h))

theorem movesOdo_unlessReset {s held : State} {i : Instr} {r : Result}
    (kept : held.odo.travel = s.odo.travel) (h : s.resetHeld = false → MovesOdo s i r) :
    MovesOdo s i (s.unlessReset held r) := by
  unfold State.unlessReset
  split
  · exact movesOdo_of_move (.kept kept)
  · next released => exact h (Bool.eq_false_iff.mpr released)

theorem movesOdo_takeSelection {frame : List Byte} {whole : Bool} {s : State} {i : Instr}
    {taken : Result} (h : s.resetHeld = false → MovesOdo s i taken) :
    MovesOdo s i (takeSelection frame whole s taken) := by
  refine movesOdo_unlessReset rfl fun released => ?_
  split
  · exact h released
  · exact movesOdo_of_kept rfl

theorem movesOdo_hostRequest {code : Byte} {params : List Byte} {s : State} {i : Instr}
    {taken : Result} (h : s.resetHeld = false → MovesOdo s i taken) :
    MovesOdo s i (hostRequest code params s taken) :=
  movesOdo_takeSelection h

/-- A command that acts only while RESET is released, and then leaves the unit alone. -/
theorem movesOdo_event {s u : State} {i : Instr} (h : u.odo = s.odo) :
    MovesOdo s i (s.unlessReset s (.next u)) :=
  movesOdo_unlessReset rfl fun _ => movesOdo_of_kept h

/-! ### The odometry commands -/

theorem execPositionSet_moves {p : U24} {s : State} {i : Instr}
    (h : s.resetHeld = false → s.Brings i (.positionSet p)) :
    MovesOdo s i (execPositionSet p s) := by
  refine movesOdo_hostRequest fun released => ?_
  split
  · exact movesOdo_of_kept rfl
  · next passes =>
    have still : s.odo.motion = false := by
      rw [← Bool.not_eq_true]
      intro moving
      simp [State.positionRefusal, moving] at passes
    have fits : p.toNat ≤ Config.maxPosition := by
      by_contra beyond
      simp [State.positionRefusal, still, Nat.not_le.mp beyond] at passes
    refine movesOdo_of_move (.set (h released) still fits ?_)
    exact (congrArg Odometry.travel (State.evaluate_odo _)).trans rfl

theorem execDirectionSelect_moves (d : Byte) (s : State) (i : Instr) :
    MovesOdo s i (execDirectionSelect d s) := by
  refine movesOdo_hostRequest fun _ => ?_
  split
  · exact movesOdo_of_kept rfl
  · split
    · exact movesOdo_of_kept rfl
    · exact movesOdo_of_move (.kept ((congrArg Odometry.travel (State.evaluate_odo _)).trans rfl))

theorem execEmergencyAck_moves (s : State) (i : Instr) : MovesOdo s i (execEmergencyAck s) := by
  refine movesOdo_hostRequest fun _ => ?_
  split
  · exact movesOdo_of_kept rfl
  · exact movesOdo_of_move (.acknowledged ((congrArg Odometry.travel s.acknowledge_odo).trans rfl))

/-- A fault is latched beside the travel of the unit (R39). -/
@[simp] theorem Odometry.latch_travel (f : OdoFault) (o : Odometry) :
    (o.latch f).travel = o.travel := by
  cases f <;> rfl

@[simp] theorem State.odoFault_travel (f : OdoFault) (s : State) :
    (s.odoFault f).odo.travel = s.odo.travel := by
  rw [State.odoFault_odo, Odometry.latch_travel]

/-- An accepted step is no step, a counted edge or an illegal transition (R19 to R21). -/
theorem pinionStep_moves {a b : Bool} {now : Micros} {s : State} {i : Instr}
    (source : i = .acceptedStep a b now ∨ i = .rawInputChange .pinA a now
      ∨ i = .rawInputChange .pinB b now) : OdoMove s i (s.pinionStep a b now).odo := by
  unfold State.pinionStep
  dsimp only
  split
  · exact .kept rfl
  · next dir _ =>
    refine .edge (dir := dir) source ?_
    rw [State.countedEdge_odo]
    rfl
  · exact .illegal (State.odoFault_travel _ _)

theorem State.wheelTurn_travel (s : State) : s.wheelTurn.odo.travel = s.odo.travel := by
  unfold State.wheelTurn
  dsimp only
  split
  · rfl
  · split
    · exact State.odoFault_travel _ _
    · rfl

/-- A change of WHEEL moves the window and the latch alone (R33 to R35). -/
theorem wheelChange_moves (level : Bool) (s : State) (i : Instr) :
    OdoMove s i (s.wheelChange level).odo := by
  refine .kept ?_
  unfold State.wheelChange
  dsimp only
  split
  · exact State.wheelTurn_travel _
  · rfl

/-- A change of MARKER snaps position, or leaves the unit but for the input (R30 to R32). -/
theorem markerChange_moves {level : Bool} {now : Micros} {s : State} {i : Instr}
    (source : i = .markerPulse level ∨ i = .rawInputChange .marker level now) :
    OdoMove s i (s.markerChange level).odo := by
  unfold State.markerChange State.markerPass
  dsimp only
  split
  · split
    · next taken =>
      obtain ⟨motion, valid⟩ := Bool.and_eq_true_iff.mp taken
      split
      · next c snap =>
        refine .snapped source motion valid snap ?_ ?_
        · exact congrArg Odometry.lastCorrection (State.evaluate_odo _)
        · exact (congrArg Odometry.travel (State.evaluate_odo _)).trans rfl
      · exact .kept rfl
    · exact .kept rfl
  · exact .kept rfl

/-! ### The other commands -/

theorem execFrameError_movesOdo (bytes : List Byte) (whole : Bool) (s : State) (i : Instr) :
    MovesOdo s i (execFrameError bytes whole s) := by
  refine movesOdo_takeSelection fun _ => ?_
  split
  · exact movesOdo_of_kept rfl
  · split <;> exact movesOdo_of_kept rfl

/-- A request that the port takes moves the unit as chapter 2 says, at EMERGENCY_ACK and SOFT_RESET as
R39 and R203 do; the other requests leave it alone. -/
theorem takeRequest_movesOdo {request i : Instr} {s : State}
    (brings : s.resetHeld = false → s.Brings i request) : MovesOdo s i (s.takeRequest request) := by
  cases request with
  | positionSet => exact execPositionSet_moves brings
  | directionSelect d => exact execDirectionSelect_moves d s i
  | emergencyAck => exact execEmergencyAck_moves s i
  | softReset =>
    refine movesOdo_hostRequest fun _ => ?_
    split
    · exact movesOdo_of_kept rfl
    · exact movesOdo_of_move (.standstill rfl)
  | profileRead | tableList | flagsReadClear | flagsEnable =>
    exact movesOdo_hostRequest fun _ => movesOdo_of_kept rfl
  | profileWrite | profileClose | profileClear | lockRaise | configRead | recordRead
  | recordFind | mailboxRead | mailboxRelease =>
    refine movesOdo_hostRequest fun _ => ?_
    (repeat' split) <;> exact movesOdo_of_kept rfl
  | recordIssue =>
    refine movesOdo_hostRequest fun _ => ?_
    split
    · exact movesOdo_of_kept rfl
    · exact movesOdo_of_kept (State.issueRecord_odo _ _ _ s)
  | radioAbortAll => exact movesOdo_hostRequest fun _ => movesOdo_of_kept (by simp)
  | recordRevoke | lossAck | doorRelease | doorOpen | doorClose | brakeDemand | radioMode | radioSend
  | statusRead =>
    refine movesOdo_hostRequest fun _ => ?_
    (repeat' split) <;> exact movesOdo_of_kept (by simp)
  | configWrite | doorReset | radioAbort =>
    refine movesOdo_hostRequest fun _ => ?_
    dsimp only
    (repeat' split) <;> exact movesOdo_of_kept (by simp)
  | _ => exact movesOdo_of_kept rfl

/-- The deselection in RECEIVING moves the unit as the request in the buffer does. -/
theorem takeBuffer_movesOdo {now : Micros} {s : State} (receiving : s.port.state = .receiving) :
    MovesOdo s (.rawInputChange .select false now) s.takeBuffer := by
  unfold State.takeBuffer
  split
  · next request read =>
    exact takeRequest_movesOdo fun released => ⟨released, .inr ⟨⟨now, rfl⟩, receiving, read⟩⟩
  · exact execFrameError_movesOdo _ _ _ _

/-- A change of an input moves the unit at the four odometry inputs, and at the deselection of a request,
unless RESET is asserted then. -/
theorem execRawInputChange_movesOdo {input : InputId} {level : Bool} {now : Micros} {s : State}
    (h : ¬s.Resets (.rawInputChange input level now)) :
    MovesOdo s (.rawInputChange input level now) (execRawInputChange input level now s) := by
  have released : s.resetHeld = false := by
    by_contra held
    exact h (.inr ⟨input, level, now, rfl, .inl (by simpa using held)⟩)
  unfold execRawInputChange
  dsimp only
  rw [State.unlessReset_released _ _ released]
  cases input with
  | pinA =>
    dsimp only
    split
    · exact movesOdo_of_move (pinionStep_moves (.inr (.inl rfl)))
    · exact movesOdo_of_move (.kept rfl)
  | pinB =>
    dsimp only
    split
    · exact movesOdo_of_move (pinionStep_moves (.inr (.inr rfl)))
    · exact movesOdo_of_move (.kept rfl)
  | wheel =>
    dsimp only
    split
    · exact movesOdo_of_move (wheelChange_moves _ _ _)
    · exact movesOdo_of_move (.kept rfl)
  | marker =>
    dsimp only
    split
    · exact movesOdo_of_move (markerChange_moves (.inr rfl))
    · exact movesOdo_of_move (.kept rfl)
  | emergIn | loopSense | bandSense | door | sclk | sdi => exact movesOdo_of_kept rfl
  | select =>
    dsimp only
    unfold State.selectChange
    split
    · exact movesOdo_of_kept rfl
    · next low =>
      obtain rfl := Bool.eq_false_iff.mpr low
      split
      · next ready => exact takeBuffer_movesOdo (by simpa [State.readyHigh] using ready)
      · exact movesOdo_of_kept rfl
  | reset =>
    dsimp only
    split
    · next asserted => exact absurd (.inr ⟨_, _, now, rfl, .inr ⟨rfl, asserted⟩⟩) h
    · exact movesOdo_of_kept rfl

/-- A change of an input of one door leaves the unit alone. -/
theorem movesOdo_doorInput {c : Prop} [Decidable c] {f : DoorTimes → Door → DoorStep} {id : DoorId}
    {s : State} {i : Instr} :
    MovesOdo s i (s.unlessReset s (if c then .next s else .next (s.doorEvent f id))) := by
  refine movesOdo_unlessReset rfl fun _ => ?_
  split <;> exact movesOdo_of_kept (by simp)

/-- Every command that is no reset of the part moves the unit in one of the ways of `OdoMove`. -/
theorem exec_movesOdo {i : Instr} {s : State} (h : ¬s.Resets i) : MovesOdo s i (exec i s) := by
  cases i with
  | powerOnReset => exact absurd (.inl rfl) h
  | rawInputChange => exact execRawInputChange_movesOdo h
  | frameError bytes whole => exact execFrameError_movesOdo bytes whole s _
  | acceptedStep a b now =>
    exact movesOdo_unlessReset rfl fun _ => movesOdo_of_move (pinionStep_moves (.inl rfl))
  | standstillTimerExpiry =>
    refine movesOdo_unlessReset rfl fun _ => ?_
    split
    · exact movesOdo_of_move (.standstill rfl)
    · exact movesOdo_of_kept rfl
  | wheelPulse level =>
    refine movesOdo_unlessReset rfl fun _ => ?_
    split
    · exact movesOdo_of_kept rfl
    · exact movesOdo_of_move (wheelChange_moves _ _ _)
  | markerPulse level =>
    refine movesOdo_unlessReset rfl fun _ => ?_
    split
    · exact movesOdo_of_kept rfl
    · exact movesOdo_of_move (markerChange_moves (now := 0) (.inl rfl))
  | receivedByte source =>
    cases source with
    | modem => exact movesOdo_event (by split <;> simp)
    | looped => exact movesOdo_event (by simp)
    | sdi => exact movesOdo_unlessReset rfl fun _ => movesOdo_of_kept rfl
  | silenceTimerExpiry =>
    refine movesOdo_unlessReset rfl fun _ => ?_
    split
    · exact movesOdo_of_kept (State.lineEvent_odo _)
    · exact movesOdo_of_kept rfl
  | responseReadout | requestSelectionFirstClock | carrierChange =>
    exact movesOdo_unlessReset rfl fun _ => movesOdo_of_kept (by simp)
  | doorButtonPress | doorObstruction | doorOpenEnd | doorClosedChange | doorLockedChange =>
    exact movesOdo_doorInput
  | modeChange | transmissionStart | waitingItemsPlaced | issue | revoke | poll | tableQuery | text
  | linkCheck | frameNotUsed => exact movesOdo_event (by simp)
  | protocolBytesIgnored | minuteTimerExpiry | evaluationTimerExpiry | emergInAsserted
  | emergInReleased | loopSenseChange | bandSenseChange | rampTimerExpiry | overlapTimerExpiry
  | bandApplyTimerExpiry | loopAgreementTimerExpiry | doorMotionTimerExpiry | doorLockTimerExpiry
  | linkTimerExpiry | endOfTransmission | loopedFrame | reportTimerExpiry =>
    exact movesOdo_event (by split <;> simp)
  | _ =>
    rw [← State.takeRequest_eq_exec rfl]
    exact takeRequest_movesOdo fun released => ⟨released, .inl rfl⟩

end Sys2Proof.Machine
end

section
/-! What moves the position, and what every step keeps of the odometry unit: the moves of `OdoMove`, case
by case (R22 to R27, R29, R31, R37, R202). -/

namespace Sys2Proof.Machine

/-- A reset of the part leaves the travel of the unit as power-on has it (R202). -/
theorem exec_resets_travel {i : Instr} {s t : State} (h : s.Resets i) (he : exec i s = .next t) :
    t.odo.travel = State.reset.odo.travel := by
  obtain rfl | ⟨input, level, now, rfl, hr⟩ := h
  · cases he; rfl
  · change execRawInputChange input level now s = .next t at he
    unfold execRawInputChange at he
    dsimp only at he
    cases held : s.resetHeld with
    | true => rw [State.unlessReset_held _ _ held] at he; cases he; rfl
    | false =>
      obtain hr | ⟨rfl, rfl⟩ := hr
      · simp [held] at hr
      · rw [State.unlessReset_released _ _ held] at he; cases he; rfl

/-! ### Position moves only by its events (R22, R23, R29, R31, R202) -/

/-- A snap is made within the window, and does not carry position below 0 (R31). -/
theorem snapCorrection_within {position offset window : Nat} {markers : List Nat} {c : Int}
    (h : snapCorrection position offset window markers = some c) :
    c.natAbs ≤ window ∧ 0 ≤ (position : Int) + c := by
  unfold snapCorrection at h
  split at h
  · simp at h
  · dsimp only at h
    split at h
    · next within => cases h; exact within
    · simp at h

theorem position_of_travel {o p : Odometry} (h : o.travel = p.travel) : o.position = p.position := by
  have position : o.travel.position = p.travel.position := congrArg Odometry.position h
  exact position

/-- An edge that moves position moves it by one count (R22). -/
theorem Odometry.edge_position (dir : Dir) (size timer : Nat) (now : Micros) (o : Odometry) :
    let position := (o.edge dir size timer now).position
    position = o.position ∨ position = o.position + 1 ∨ o.position = position + 1 := by
  dsimp only [Odometry.edge]
  cases held : withheld dir o.position with
  | true => exact .inl rfl
  | false =>
    right
    cases dir with
    | up => exact .inl rfl
    | down =>
      have above : o.position ≠ 0 := by simpa [withheld] using held
      simp only [movedPosition, if_neg Bool.false_ne_true]
      omega

/-- Settles O15: of the ways of `OdoMove` the setting, the edge and the snap move position. -/
theorem positionMovesOnlyByItsEvents : Obligations.PositionMovesOnlyByItsEvents := by
  intro i s t he moved
  by_cases reset : s.Resets i
  · exact .inr (.inl ⟨reset, position_of_travel (exec_resets_travel reset he)⟩)
  cases exec_movesOdo reset t he with
  | kept h => exact absurd (position_of_travel h) moved
  | @set p brings still fits h => exact .inl ⟨p, brings, still, position_of_travel h⟩
  | @edge a b now dir source h =>
    have position := position_of_travel h
    obtain stays | steps := s.odo.edge_position dir s.captureSize (s.param 8) now
    · exact absurd (position.trans stays) moved
    · rw [← position] at steps
      exact .inr (.inr (.inl ⟨steps, a, b, now, source⟩))
  | illegal h => exact absurd (position_of_travel h) moved
  | standstill h => exact absurd (position_of_travel h) moved
  | @snapped level now c source motion valid snap correction h =>
    obtain ⟨window, low⟩ := snapCorrection_within snap
    have position : t.odo.position = (s.odo.position + c).toNat := position_of_travel h
    refine .inr (.inr (.inr ⟨motion, valid, ?_, ?_, level, now, source⟩))
    · rw [position, correction, Int.toNat_of_nonneg low]
    · rw [correction]; exact window
  | acknowledged h => exact absurd (position_of_travel h) moved

/-! ### The bounds of the unit (R22, R24 to R27, R37) -/

theorem Odometry.good_travel (o : Odometry) : o.travel.Good ↔ o.Good := Iff.rfl

/-- Bounds of the unit go by its travel alone. -/
theorem Odometry.good_of_travel {o p : Odometry} (h : o.travel = p.travel) (good : p.Good) : o.Good := by
  rw [← Odometry.good_travel, h]; exact good

/-- The position of a snap is a marker's less the offset of the sensor (R31). -/
theorem snapCorrection_marker {position offset window : Nat} {markers : List Nat} {c : Int}
    (sorted : markers.Pairwise (· < ·))
    (h : snapCorrection position offset window markers = some c) :
    ∃ m ∈ markers, (position : Int) + c = m - offset := by
  cases hn : nearest (position + offset) markers with
  | none => simp [snapCorrection, hn] at h
  | some m =>
    refine ⟨m, (nearest_spec sorted hn).1, ?_⟩
    rw [snapCorrection_of_nearest hn] at h
    split at h
    · cases h; omega
    · simp at h

/-- A served marker is the start of a segment, below the end of the range (R1, R10). -/
theorem Profile.marker_le {p : Profile} (h : p.SegmentsGood) {m : Nat} (hm : m ∈ p.markers) :
    m ≤ Config.maxPosition := by
  obtain ⟨g, e, served, -, rfl⟩ := Profile.mem_markers.mp hm
  obtain ⟨-, -, -, inRange⟩ := h
  have held : g ∈ p.segments := by
    unfold Profile.track at served
    split at served
    · next lineEnd _ _ =>
      rw [← withEnds_map_fst lineEnd p.segments]
      exact List.mem_map_of_mem (f := Prod.fst) served
    · simp at served
  obtain ⟨start, -⟩ := inRange g held
  exact start.trans (by decide)

/-- A capture group has an edge (R26). -/
theorem captureGroup_pos (code : Nat) : 0 < captureGroup code := by
  unfold captureGroup; split <;> decide

/-- An edge leaves its group unfinished (R26). -/
theorem captureEdge_unfinished {dir : Dir} {n : Nat} (now : Micros) {history : Option Capture}
    (pos : 0 < n) (h : ∀ c ∈ history, c.count < c.size) :
    (captureEdge dir n now history).1.count < (captureEdge dir n now history).1.size := by
  unfold captureEdge
  split
  · next c =>
    split
    · split
      · exact pos
      · next goesOn unfinished =>
        have room : c.count < c.size := h c rfl
        obtain ⟨-, size⟩ := goesOn
        show c.count + 1 < c.size
        omega
    · exact pos
  · exact pos

/-- The speed of a capture lies in its range (R27). -/
theorem captureEdge_speed_le (dir : Dir) (n : Nat) (now : Micros) (history : Option Capture) :
    ∀ v ∈ (captureEdge dir n now history).2, v ≤ Config.maxSpeed := by
  unfold captureEdge
  (repeat' split) <;> rintro v ⟨⟩
  exact Nat.min_le_left _ _

/-- The speed that an edge leaves: the new one of a capture, 0 at a direction change, and otherwise the
one there was (R25, R27). -/
theorem Odometry.edge_speed (dir : Dir) (size timer : Nat) (now : Micros) (o : Odometry) :
    (o.edge dir size timer now).speed
      = (captureEdge dir size now (if o.changesDirection dir then none else o.history)).2.getD
        (if o.changesDirection dir then 0 else o.speed) := rfl

theorem Odometry.edge_speed_le {o : Odometry} (h : o.speed ≤ Config.maxSpeed) (dir : Dir)
    (size timer : Nat) (now : Micros) : (o.edge dir size timer now).speed ≤ Config.maxSpeed := by
  rw [Odometry.edge_speed]
  have captured := captureEdge_speed_le dir size now
    (if o.changesDirection dir then none else o.history)
  cases new : (captureEdge dir size now (if o.changesDirection dir then none else o.history)).2 with
  | some v => exact captured v new
  | none =>
    rw [Option.getD_none]
    split
    · exact Nat.zero_le _
    · exact h

/-- A counted edge keeps the unit within its bounds (R22, R24 to R27, R37). -/
theorem Odometry.edge_good {dir : Dir} {size : Nat} (timer : Nat) (now : Micros) {o : Odometry}
    (pos : 0 < size) (good : o.Good) : (o.edge dir size timer now).Good := by
  obtain ⟨position, speed, rollback, -, -, -, history⟩ := good
  have before : ∀ c ∈ (if o.changesDirection dir then none else o.history), c.count < c.size := by
    split
    · simp
    · exact history
  have unfinished := captureEdge_unfinished (dir := dir) now pos before
  refine ⟨?_, Odometry.edge_speed_le speed dir size timer now, ?_, by simp [Odometry.edge],
    by simp [Odometry.edge], by simp [Odometry.edge], ?_⟩
  · dsimp only [Odometry.edge]
    split
    · exact position
    · next moves =>
      cases dir <;> simp only [withheld, movedPosition, decide_eq_true_eq] at moves ⊢ <;> omega
  · dsimp only [Odometry.edge, rollbackAfter]
    split
    · omega
    · exact Nat.min_le_right _ _
  · rintro c ⟨⟩
    exact unfinished

/-- Every move of the unit keeps it good. -/
theorem OdoMove.good {s : State} {i : Instr} {o : Odometry} (move : OdoMove s i o)
    (segments : s.profile.SegmentsGood) (good : s.odo.Good) : o.Good := by
  obtain ⟨position, speed, rollback, timer, measured, stands, history⟩ := id good
  cases move with
  | kept h => exact Odometry.good_of_travel h good
  | set brings still fits h =>
    exact Odometry.good_of_travel h ⟨fits, speed, rollback, timer, measured, stands, history⟩
  | edge source h =>
    exact Odometry.good_of_travel h (Odometry.edge_good _ _ (captureGroup_pos _) good)
  | illegal h =>
    refine Odometry.good_of_travel h
      ⟨position, speed, rollback, timer, measured, fun still => ?_, by simp⟩
    obtain ⟨still, count, -⟩ := stands still
    exact ⟨still, count, rfl⟩
  | standstill h =>
    refine Odometry.good_of_travel h ⟨position, Nat.zero_le _, Nat.zero_le _, ?_, ?_, ?_, ?_⟩ <;>
      simp [Odometry.standstill]
  | snapped source motion valid snap correction h =>
    obtain ⟨m, served, lands⟩ := snapCorrection_marker (Profile.markers_sorted segments) snap
    have bound := Profile.marker_le segments served
    refine Odometry.good_of_travel h ⟨?_, speed, rollback, timer, measured, stands, history⟩
    rw [lands]
    have below : ((m : Int) - s.param 4).toNat ≤ m := by omega
    exact below.trans bound
  | acknowledged h =>
    refine Odometry.good_of_travel h
      ⟨position, speed, Nat.zero_le _, timer, measured, fun still => ?_, history⟩
    obtain ⟨still, -, empty⟩ := stands still
    exact ⟨still, rfl, empty⟩

theorem reset_odo_good : State.reset.odo.Good := by decide

/-- Settles O5: a reset brings the power-on values, and every other command is a move of the unit. -/
theorem odometryStaysGood : Obligations.OdometryStaysGood := by
  intro s t hs segments good
  unfold step at hs
  split at hs
  · cases hs; exact good
  · next c rest _ =>
    by_cases hr : (s.withPending rest).Resets c
    · exact Odometry.good_of_travel (exec_resets_travel hr hs) reset_odo_good
    · exact (exec_movesOdo hr t hs).good segments good

end Sys2Proof.Machine
end

section
/-! What the table engine and the radio do to the supervisor and to the brake output unit: nothing but the
evaluations that they start. `Evaluates s t` says that a state comes from another by evaluations and by
changes outside the supervision; what an evaluation keeps, such an operation keeps. -/

namespace Sys2Proof.Machine

/-- Only the table, the radio, the free-value counter and the port differ. -/
def Outside (s t : State) : Prop :=
  t = { s with table := t.table, radio := t.radio, free := t.free, port := t.port }

/-- The state `t` comes from `s` by evaluations, and by changes of the table, the radio, the free-value
counter and the port. -/
inductive Evaluates (s : State) : State → Prop
  | refl : Evaluates s s
  | outside {t u : State} (h : Evaluates s t) (rest : Outside t u) : Evaluates s u
  | evaluate {t : State} (h : Evaluates s t) : Evaluates s t.evaluate

theorem ReachRadio.outside {s t : State} (h : ReachRadio s t) : Outside s t := by
  unfold ReachRadio at h; unfold Outside; rw [h]

theorem Evaluates.of_outside {s t : State} (h : Outside s t) : Evaluates s t := .outside .refl h

theorem ReachRadio.evaluates {s t : State} (h : ReachRadio s t) : Evaluates s t := .of_outside h.outside

theorem Evaluates.trans {s t u : State} (h : Evaluates s t) (k : Evaluates t u) : Evaluates s u := by
  induction k with
  | refl => exact h
  | outside _ rest ih => exact ih.outside rest
  | evaluate _ ih => exact ih.evaluate

/-- What evaluations keep, and changes outside the supervision keep, a state that comes by them keeps. -/
theorem Evaluates.keeps {P : State → Prop} {s t : State} (h : Evaluates s t)
    (outside : ∀ t u, Outside t u → P t → P u) (evaluate : ∀ t, P t → P t.evaluate) (hs : P s) : P t := by
  induction h with
  | refl => exact hs
  | outside _ rest ih => exact outside _ _ rest ih
  | evaluate _ ih => exact evaluate _ ih

theorem Evaluates.after {s t u : State} (k : Evaluates t u) (rest : Outside s t) : Evaluates s u :=
  (Evaluates.of_outside rest).trans k

theorem evaluate_evaluates (s : State) : Evaluates s s.evaluate := Evaluates.refl.evaluate

theorem evaluateIf_evaluates (c : Bool) (s : State) : Evaluates s (s.evaluateIf c) := by
  cases c
  · exact .refl
  · exact Evaluates.refl.evaluate

/-! ### The table engine -/

theorem issueRecord_evaluates (src : IssueSource) (o : Origin) (b : IssueBody) (s : State) :
    Evaluates s (s.issueRecord src o b).1 := by
  unfold State.issueRecord
  split
  · exact .refl
  · refine Evaluates.trans ?_ (evaluateIf_evaluates _ _)
    refine Evaluates.trans ?_ (setFlagIf_reach _ _ _).evaluates
    exact Evaluates.after (setFlagIf_reach _ _ _).evaluates rfl

theorem revokeSlot_evaluates (slot : Nat) (s : State) : Evaluates s (s.revokeSlot slot) :=
  Evaluates.after (evaluate_evaluates _) rfl

theorem minuteExpiry_evaluates (s : State) : Evaluates s s.minuteExpiry := by
  unfold State.minuteExpiry
  refine Evaluates.trans ?_ (evaluateIf_evaluates _ _)
  exact Evaluates.after (setFlagIf_reach _ _ _).evaluates rfl

/-! ### Messages -/

theorem setLink_evaluates (l : LinkStatus) (s : State) : Evaluates s (s.setLink l) := by
  unfold State.setLink
  split
  · exact .refl
  · exact Evaluates.after (evaluate_evaluates _) rfl

theorem linkHeard_evaluates (s : State) : Evaluates s s.linkHeard :=
  Evaluates.after (setLink_evaluates _ _) rfl

theorem processStation_evaluates (f : Frame) (s : State) : Evaluates s (s.processStation f).1 := by
  unfold State.processStation
  split
  · split
    · exact issueRecord_evaluates _ _ _ s
    · exact .refl
  · split
    · split
      · dsimp only [State.processRevoke]
        split
        · exact revokeSlot_evaluates _ s
        · exact .refl
      · exact .refl
    · split
      · exact .refl
      · split
        · exact .refl
        · split
          · exact (deliver_reach f s).evaluates
          · exact .refl

theorem processFrame_evaluates (f : Frame) (s : State) : Evaluates s (s.processFrame f).1 := by
  unfold State.processFrame
  dsimp only
  split
  · exact Evaluates.after (deliver_reach f _).evaluates rfl
  · have h : Evaluates s ((s.onRadio fun r => { r with busy := true }).processStation f).1 :=
      Evaluates.after (processStation_evaluates f _) rfl
    split
    · split
      · split
        · exact h.trans (placeAnswer_reach _ _).evaluates
        · exact h.outside rfl
      · exact h
    · exact h

theorem takeFrames_evaluates (n : Nat) (i : BufId) (s : State) : Evaluates s (s.takeFrames n i) := by
  induction n generalizing i s with
  | zero => exact .refl
  | succ n ih =>
    unfold State.takeFrames
    dsimp only
    have h : Evaluates s ((s.onRadio (Radio.moveBuf .processing i)).processFrame
        (frameOf ((s.onRadio (Radio.moveBuf .processing i)).radio.buf i).content)).1 :=
      Evaluates.after (processFrame_evaluates _ _) rfl
    split
    · split
      · exact h.trans (.after (ih _ _) rfl)
      · exact h.outside rfl
    · exact h

theorem finishProcessing_evaluates (s : State) : Evaluates s s.finishProcessing := by
  unfold State.finishProcessing
  cases s.radio.findBuf .processing <;> dsimp only <;> split
  · exact takeFrames_evaluates _ _ _
  · exact .of_outside rfl
  · exact Evaluates.after (takeFrames_evaluates _ _ _) rfl
  · exact .of_outside rfl

theorem handFrame_evaluates (i : BufId) (s : State) : Evaluates s (s.handFrame i) := by
  unfold State.handFrame
  split
  · exact .of_outside rfl
  · exact takeFrames_evaluates _ _ _

theorem placeWaitingAnswer_evaluates (s : State) : Evaluates s s.placeWaitingAnswer := by
  unfold State.placeWaitingAnswer
  split
  · split
    · exact Evaluates.after (finishProcessing_evaluates _) rfl
    · exact .refl
  · exact .refl

theorem placeWaiting_evaluates (s : State) : Evaluates s s.placeWaiting :=
  (placePending_reach s).evaluates.trans (placeWaitingAnswer_evaluates _)

theorem changeMode_evaluates (s : State) : Evaluates s s.changeMode := by
  unfold State.changeMode
  dsimp only
  refine Evaluates.trans ?_ (startFrame_reach _).evaluates
  refine Evaluates.trans ?_ (evaluateIf_evaluates _ _)
  refine Evaluates.trans ?_ (placeWaiting_evaluates _)
  refine Evaluates.trans ?_ (setFlagIf_reach _ _ _).evaluates
  refine Evaluates.trans ?_ (onRadio_reach _ _).evaluates
  split
  · exact Evaluates.after (enterQuietMode_reach _).evaluates rfl
  · split <;> exact .of_outside rfl

theorem judgeMode_evaluates (s : State) : Evaluates s s.judgeMode := by
  unfold State.judgeMode
  split
  · exact changeMode_evaluates s
  · exact .of_outside rfl

theorem lineEvent_evaluates (s : State) : Evaluates s s.lineEvent := by
  unfold State.lineEvent
  split
  · split
    · dsimp only
      split
      · exact Evaluates.after (startFrame_reach _).evaluates rfl
      · exact Evaluates.after (changeMode_evaluates _) rfl
    · exact changeMode_evaluates s
  · exact (judgeStart_reach s).evaluates

/-! ### The receive assembler -/

theorem frameChecked_evaluates (i : BufId) (s : State) : Evaluates s (s.frameChecked i) := by
  unfold State.frameChecked
  split
  · exact handFrame_evaluates i s
  · split
    · exact (linkHeard_evaluates s).trans (handFrame_evaluates i _)
    · exact .of_outside rfl

theorem takeFrameEnd_evaluates (s : State) : Evaluates s s.takeFrameEnd := by
  unfold State.takeFrameEnd
  split
  · dsimp only
    split
    · exact .of_outside rfl
    · exact Evaluates.after (frameChecked_evaluates _ _) rfl
  · exact .refl

theorem takeSymbol_evaluates (x : Symbol) (s : State) : Evaluates s (s.takeSymbol x) := by
  unfold State.takeSymbol
  split
  · exact .refl
  · exact (takeData_reach _ s).evaluates
  · exact (takeFrameStart_reach s).evaluates
  · exact takeFrameEnd_evaluates s
  · split <;> exact .of_outside rfl

theorem takeByte_evaluates (b : Byte) (e : Bool) (s : State) : Evaluates s (s.takeByte b e) := by
  unfold State.takeByte
  dsimp only
  have h : Evaluates s (if e = true then s.takeLineError
      else State.takeSymbol (decodeMark s.radio.markLatch b).1
        (s.onRadio fun r => { r with markLatch := (decodeMark s.radio.markLatch b).2 })) := by
    split
    · exact (takeLineError_reach s).evaluates
    · exact Evaluates.after (takeSymbol_evaluates _ _) rfl
  revert h
  generalize (if e = true then s.takeLineError else _) = u
  intro h
  split
  · exact h.trans (.after (lineEvent_evaluates _) rfl)
  · exact h.outside rfl

theorem takeLooped_evaluates (s : State) : Evaluates s s.takeLooped := by
  unfold State.takeLooped
  split
  · split
    · exact Evaluates.after (takeByte_evaluates _ _ _) rfl
    · exact .refl
  · exact .refl

theorem loopRest_evaluates (s : State) : Evaluates s s.loopRest := by
  unfold State.loopRest
  split
  · next t _ =>
    generalize t.line = bytes
    clear * -
    induction bytes generalizing s with
    | nil => exact .refl
    | cons b bs ih => exact (takeLooped_evaluates s).trans (ih _)
  · exact .refl

theorem frameArrives_evaluates (d src k : Byte) (body : List Byte) (s : State) :
    Evaluates s (s.frameArrives d src k body) := by
  unfold State.frameArrives
  dsimp only
  split
  · have h : Evaluates s (State.takeFrameStart (s.onRadio fun r => { r with markLatch := false })) :=
      Evaluates.after (takeFrameStart_reach _).evaluates rfl
    split
    · split
      · exact h.trans (.after ((takeFrameEnd_evaluates _).trans (lineEvent_evaluates _)) rfl)
      · exact h.trans (.after (lineEvent_evaluates _) rfl)
    · exact h
  · exact .refl

theorem endTransmission_evaluates (s : State) : Evaluates s s.endTransmission := by
  unfold State.endTransmission
  dsimp only
  refine Evaluates.trans ?_ (lineEvent_evaluates _)
  refine Evaluates.trans ?_ (placeWaiting_evaluates _)
  refine Evaluates.trans ?_ (finishTransmission_reach _).evaluates
  split
  · exact loopRest_evaluates s
  · exact .refl

end Sys2Proof.Machine
end

section
/-! What the blocks keep of each other, at the operations that change it (R39, R107, R108, R112, R116,
R118, R152): an evaluation from a state whose blocks agree leaves a good supervisor and blocks that agree. -/

namespace Sys2Proof.Machine

/-! ### The permitted speed lies in its range (R74, R79) -/

theorem State.ceiling_le (s : State) (dir : Dir) : s.ceiling dir ≤ Config.maxSpeed := by
  obtain ⟨-, least⟩ := foldl_min_mem_and_le (s.ceilingTerms dir) Config.maxSpeed
  exact least _ List.mem_cons_self

/-- A curve governs only below the ceiling (R96). -/
theorem State.dirResult_permitted_le (s : State) (dir : Dir) :
    (s.dirResult dir).permitted ≤ Config.maxSpeed := by
  have ceiling := s.ceiling_le dir
  unfold State.dirResult State.fullResult
  dsimp only
  split
  · exact ceiling
  · split
    · exact Nat.zero_le _
    · split
      · exact Nat.zero_le _
      · split
        · exact ceiling
        · split
          · exact ceiling
          · next below => exact (Nat.le_of_not_le below).trans ceiling

theorem State.compute_permitted_le (s : State) : s.compute.2.permitted ≤ Config.maxSpeed := by
  unfold State.compute combine
  split
  · exact s.dirResult_permitted_le _
  · dsimp only
    split
    · exact s.dirResult_permitted_le .up
    · exact s.dirResult_permitted_le .down

/-! ### What the brake output unit keeps of the other blocks -/

/-- What the other blocks and the supervisor see of the unit, and what it keeps of them (R118): all but
its outputs, their timers, the host demand, the ramp, the overlap, the line hold and the raw inputs. -/
def Brake.view (b : Brake) : Brake := { State.reset.brake with
  unit := b.unit, supState := b.supState, supDemand := b.supDemand, secure := b.secure
  motion := b.motion, speed := b.speed, emergIn := .steady b.emergIn.level
  bandFault := b.bandFault, loopFault := b.loopFault }

@[simp] theorem Brake.reform_view (t : Nat) (b : Brake) : (b.reform t).view = b.view := by
  rw [Brake.reform_eq]; rfl

theorem Brake.takeSupervisor_view (t : Nat) (st : SupState) (d : Demand) (b : Brake) :
    (b.takeSupervisor t st d).view = { b with supState := st, supDemand := d }.view := by
  unfold Brake.takeSupervisor
  dsimp only
  split <;> exact Brake.reform_view _ _

theorem Brake.takeMotion_view (t : Nat) (m : Bool) (b : Brake) :
    (b.takeMotion t m).view = { b with motion := m }.view := by
  unfold Brake.takeMotion
  cases m <;> exact Brake.reform_view _ _

theorem Brake.takeSpeed_view (t fade overlapMs v : Nat) (b : Brake) :
    (b.takeSpeed t fade overlapMs v).view = { b with speed := v }.view := by
  unfold Brake.takeSpeed
  split
  · split <;> exact Brake.reform_view _ _
  · exact Brake.reform_view _ _

theorem Brake.takeAck_view (t : Nat) (b : Brake) :
    (b.takeAck t).view = { b with bandFault := false, loopFault := false }.view := by
  rw [Brake.takeAck_eq]; exact Brake.reform_view _ _

theorem Brake.takeLoopSense_view (level : Bool) (b : Brake) :
    (b.takeLoopSense level).view = b.view := by
  unfold Brake.takeLoopSense Brake.judgeLoop
  split <;> rfl

theorem Brake.takeBandSense_view (t : Nat) (level : Bool) (b : Brake) :
    (b.takeBandSense t level).view = b.view := by
  unfold Brake.takeBandSense
  dsimp only
  (repeat' split) <;> rfl

/-- What of the odometry unit the other blocks keep (R39, R40). -/
def Odometry.view (o : Odometry) : Odometry := { State.reset.odo with
  motion := o.motion, speed := o.speed, pinionSensor := o.pinionSensor, pinionSlip := o.pinionSlip
  rollbackLatch := o.rollbackLatch }

/-! ### Agreement -/

/-- The lock level, the supervisor, DOORS_SECURE and MOTION of the doors, RESET, and the views of the
odometry unit and of the brake output unit are the same. -/
structure SameViews (s t : State) : Prop where
  lock : t.profile.lock = s.profile.lock := by rfl
  odo : t.odo.view = s.odo.view := by rfl
  sup : t.sup = s.sup := by rfl
  brake : t.brake.view = s.brake.view := by rfl
  secure : t.doors.secure = s.doors.secure := by rfl
  motion : t.doors.motion = s.doors.motion := by rfl
  reset : t.resetHeld = s.resetHeld := by rfl

/-- Agreement goes by these views. -/
theorem State.Agree.of_views {s t : State} (h : s.Agree) (same : SameViews s t) : t.Agree := by
  obtain ⟨lock, odo, sup, brake, secure, motion, -⟩ := same
  have view (u : State) :
      u.Agree ↔ { u with brake := u.brake.view, odo := u.odo.view }.Agree := Iff.rfl
  rw [view s] at h
  rw [view t]
  simp only [State.Agree, lock, odo, sup, brake, secure, motion]
  exact h

/-- The blocks agree, each relation of `State.Agree` under its name; the supervisor's demand is that of
its state, the measured speed lies in its range, and RESET is released. From here an evaluation makes
the supervisor good. -/
structure State.Handed (s : State) : Prop where
  armed : s.brake.unit = .armed ↔ s.profile.lock = .configLocked
  supState : s.brake.supState = s.sup.state
  supDemand : s.brake.supDemand = s.sup.demand
  brakeSecure : s.brake.secure = s.doors.secure
  doorsSecure : s.sup.doorsSecure = s.doors.secure
  brakeMotion : s.brake.motion = s.odo.motion
  doorMotion : s.doors.motion = s.odo.motion
  brakeSpeed : s.brake.speed = s.odo.speed
  emergIn : s.sup.emergIn = s.brake.emergAsserted
  emergencyLine : s.sup.causes.emergencyLine = s.sup.emergIn
  pinionSensor : s.sup.causes.pinionSensor = s.odo.pinionSensor
  pinionSlip : s.sup.causes.pinionSlip = s.odo.pinionSlip
  rollback : s.sup.causes.rollback = s.odo.rollbackLatch
  bandFault : s.sup.causes.bandFault = s.brake.bandFault
  loopFault : s.sup.causes.loopFault = s.brake.loopFault
  safe : s.brake.unit = .safe → s.sup.state = .emergency
  demand : s.sup.demand = s.sup.state.demand
  speed : s.odo.speed ≤ Config.maxSpeed
  released : s.resetHeld = false

theorem State.Handed.agree {s : State} (h : s.Handed) : s.Agree :=
  ⟨h.armed, h.supState, h.supDemand, h.brakeSecure, h.doorsSecure, h.brakeMotion, h.doorMotion,
    h.brakeSpeed, h.emergIn, h.emergencyLine, h.pinionSensor, h.pinionSlip, h.rollback, h.bandFault,
    h.loopFault, h.safe⟩

theorem State.Agree.handed {s : State} (h : s.Agree) (demand : s.sup.demand = s.sup.state.demand)
    (speed : s.odo.speed ≤ Config.maxSpeed) (released : s.resetHeld = false) : s.Handed := by
  obtain ⟨armed, supState, supDemand, brakeSecure, doorsSecure, brakeMotion, doorMotion, brakeSpeed,
    emergIn, emergencyLine, pinionSensor, pinionSlip, rollback, bandFault, loopFault, safe⟩ := h
  exact ⟨armed, supState, supDemand, brakeSecure, doorsSecure, brakeMotion, doorMotion, brakeSpeed,
    emergIn, emergencyLine, pinionSensor, pinionSlip, rollback, bandFault, loopFault, safe, demand,
    speed, released⟩

theorem State.Handed.of_views {s t : State} (h : s.Handed) (same : SameViews s t) : t.Handed := by
  have speed : t.odo.view.speed = s.odo.view.speed := congrArg Odometry.speed same.odo
  have speed : t.odo.speed = s.odo.speed := speed
  refine (h.agree.of_views same).handed ?_ (speed ▸ h.speed) (same.reset.trans h.released)
  rw [same.sup]; exact h.demand

/-- The supervisor is good too. -/
structure State.Sound (s : State) : Prop extends s.Handed where
  good : s.sup.Good

/-- A cause moves every state to EMERGENCY, which no evaluation leaves (R102, R104). -/
theorem SupState.next_of_cause (x : Int) (v permitted mi me h : Nat) (st : SupState) :
    st.next true x v permitted mi me h = .emergency := by
  cases st <;> simp [SupState.next]

theorem SupState.next_of_emergency (cause : Bool) (x : Int) (v permitted mi me h : Nat) :
    SupState.next cause x v permitted mi me h .emergency = .emergency := rfl

/-- The view of the unit after an evaluation: the state with its demand (R112, R118). -/
theorem State.Handed.evaluate_view {s : State} (h : s.Handed) :
    s.evaluate.brake.view = { s.brake with
      supState := s.nextSupState s.judge, supDemand := (s.nextSupState s.judge).demand }.view := by
  rw [State.evaluate_eq]
  dsimp only
  split
  · next same => rw [same, ← h.demand, ← h.supState, ← h.supDemand]
  · exact Brake.takeSupervisor_view _ _ _ _

theorem State.Handed.evaluate_sup {s : State} (h : s.Handed) :
    s.evaluate.sup = { s.judge with
      state := s.nextSupState s.judge, demand := (s.nextSupState s.judge).demand
      evalTimer := some (s.param 23) } := by
  have formed : (if s.nextSupState s.judge = s.sup.state then s.sup.demand
      else (s.nextSupState s.judge).demand) = (s.nextSupState s.judge).demand := by
    split
    · next same => rw [h.demand, same]
    · rfl
  rw [State.evaluate_eq]
  dsimp only
  rw [formed]

/-- An evaluation makes the supervisor good and keeps the agreement (R101, R112, R118). -/
theorem State.Handed.evaluate {s : State} (h : s.Handed) : s.evaluate.Sound := by
  have permitted : s.judge.permitted ≤ 1023 := s.compute_permitted_le
  have excess : s.judge.excess = (s.odo.speed : Int) - s.judge.permitted := rfl
  have bound : s.odo.speed ≤ 1023 := h.speed
  have emergency : s.sup.state = .emergency → s.nextSupState s.judge = .emergency := by
    intro emergency
    have same : s.judge.state = .emergency := emergency
    rw [State.nextSupState, same, SupState.next_of_emergency]
  have caused : s.judge.causes.any = true → s.nextSupState s.judge = .emergency := by
    intro cause
    rw [State.nextSupState, cause, SupState.next_of_cause]
  have handed : ({ s with
      sup := { s.judge with
        state := s.nextSupState s.judge, demand := (s.nextSupState s.judge).demand
        evalTimer := some (s.param 23) }
      brake := { s.brake with
        supState := s.nextSupState s.judge
        supDemand := (s.nextSupState s.judge).demand } } : State).Sound :=
    { h with
      supState := rfl, supDemand := rfl, demand := rfl
      safe := fun unit => emergency (h.safe unit)
      good := ⟨permitted, by dsimp only; omega, by dsimp only; omega, rfl, rfl, caused⟩ }
  refine ⟨handed.toHanded.of_views ?_, h.evaluate_sup ▸ handed.good⟩
  refine ⟨?_, ?_, h.evaluate_sup, h.evaluate_view, ?_, ?_,
    (evaluate_reach s).table.messages.resetHeld⟩
  · rw [State.evaluate_profile]
  · rw [State.evaluate_odo]
  · rw [State.evaluate_doors]
  · rw [State.evaluate_doors]

/-! ### What keeps a state sound -/

theorem State.Sound.of_views {s t : State} (h : s.Sound) (same : SameViews s t) : t.Sound :=
  ⟨h.toHanded.of_views same, same.sup ▸ h.good⟩

theorem State.Sound.outside {s t : State} (h : s.Sound) (rest : Outside s t) : t.Sound := by
  rw [rest]
  exact h.of_views {}

theorem State.Sound.evaluates {s t : State} (h : s.Sound) (e : Evaluates s t) : t.Sound :=
  e.keeps (P := State.Sound) (fun _ _ rest sound => sound.outside rest)
    (fun _ sound => sound.toHanded.evaluate) h

end Sys2Proof.Machine
end

section
/-! The operations at which one block hands another what it keeps, each from a sound state to a sound one
(R38 to R40, R107, R108, R116, R118, R128, R131 to R133, R152, R203). -/

namespace Sys2Proof.Machine

/-! ### The odometry unit hands its faults and its movement (R39, R40, R107) -/

theorem State.Sound.odoFault {s : State} (h : s.Sound) (f : OdoFault) : (s.odoFault f).Sound := by
  cases latched : s.odo.latched f with
  | true => rw [State.odoFault_latched latched]; exact h
  | false =>
    rw [State.odoFault_clear latched]
    refine State.Handed.evaluate ?_
    cases f with
    | pinionSensor => exact { h with pinionSensor := rfl }
    | pinionSlip => exact { h with pinionSlip := rfl }
    | rollback => exact { h with rollback := rfl }

/-- An edge hands the unit MOTION and the speed that it leaves (R40). -/
theorem State.edgeBrake_view {s : State} (motion : s.brake.motion = s.odo.motion)
    (speed : s.brake.speed = s.odo.speed) (dir : Dir) (now : Micros) :
    (s.edgeBrake dir now).view = { s.brake with
      motion := true
      speed := (s.odo.edge dir s.captureSize (s.param 8) now).speed }.view := by
  have first : s.motionBrake.view = { s.brake with motion := true }.view := by
    unfold State.motionBrake
    split
    · next moving => rw [← motion.trans moving]
    · exact Brake.takeMotion_view _ _ _
  have spoken {b c : Brake} (same : b.view = c.view) (v : Nat) :
      { b with speed := v }.view = { c with speed := v }.view :=
    congrArg (fun b : Brake => { b with speed := v }) same
  have turned : (s.turnBrake dir).view = { s.brake with
      motion := true, speed := if s.odo.changesDirection dir then 0 else s.odo.speed }.view := by
    unfold State.turnBrake
    split
    · exact (Brake.takeSpeed_view _ _ _ _ _).trans (spoken first 0)
    · rw [← speed]; exact first
  rw [Odometry.edge_speed]
  unfold State.edgeBrake State.edgeSpeed
  split
  · next v new =>
    rw [new]
    exact (Brake.takeSpeed_view _ _ _ _ _).trans (spoken turned v)
  · next none_new => rw [none_new]; exact turned

/-- What a counted edge hands on before its evaluations is agreed (R40). -/
theorem State.Sound.edgeTaken {s : State} (h : s.Sound) (dir : Dir) (now : Micros) :
    (s.edgeTaken dir now).Sound := by
  have speed := Odometry.edge_speed_le h.speed dir s.captureSize (s.param 8) now
  have handed : ({ s with
      odo := { s.odo with
        motion := true, speed := (s.odo.edge dir s.captureSize (s.param 8) now).speed }
      brake := { s.brake with
        motion := true, speed := (s.odo.edge dir s.captureSize (s.param 8) now).speed }
      doors := { s.doors with motion := true } } : State).Sound :=
    { h with brakeMotion := rfl, doorMotion := rfl, brakeSpeed := rfl, speed := speed }
  refine handed.of_views
    { brake := State.edgeBrake_view h.brakeMotion h.brakeSpeed dir now, secure := ?_, motion := ?_ }
  · unfold State.edgeTaken
    dsimp only
    split <;> rfl
  · unfold State.edgeTaken
    dsimp only
    split
    · next moving => exact h.doorMotion.trans moving
    · rfl

theorem State.Sound.evaluateIf {s : State} (h : s.Sound) (c : Bool) : (s.evaluateIf c).Sound :=
  h.evaluates (evaluateIf_evaluates c s)

theorem State.Sound.countedEdge {s : State} (h : s.Sound) (dir : Dir) (now : Micros) :
    (s.countedEdge dir now).Sound := by
  rw [State.countedEdge_eq]
  dsimp only
  split
  · exact ((h.edgeTaken dir now).evaluateIf _).odoFault _
  · exact (h.edgeTaken dir now).evaluateIf _

theorem State.Sound.pinionStep {s : State} (h : s.Sound) (a b : Bool) (now : Micros) :
    (s.pinionStep a b now).Sound := by
  unfold State.pinionStep
  dsimp only
  split
  · exact h.of_views {}
  · exact State.Sound.countedEdge (h.of_views {}) _ _
  · exact State.Sound.odoFault (h.of_views {}) _

theorem State.Sound.wheelChange {s : State} (h : s.Sound) (level : Bool) :
    (s.wheelChange level).Sound := by
  unfold State.wheelChange State.wheelTurn
  dsimp only
  split
  · split
    · exact h.of_views {}
    · split
      · exact State.Sound.odoFault (h.of_views {}) _
      · exact h.of_views {}
  · exact h.of_views {}

theorem State.Sound.markerChange {s : State} (h : s.Sound) (level : Bool) :
    (s.markerChange level).Sound := by
  unfold State.markerChange State.markerPass
  dsimp only
  split
  · split
    · split
      · exact (State.Handed.of_views h.toHanded {}).evaluate
      · exact h.of_views {}
    · exact h.of_views {}
  · exact h.of_views {}

theorem State.Sound.enterStandstill {s : State} (h : s.Sound) : s.enterStandstill.Sound := by
  have handed : ({ s with
      odo := s.odo.standstill, brake := { s.brake with motion := false, speed := 0 }
      doors := { s.doors with motion := false } } : State).Sound :=
    { h with brakeMotion := rfl, doorMotion := rfl, brakeSpeed := rfl, speed := Nat.zero_le _ }
  refine handed.of_views { brake := ?_ }
  refine (Brake.takeSpeed_view _ _ _ _ _).trans ?_
  exact congrArg (fun b : Brake => { b with speed := 0 }) (Brake.takeMotion_view _ _ _)

/-! ### The brake output unit hands its faults and EMERG_IN (R107, R108) -/

theorem State.Sound.bandApplyExpiry {s : State} (h : s.Sound) : s.bandApplyExpiry.Sound := by
  unfold State.bandApplyExpiry State.brakeFault
  dsimp only
  split
  · exact h.of_views {}
  · exact State.Handed.evaluate { h with bandFault := rfl }

theorem State.Sound.loopAgreementExpiry {s : State} (h : s.Sound) : s.loopAgreementExpiry.Sound := by
  unfold State.loopAgreementExpiry State.brakeFault
  dsimp only
  split
  · exact h.of_views {}
  · exact State.Handed.evaluate { h with loopFault := rfl }

/-- The unit takes a level of EMERG_IN, and hands it to the supervisor (R108, R120). -/
theorem State.Sound.handEmergIn {s : State} (h : s.Sound) {level : Bool} {f : Nat → Brake → Brake}
    (takes : ∀ t b, (f t b).view = { b with emergIn := b.emergIn.accept level }.view) :
    ((s.onBrake f).handEmergIn (!level)).Sound := by
  have handed : ({ s with
      brake := { s.brake with emergIn := s.brake.emergIn.accept level }
      sup := { s.sup with
        emergIn := !level
        causes := { s.sup.causes with emergencyLine := !level } } } : State).Handed :=
    { h with emergIn := rfl, emergencyLine := rfl }
  exact (handed.of_views { brake := takes _ _ }).evaluate

/-- An operation of the unit that its view does not show. -/
theorem State.Sound.onBrake {s : State} (h : s.Sound) {f : Nat → Brake → Brake}
    (hidden : ∀ t b, (f t b).view = b.view) : (s.onBrake f).Sound :=
  h.of_views { brake := hidden _ _ }

/-! ### The door controller hands DOORS_SECURE (R152) -/

theorem State.Sound.commitDoors {s : State} (h : s.Sound) {x : Doors × Bool}
    (stays : x.1.motion = s.doors.motion) : (s.commitDoors x).Sound := by
  unfold State.commitDoors
  dsimp only
  split
  · next same =>
    cases x.2 <;> exact h.of_views { secure := same, motion := stays }
  · have handed : ({ s with
        doors := x.1, brake := { s.brake with secure := x.1.secure }
        sup := { s.sup with doorsSecure := x.1.secure } } : State).Handed :=
      { h with brakeSecure := rfl, doorsSecure := rfl, doorMotion := stays.trans h.doorMotion }
    cases x.2 <;> exact (handed.of_views { brake := Brake.reform_view _ _ }).evaluate

theorem State.Sound.doorEvent {s : State} (h : s.Sound) (f : DoorTimes → Door → DoorStep)
    (id : DoorId) : (s.doorEvent f id).Sound := by
  obtain ⟨-, -, stays⟩ := Doors.step_rest (f s.doorTimes) id s.doors
  exact h.commitDoors stays

theorem Doors.setReleased_motion (b : Bool) (ds : Doors) (side : Side) :
    (Doors.setReleased b ds side).motion = ds.motion := by
  cases side <;> rfl

end Sys2Proof.Machine
end

section
/-! Every command from a sound state leaves a sound one, and a reset leaves its power-on values: the
blocks stay in agreement at every step (R39, R107, R108, R112, R116, R118, R152, R202). -/

namespace Sys2Proof.Machine

/-! ### The acknowledgment and SOFT_RESET (R109, R110, R203) -/

/-- What passes the checks of R109 has the unit ARMED, in EMERGENCY. -/
theorem State.ackRefusal_none {s : State} (h : s.ackRefusal = none) :
    s.sup.state = .emergency ∧ s.brake.unit = .armed := by
  unfold State.ackRefusal at h
  split at h
  · simp at h
  · next emergency =>
    split at h
    · simp at h
    · next armed => exact ⟨not_not.mp emergency, not_not.mp armed⟩

theorem State.Sound.acknowledge {s : State} (h : s.Sound) (accepted : s.ackRefusal = none) :
    s.acknowledge.Sound := by
  obtain ⟨emergency, armed⟩ := State.ackRefusal_none accepted
  have handed : ({ s with
      sup := { s.sup with
        state := .normal, causes := s.sup.causes.clearLatched, demand := ⟨0, false, false⟩ }
      odo := s.odo.takeAck
      brake := { s.brake with
        bandFault := false, loopFault := false, supState := .normal
        supDemand := ⟨0, false, false⟩ } } : State).Handed :=
    { h with
      supState := rfl, supDemand := rfl, demand := rfl, pinionSensor := rfl, pinionSlip := rfl
      rollback := rfl, bandFault := rfl, loopFault := rfl
      safe := fun safe => UnitState.noConfusion (armed.symm.trans safe) }
  rw [State.acknowledge, State.clearCauses_changeSupState s emergency]
  refine (handed.of_views { brake := (Brake.reform_view _ _).trans ?_ }).evaluate
  exact congrArg (fun b : Brake => { b with supState := .normal, supDemand := ⟨0, false, false⟩ })
    (Brake.takeAck_view _ _)

/-- The supervisor of a reset is good (R115). -/
theorem Supervisor.afterReset_good (emergIn secure : Bool) (period : Nat) :
    (Supervisor.afterReset emergIn secure period).Good :=
  ⟨Nat.zero_le _, (by decide : (-1023 : Int) ≤ 0), (by decide : (0 : Int) ≤ 1023), rfl, rfl,
    fun _ => rfl⟩

theorem State.Sound.softReset {s : State} (h : s.Sound) : s.softReset.Sound where
  armed := h.armed
  supState := rfl
  supDemand := rfl
  brakeSecure := rfl
  doorsSecure := rfl
  brakeMotion := rfl
  doorMotion := rfl
  brakeSpeed := rfl
  emergIn := rfl
  emergencyLine := rfl
  pinionSensor := rfl
  pinionSlip := rfl
  rollback := rfl
  bandFault := rfl
  loopFault := rfl
  safe := fun _ => rfl
  demand := rfl
  speed := Nat.zero_le _
  released := h.released
  good := Supervisor.afterReset_good _ _ _

/-! ### The requests -/

/-- Every next state of an outcome is sound. -/
def SoundOutcome (r : Result) : Prop := ∀ t, r = .next t → t.Sound

theorem soundOutcome_of_sound {t : State} (h : t.Sound) : SoundOutcome (.next t) := by
  rintro _ ⟨⟩; exact h

theorem State.Sound.unlessReset {s held : State} {r : Result} (h : s.Sound) (k : SoundOutcome r) :
    SoundOutcome (s.unlessReset held r) := by
  rwa [State.unlessReset_released _ _ h.released]

/-- A command that acts while RESET is released. -/
theorem State.Sound.event {s held t : State} (h : s.Sound) (k : t.Sound) :
    SoundOutcome (s.unlessReset held (.next t)) := h.unlessReset (soundOutcome_of_sound k)

theorem State.Sound.takeSelection {s : State} (h : s.Sound) {frame : List Byte} {whole : Bool}
    {taken : Result} (k : SoundOutcome taken) : SoundOutcome (takeSelection frame whole s taken) := by
  refine h.unlessReset ?_
  split
  · exact k
  · exact soundOutcome_of_sound (h.outside rfl)

theorem State.Sound.hostRequest {s : State} (h : s.Sound) {code : Byte} {params : List Byte}
    {taken : Result} (k : SoundOutcome taken) : SoundOutcome (hostRequest code params s taken) :=
  h.takeSelection k

/-- A response leaves the state as sound as the effect has it. -/
theorem State.Sound.answer {s : State} {code : Byte} {params : List Byte} {st : Status}
    {data : List Byte} (h : s.Sound) : SoundOutcome (answer code params st data s) :=
  soundOutcome_of_sound (h.outside rfl)

theorem State.Sound.profileWrite {s : State} (h : s.Sound) (index : Byte) (start : U24)
    (gradient limitUp limitDown : U16) (marker : Byte) :
    SoundOutcome (execProfileWrite index start gradient limitUp limitDown marker s) := by
  refine h.hostRequest ?_
  split
  · exact h.answer
  · exact State.Sound.answer (h.of_views {})

/-- The change to CONFIG_LOCKED arms the unit (R116). -/
theorem State.Sound.lockRaise {s : State} (h : s.Sound) : SoundOutcome (execLockRaise s) := by
  refine h.hostRequest ?_
  split
  · next levelOpen =>
    split
    · exact State.Sound.answer { h with armed := by simp [h.armed, levelOpen] }
    · exact h.answer
  · have handed : ({ s with
        profile := { s.profile with lock := .configLocked }
        brake := { s.brake with unit := .armed } } : State).Sound :=
      { h with armed := by simp, safe := by simp }
    exact State.Sound.answer (handed.of_views { brake := Brake.reform_view _ _ })
  · exact h.answer

theorem State.Sound.grant {s : State} (h : s.Sound) (side : Side) (override : Bool) :
    (s.grant side override).Sound := by
  have stays (ds : Doors) : ((Doors.setReleased true ds side).stepSides [side]
      (Door.quietly Door.unlock)).1.motion = ds.motion := by
    obtain ⟨-, -, stays⟩ := Doors.stepSides_rest [side] (Door.quietly Door.unlock)
      (Doors.setReleased true ds side)
    exact stays.trans (Doors.setReleased_motion _ _ _)
  cases override
  · exact h.commitDoors (stays _)
  · exact State.Sound.commitDoors (h.of_views {}) (stays _)

theorem Doors.closeSides_motion (t : DoorTimes) (sides : List Side) (ds : Doors) :
    (ds.closeSides t sides).1.motion = ds.motion := by
  obtain ⟨-, -, stays⟩ := Doors.stepSides_rest sides (Door.close t)
    (sides.foldl (Doors.setReleased false) ds)
  refine stays.trans ?_
  exact List.foldlRecOn sides _ (motive := fun acc : Doors => acc.motion = ds.motion) rfl
    fun _ kept side _ => (Doors.setReleased_motion _ _ side).trans kept

theorem State.Sound.frameError {s : State} (h : s.Sound) (bytes : List Byte) (whole : Bool) :
    SoundOutcome (execFrameError bytes whole s) := by
  refine h.takeSelection ?_
  split
  · exact soundOutcome_of_sound (h.outside rfl)
  · split
    · exact soundOutcome_of_sound (h.outside rfl)
    · exact soundOutcome_of_sound h

theorem State.afterSection_outside (sect : Nat) (s : State) : Outside s (s.afterSection sect) := by
  unfold State.afterSection
  split <;> rfl

/-- Every request that the port takes leaves a sound state. -/
theorem State.Sound.takeRequest {s : State} (h : s.Sound) (i : Instr) :
    SoundOutcome (s.takeRequest i) := by
  cases i with
  | profileWrite index start g u d m => exact h.profileWrite index start g u d m
  | lockRaise => exact h.lockRaise
  | profileClose | profileClear =>
    refine h.hostRequest ?_
    split
    · exact h.answer
    · exact State.Sound.answer (h.of_views {})
  | configWrite =>
    refine h.hostRequest ?_
    dsimp only
    split
    · exact h.answer
    · split
      · exact h.answer
      · refine State.Sound.answer ?_
        split <;> exact h.of_views {}
  | profileRead | tableList => exact h.hostRequest h.answer
  | flagsReadClear | flagsEnable =>
    refine h.hostRequest ?_
    exact State.Sound.answer (h.outside rfl)
  | configRead | recordRead | recordFind =>
    refine h.hostRequest ?_
    (repeat' split) <;> exact h.answer
  | mailboxRead | mailboxRelease =>
    refine h.hostRequest ?_
    (repeat' split) <;> exact State.Sound.answer (h.outside rfl)
  | positionSet =>
    refine h.hostRequest ?_
    split
    · exact h.answer
    · exact State.Sound.answer (State.Handed.of_views h.toHanded {}).evaluate
  | directionSelect =>
    refine h.hostRequest ?_
    split
    · exact h.answer
    · split
      · exact h.answer
      · exact State.Sound.answer (State.Handed.of_views h.toHanded {}).evaluate
  | recordIssue =>
    refine h.hostRequest ?_
    split
    · exact h.answer
    · exact State.Sound.answer (h.evaluates (issueRecord_evaluates _ _ _ _))
  | recordRevoke =>
    refine h.hostRequest ?_
    split
    · exact h.answer
    · split
      · exact h.answer
      · split
        · exact h.answer
        · exact State.Sound.answer (h.evaluates (revokeSlot_evaluates _ _))
  | lossAck =>
    refine h.hostRequest ?_
    split
    · exact State.Sound.answer (h.evaluates (.after (evaluate_evaluates _) rfl))
    · exact h.answer
  | doorRelease side override =>
    refine h.hostRequest ?_
    split
    · split
      · exact h.answer
      · split
        · exact h.answer
        · split
          · exact (h.grant _ _).answer
          · exact h.answer
    · exact h.answer
  | doorOpen side =>
    refine h.hostRequest ?_
    split
    · exact h.answer
    · split
      · exact h.answer
      · split
        · obtain ⟨-, -, stays⟩ := Doors.stepSides_rest _ _ s.doors
          exact State.Sound.answer (h.commitDoors stays)
        · exact h.answer
  | doorClose side =>
    refine h.hostRequest ?_
    split
    · exact h.answer
    · exact State.Sound.answer (h.commitDoors (Doors.closeSides_motion _ _ _))
  | doorReset door =>
    refine h.hostRequest ?_
    split
    · exact h.answer
    · dsimp only
      split
      · exact State.Sound.answer (h.doorEvent _ _)
      · exact h.answer
  | brakeDemand level release =>
    refine h.hostRequest ?_
    split
    · exact h.answer
    · exact State.Sound.answer (h.onBrake fun _ _ => Brake.reform_view _ _)
  | emergencyAck =>
    refine h.hostRequest ?_
    split
    · exact h.answer
    · next accepted => exact (h.acknowledge accepted).answer
  | radioMode =>
    refine h.hostRequest ?_
    split
    · exact h.answer
    · exact State.Sound.answer (h.evaluates (.after (judgeMode_evaluates _) rfl))
  | radioSend =>
    refine h.hostRequest ?_
    split
    · exact h.answer
    · exact State.Sound.answer (h.evaluates (.after (judgeStart_reach _).evaluates rfl))
  | radioAbort =>
    refine h.hostRequest ?_
    dsimp only
    split
    · exact h.answer
    · split
      · exact State.Sound.answer (h.evaluates (((removeFirst_reach _ _ _).evaluates.trans
          (placeWaiting_evaluates _)).trans (judgeStart_reach _).evaluates))
      · exact h.answer
  | radioAbortAll =>
    refine h.hostRequest ?_
    exact State.Sound.answer (h.evaluates (((removeEntries_reach _ _ _).evaluates.trans
      (placeWaiting_evaluates _)).trans (judgeStart_reach _).evaluates))
  | statusRead =>
    refine h.hostRequest ?_
    split
    · exact State.Sound.answer (h.outside (State.afterSection_outside _ _))
    · exact h.answer
  | softReset =>
    refine h.hostRequest ?_
    split
    · exact h.answer
    · exact h.softReset.answer
  | _ => exact soundOutcome_of_sound h

/-! ### The changes of the inputs -/

theorem State.Sound.selectChange {s : State} (h : s.Sound) (level : Bool) :
    SoundOutcome (s.selectChange level) := by
  unfold State.selectChange State.takeBuffer
  split
  · exact soundOutcome_of_sound (h.outside rfl)
  · split
    · split
      · exact h.takeRequest _
      · exact h.frameError _ _
    · exact soundOutcome_of_sound (h.outside rfl)

/-- A change of a door's input that is not yet accepted leaves DOORS_SECURE and MOTION. -/
theorem Doors.put_line_secure (ds : Doors) (id : DoorId) (line : DoorInput) (x : InputLine) :
    (ds.put ((ds.get id).setLine x line) id).secure = ds.secure := by
  cases id <;> cases line <;> rfl

/-- A raw change of an input leaves its filtered level (R19). -/
theorem InputLine.rawChange_level (filterMicros : Nat) (level : Bool) (x : InputLine) :
    (x.rawChange filterMicros level).level = x.level := by
  unfold InputLine.rawChange
  split <;> rfl

/-- The other blocks see the filtered level of EMERG_IN. -/
theorem Brake.emergIn_view {b : Brake} {x : InputLine} (level : x.level = b.emergIn.level) :
    { b with emergIn := x }.view = b.view := by
  simp only [Brake.view, level]

theorem State.Sound.rawInputChange {s : State} (h : s.Sound) {input : InputId} {level : Bool}
    {now : Micros} (stays : ¬s.Resets (.rawInputChange input level now)) :
    SoundOutcome (execRawInputChange input level now s) := by
  refine h.unlessReset ?_
  cases input with
  | pinA | pinB =>
    dsimp only
    split
    · exact soundOutcome_of_sound (h.pinionStep _ _ _)
    · exact soundOutcome_of_sound (h.of_views {})
  | wheel =>
    dsimp only
    split
    · exact soundOutcome_of_sound (h.wheelChange _)
    · exact soundOutcome_of_sound (h.of_views {})
  | marker =>
    dsimp only
    split
    · exact soundOutcome_of_sound (h.markerChange _)
    · exact soundOutcome_of_sound (h.of_views {})
  | emergIn =>
    refine soundOutcome_of_sound (h.of_views { brake := ?_ })
    exact Brake.emergIn_view (InputLine.rawChange_level _ _ _)
  | loopSense | bandSense | sclk | sdi => exact soundOutcome_of_sound (h.of_views {})
  | door id line =>
    exact soundOutcome_of_sound (h.of_views
      { secure := Doors.put_line_secure _ _ _ _, motion := Doors.put_motion _ _ _ })
  | select => exact h.selectChange level
  | reset =>
    dsimp only
    split
    · next asserted => exact absurd (.inr ⟨_, _, now, rfl, .inr ⟨rfl, asserted⟩⟩) stays
    · exact soundOutcome_of_sound h

/-! ### Every command while RESET is released -/

/-- A change of an input of one door. -/
theorem State.Sound.doorInput {s : State} (h : s.Sound) {c : Prop} [Decidable c]
    {f : DoorTimes → Door → DoorStep} {id : DoorId} :
    SoundOutcome (s.unlessReset s (if c then .next s else .next (s.doorEvent f id))) := by
  refine h.unlessReset ?_
  split
  · exact soundOutcome_of_sound h
  · exact soundOutcome_of_sound (h.doorEvent f id)

/-- An event that acts only where a condition holds. -/
theorem State.Sound.eventIf {s t u : State} (h : s.Sound) {c : Prop} [Decidable c] (ht : c → t.Sound)
    (hu : ¬c → u.Sound) : SoundOutcome (s.unlessReset s (.next (if c then t else u))) := by
  refine h.event ?_
  split
  · next holds => exact ht holds
  · next fails => exact hu fails

/-- Every command that is no reset of the part leaves a sound state sound. -/
theorem State.Sound.exec {s : State} (h : s.Sound) {i : Instr} (stays : ¬s.Resets i) :
    SoundOutcome (exec i s) := by
  cases i with
  | powerOnReset => exact absurd (.inl rfl) stays
  | rawInputChange => exact h.rawInputChange stays
  | frameError bytes whole => exact h.frameError bytes whole
  | acceptedStep a b now => exact h.event (h.pinionStep a b now)
  | standstillTimerExpiry => exact h.eventIf (fun _ => h.enterStandstill) fun _ => h
  | wheelPulse level => exact h.eventIf (fun _ => h) fun _ => h.wheelChange level
  | markerPulse level => exact h.eventIf (fun _ => h) fun _ => h.markerChange level
  | minuteTimerExpiry => exact h.eventIf (fun _ => h.evaluates (minuteExpiry_evaluates s)) fun _ => h
  | evaluationTimerExpiry => exact h.eventIf (fun _ => h.toHanded.evaluate) fun _ => h
  | emergInAsserted =>
    exact h.eventIf (fun _ => h)
      fun _ => h.handEmergIn (level := false) fun _ _ => Brake.reform_view _ _
  | emergInReleased =>
    exact h.eventIf (fun _ => h.handEmergIn (level := true) fun _ _ => Brake.reform_view _ _)
      fun _ => h
  | loopSenseChange level =>
    exact h.eventIf (fun _ => h) fun _ => h.onBrake fun _ b => b.takeLoopSense_view level
  | bandSenseChange level =>
    exact h.eventIf (fun _ => h) fun _ => h.onBrake fun t b => b.takeBandSense_view t level
  | rampTimerExpiry => exact h.eventIf (fun _ => h.onBrake fun _ _ => rfl) fun _ => h
  | overlapTimerExpiry =>
    exact h.eventIf (fun _ => h.onBrake fun _ _ => Brake.reform_view _ _) fun _ => h
  | bandApplyTimerExpiry => exact h.eventIf (fun _ => h.bandApplyExpiry) fun _ => h
  | loopAgreementTimerExpiry => exact h.eventIf (fun _ => h.loopAgreementExpiry) fun _ => h
  | doorButtonPress | doorObstruction | doorOpenEnd | doorClosedChange | doorLockedChange =>
    exact h.doorInput
  | doorMotionTimerExpiry | doorLockTimerExpiry =>
    exact h.eventIf (fun _ => h.doorEvent _ _) fun _ => h
  | receivedByte source =>
    cases source with
    | modem => exact h.eventIf (fun _ => h.evaluates (takeByte_evaluates _ _ s)) fun _ => h
    | looped => exact h.event (h.evaluates (takeLooped_evaluates s))
    | sdi => exact h.event (h.outside rfl)
  | silenceTimerExpiry =>
    refine h.unlessReset ?_
    split
    · exact soundOutcome_of_sound (h.evaluates (.after (lineEvent_evaluates _) rfl))
    · exact soundOutcome_of_sound h
  | linkTimerExpiry =>
    exact h.eventIf (fun _ => h.evaluates (.after (setLink_evaluates _ _) rfl)) fun _ => h
  | carrierChange => exact h.event (h.evaluates (.after (judgeStart_reach _).evaluates rfl))
  | modeChange => exact h.event (h.evaluates (judgeMode_evaluates s))
  | transmissionStart => exact h.event (h.evaluates (startFrame_reach s).evaluates)
  | endOfTransmission =>
    exact h.eventIf (fun _ => h.evaluates (endTransmission_evaluates s)) fun _ => h
  | waitingItemsPlaced =>
    exact h.event (h.evaluates ((placeWaiting_evaluates s).trans (judgeStart_reach _).evaluates))
  | issue | revoke | poll | tableQuery | text | linkCheck | frameNotUsed =>
    exact h.event (h.evaluates (frameArrives_evaluates _ _ _ _ s))
  | loopedFrame => exact h.eventIf (fun _ => h.evaluates (loopRest_evaluates s)) fun _ => h
  | reportTimerExpiry =>
    exact h.eventIf (fun _ => h.evaluates (.after (makeReport_reach _).evaluates rfl)) fun _ => h
  | responseReadout | requestSelectionFirstClock => exact h.event (h.outside rfl)
  | protocolBytesIgnored => exact h.eventIf (fun _ => h.outside rfl) fun _ => h
  | _ => rw [← State.takeRequest_eq_exec rfl]; exact h.takeRequest _

/-! ### While RESET is asserted, and at a reset (R202) -/

/-- A reset, and every command while RESET is asserted, leaves the part at its power-on values. -/
theorem exec_powerOn {i : Instr} {s t : State} (fixed : s.resetHeld = true → s.powerOn = s)
    (reset : s.resetHeld = true ∨ s.Resets i) (he : exec i s = .next t) : t.powerOn = t := by
  cases held : s.resetHeld with
  | true =>
    rw [← fixed held] at he
    have held : s.powerOn.resetHeld = true := held
    cases i with
    | powerOnReset => cases he; rfl
    | receivedByte source =>
      cases source <;> cases (State.unlessReset_held _ _ held).symm.trans he <;> rfl
    | _ => cases (State.unlessReset_held _ _ held).symm.trans he; rfl
  | false =>
    obtain rfl | ⟨input, level, now, rfl, asserted⟩ := reset.resolve_left (by simp [held])
    · cases he; rfl
    · obtain ⟨rfl, rfl⟩ := asserted.resolve_left (by simp [held])
      cases (State.unlessReset_released _ _ held).symm.trans he
      rfl

/-- At their power-on values the blocks agree (R115, R135, R154). -/
theorem State.powerOn_agree (s : State) : s.powerOn.Agree :=
  ⟨(by decide : UnitState.safe = .armed ↔ LockLevel.levelOpen = .configLocked), rfl,
    rfl, rfl, rfl, rfl, rfl, rfl, rfl, rfl, rfl, rfl, rfl, rfl, rfl, fun _ => rfl⟩

/-- Settles O10: a reset and a part held in reset leave the power-on values; from any other good state
every command leaves a sound one. -/
theorem blocksStayInAgreement : Obligations.BlocksStayInAgreement := by
  intro s t hs good
  unfold step at hs
  split at hs
  · cases hs; exact ⟨good.sup, good.agree, good.held⟩
  · next c rest _ =>
    by_cases reset : s.resetHeld = true ∨ (s.withPending rest).Resets c
    · have fixed : (s.withPending rest).resetHeld = true →
          (s.withPending rest).powerOn = s.withPending rest :=
        fun held => congrArg (State.withPending rest) (good.held held)
      have values := exec_powerOn fixed reset hs
      rw [← values]
      exact ⟨Supervisor.afterReset_good _ _ _, State.powerOn_agree _, fun _ => State.powerOn_powerOn _⟩
    · obtain ⟨released, stays⟩ := not_or.mp reset
      obtain ⟨-, speed, -⟩ := good.odo
      obtain ⟨-, -, -, demand, -⟩ := good.sup
      have sound : s.Sound :=
        ⟨good.agree.handed demand speed (Bool.eq_false_iff.mpr released), good.sup⟩
      have sound := (sound.of_views (t := s.withPending rest) {}).exec stays t hs
      exact ⟨sound.good, sound.agree, fun held => absurd held (by simp [sound.released])⟩

end Sys2Proof.Machine
end

section
/-! The restriction table slot by slot: what its lookups find, what a good table is in terms of its slots,
and the slot updates that keep it good (R41, R42, R47, R49, R58). -/

namespace Sys2Proof.Machine

/-! ### Lookups (R41, R47) -/

theorem Table.get_eq_some {t : Table} {k : Nat} {r : Record} :
    t.get k = some r ↔ t.slots[k]? = some (some r) := by
  simp [Table.get, Option.join_eq_some_iff]

/-- What `findSlot` finds is the first slot whose content meets the test. -/
theorem findSlot_eq_some {test : Option Record → Bool} {slots : List (Option Record)} {k : Nat} :
    findSlot test slots = some k ↔
      (∃ o, slots[k]? = some o ∧ test o = true)
        ∧ ∀ j < k, ∀ o, slots[j]? = some o → test o = false := by
  rw [findSlot, List.findIdx?_eq_some_iff_getElem]
  simp only [List.getElem?_eq_some_iff, Bool.not_eq_true]
  constructor
  · rintro ⟨held, meets, first⟩
    exact ⟨⟨_, ⟨held, rfl⟩, meets⟩, by rintro j below o ⟨-, rfl⟩; exact first j below⟩
  · rintro ⟨⟨o, ⟨held, rfl⟩, meets⟩, first⟩
    exact ⟨held, meets, fun j below => first j below _ ⟨below.trans held, rfl⟩⟩

theorem findSlot_eq_none {test : Option Record → Bool} {slots : List (Option Record)} :
    findSlot test slots = none ↔
      ∀ (k : Nat) (o : Option Record), slots[k]? = some o → test o = false := by
  rw [findSlot, List.findIdx?_eq_none_iff]
  exact ⟨fun h k o held => h o (List.mem_of_getElem? held),
    fun h o mem => let ⟨k, held⟩ := List.mem_iff_getElem?.mp mem; h k o held⟩

/-- The lowest-numbered FREE slot (R41). -/
theorem Table.lowestFree_eq_some {t : Table} {k : Nat} :
    t.lowestFree = some k ↔ t.slots[k]? = some none ∧ ∀ j < k, t.slots[j]? ≠ some none := by
  rw [Table.lowestFree, findSlot_eq_some]
  constructor
  · rintro ⟨⟨o, held, free⟩, first⟩
    obtain rfl := Option.isNone_iff_eq_none.mp free
    exact ⟨held, fun j below here => by simpa using first j below _ here⟩
  · rintro ⟨held, first⟩
    refine ⟨⟨none, held, rfl⟩, fun j below o here => ?_⟩
    cases o with
    | none => exact absurd here (first j below)
    | some r => rfl

theorem Table.lowestFree_eq_none {t : Table} :
    t.lowestFree = none ↔ ∀ k : Nat, t.slots[k]? ≠ some none := by
  rw [Table.lowestFree, findSlot_eq_none]
  refine forall_congr' fun k => ⟨fun h free => by simpa using h _ free, fun h o held => ?_⟩
  cases o with
  | none => exact absurd held h
  | some r => rfl

/-- A lookup by a test of records finds a live record that meets it. -/
theorem Table.findSlot_any_eq_some {test : Record → Bool} {t : Table} {k : Nat}
    (h : findSlot (fun o => o.any test) t.slots = some k) :
    ∃ r, t.get k = some r ∧ test r = true := by
  obtain ⟨⟨o, held, meets⟩, -⟩ := findSlot_eq_some.mp h
  cases o with
  | none => simp at meets
  | some r => exact ⟨r, Table.get_eq_some.mpr held, meets⟩

theorem Table.findSlot_any_eq_none {test : Record → Bool} {t : Table} :
    findSlot (fun o => o.any test) t.slots = none ↔
      ∀ k r, t.get k = some r → test r = false := by
  simp only [findSlot_eq_none, Table.get_eq_some]
  constructor
  · exact fun h k r held => h k _ held
  · rintro h k (- | r) held
    · rfl
    · exact h k r held

theorem Record.named_iff {origin : Origin} {number : Nat} {r : Record} :
    r.named origin number = true ↔ r.origin = origin ∧ r.number = number := by
  simp [Record.named]

theorem Table.find_eq_some {t : Table} {origin : Origin} {number k : Nat}
    (h : t.find origin number = some k) :
    ∃ r, t.get k = some r ∧ r.origin = origin ∧ r.number = number := by
  obtain ⟨r, held, named⟩ := Table.findSlot_any_eq_some h
  exact ⟨r, held, Record.named_iff.mp named⟩

theorem Table.find_eq_none {t : Table} {origin : Origin} {number : Nat} :
    t.find origin number = none ↔
      ∀ k r, t.get k = some r → ¬(r.origin = origin ∧ r.number = number) := by
  simp only [Table.find, Table.findSlot_any_eq_none, ← Record.named_iff, Bool.not_eq_true]

theorem Table.stopOf_eq_some {t : Table} {origin : Origin} {k : Nat}
    (h : t.stopOf origin = some k) :
    ∃ r, t.get k = some r ∧ r.imposes = .stop ∧ r.origin = origin := by
  obtain ⟨r, held, stop⟩ := Table.findSlot_any_eq_some h
  exact ⟨r, held, by simpa using stop⟩

theorem Table.stopOf_eq_none {t : Table} {origin : Origin} :
    t.stopOf origin = none ↔
      ∀ k r, t.get k = some r → ¬(r.imposes = .stop ∧ r.origin = origin) := by
  simp [Table.stopOf, Table.findSlot_any_eq_none]

/-! ### Good slots -/

/-- What `Table.Good` says of the slots: 32 of them, every record good, and no two that share origin and
number or are STOP records of one origin (R41, R42, R49). -/
structure SlotsGood (slots : List (Option Record)) : Prop where
  length : slots.length = Config.slotCount
  good : ∀ {k : Nat} {r : Record}, slots[k]? = some (some r) → r.Good
  apart : ∀ {j k : Nat} {q r : Record}, slots[j]? = some (some q) → slots[k]? = some (some r) →
    j ≠ k → q.Apart r

theorem Record.Apart.symm {q r : Record} (h : q.Apart r) : r.Apart q := by
  obtain ⟨names, stops⟩ := h
  exact ⟨fun ⟨o, n⟩ => names ⟨o.symm, n.symm⟩, fun ⟨a, b, o⟩ => stops ⟨b, a, o.symm⟩⟩

/-- The records of a list of slots are apart when those of any two slots are. -/
theorem records_pairwise_apart_iff {slots : List (Option Record)} :
    (slots.filterMap id).Pairwise Record.Apart ↔
      ∀ (j k : Nat) (q r : Record), slots[j]? = some (some q) → slots[k]? = some (some r) →
        j ≠ k → q.Apart r := by
  rw [List.pairwise_filterMap, List.pairwise_iff_getElem]
  simp only [id, List.getElem?_eq_some_iff]
  constructor
  · rintro h j k q r ⟨hj, heldQ⟩ ⟨hk, heldR⟩ other
    obtain below | above := Nat.lt_or_gt_of_ne other
    · exact h j k hj hk below q heldQ r heldR
    · exact (h k j hk hj above r heldR q heldQ).symm
  · exact fun h j k hj hk below q heldQ r heldR => h j k q r ⟨hj, heldQ⟩ ⟨hk, heldR⟩ below.ne

/-- A table is good when its slots are, its timer runs exactly while a lifetime counts, and its sequence
number is one of 16 bits. -/
theorem Table.good_iff {t : Table} :
    t.Good ↔ SlotsGood t.slots ∧ (t.minuteTimer.isSome ↔ t.anyLifetime = true)
      ∧ t.noticeSeq < 65536 := by
  have live (r : Record) : r ∈ t.records ↔ ∃ k : Nat, t.slots[k]? = some (some r) := by
    simp [← t.live_map_snd, Table.mem_live]
  have records : (∀ r ∈ t.records, r.Good) ↔
      ∀ (k : Nat) (r : Record), t.slots[k]? = some (some r) → r.Good := by
    simp only [live]
    exact ⟨fun h k r held => h r ⟨k, held⟩, fun h r ⟨k, held⟩ => h k r held⟩
  simp only [Table.Good, records, records_pairwise_apart_iff]
  constructor
  · rintro ⟨length, good, apart, timer, seq⟩
    exact ⟨⟨length, good _ _, apart _ _ _ _⟩, timer, seq⟩
  · rintro ⟨⟨length, good, apart⟩, timer, seq⟩
    exact ⟨length, fun _ _ => good, fun _ _ _ _ => apart, timer, seq⟩

theorem Table.Good.slots {t : Table} (h : t.Good) : SlotsGood t.slots := (Table.good_iff.mp h).1

namespace SlotsGood

variable {slots : List (Option Record)}


/-- A record that each slot's record may become, with its name and its kind of restriction kept, or the
slot be freed, leaves the slots good. -/
theorem map_bind (h : SlotsGood slots) {f : Record → Option Record}
    (keeps : ∀ {q r}, f q = some r → q.Good →
      r.Good ∧ r.origin = q.origin ∧ r.number = q.number ∧ r.imposes = q.imposes) :
    SlotsGood (slots.map fun o => o.bind f) := by
  have from_ {k : Nat} {r : Record} (held : (slots.map fun o => o.bind f)[k]? = some (some r)) :
      ∃ q, slots[k]? = some (some q) ∧ f q = some r := by
    simp only [List.getElem?_map, Option.map_eq_some_iff, Option.bind_eq_some_iff] at held
    obtain ⟨_, here, q, rfl, becomes⟩ := held
    exact ⟨q, here, becomes⟩
  refine ⟨by simp [h.length], fun held => ?_, fun heldQ heldR other => ?_⟩
  · obtain ⟨q, before, becomes⟩ := from_ held
    exact (keeps becomes (h.good before)).1
  · obtain ⟨q', beforeQ, becomesQ⟩ := from_ heldQ
    obtain ⟨r', beforeR, becomesR⟩ := from_ heldR
    obtain ⟨-, originQ, numberQ, imposesQ⟩ := keeps becomesQ (h.good beforeQ)
    obtain ⟨-, originR, numberR, imposesR⟩ := keeps becomesR (h.good beforeR)
    have apart := h.apart beforeQ beforeR other
    rwa [Record.Apart, originQ, numberQ, imposesQ, originR, numberR, imposesR]

/-- A freed slot leaves the slots good (R41). -/
theorem set_none (h : SlotsGood slots) (k : Nat) : SlotsGood (slots.set k none) := by
  have from_ {j : Nat} {q : Record} (held : (slots.set k none)[j]? = some (some q)) :
      slots[j]? = some (some q) := by
    rw [List.getElem?_set] at held
    split at held
    · split at held <;> simp at held
    · exact held
  exact ⟨by simp [h.length], fun held => h.good (from_ held),
    fun heldQ heldR other => h.apart (from_ heldQ) (from_ heldR) other⟩

/-- A good record stored in a slot leaves the slots good when it is apart from those of the other slots
(R48 to R50). -/
theorem set_some (h : SlotsGood slots) {k : Nat} {r : Record} (good : r.Good)
    (apart : ∀ (j : Nat) (q : Record), slots[j]? = some (some q) → j ≠ k → q.Apart r) :
    SlotsGood (slots.set k (some r)) := by
  have from_ {j : Nat} {q : Record} (held : (slots.set k (some r))[j]? = some (some q)) :
      (j = k ∧ q = r) ∨ (j ≠ k ∧ slots[j]? = some (some q)) := by
    rw [List.getElem?_set] at held
    split at held
    · next same =>
      split at held
      · exact .inl ⟨same.symm, by simpa using held.symm⟩
      · simp at held
    · next other => exact .inr ⟨Ne.symm other, held⟩
  refine ⟨by simp [h.length], fun held => ?_, fun heldQ heldR other => ?_⟩
  · obtain ⟨-, rfl⟩ | ⟨-, before⟩ := from_ held
    · exact good
    · exact h.good before
  · obtain ⟨rfl, rfl⟩ | ⟨hj, beforeQ⟩ := from_ heldQ
    · obtain ⟨rfl, rfl⟩ | ⟨hk, beforeR⟩ := from_ heldR
      · exact absurd rfl other
      · exact (apart _ _ beforeR hk).symm
    · obtain ⟨rfl, rfl⟩ | ⟨hk, beforeR⟩ := from_ heldR
      · exact apart _ _ beforeQ hj
      · exact h.apart beforeQ beforeR other

end SlotsGood

end Sys2Proof.Machine
end

section
/-! What an issue stores (R45, R46, R206, R207). -/

namespace Sys2Proof.Machine

/-! ### The fields of the class byte and the sides -/

theorem recordDirOfClass_eq (cls : Byte) : recordDirOfClass cls =
    if cls.toNat / 4 % 4 ≤ 2 then
      some (if cls.toNat / 4 % 4 = 0 then .up else if cls.toNat / 4 % 4 = 1 then .down else .both)
    else none := by
  have bits : (cls.extractLsb' 2 2).toNat = cls.toNat / 4 % 4 := by
    simp [BitVec.extractLsb'_toNat, Nat.shiftRight_eq_div_pow]
  unfold recordDirOfClass
  rw [bits]
  split
  · next up => simp [up]
  · next down => simp [down]
  · next both => simp [both]
  · rw [if_neg (by grind)]

theorem passageOfClass_eq (cls : Byte) : passageOfClass cls = decide (cls.toNat / 16 % 2 = 1) := by
  simp [passageOfClass, BitVec.getLsbD, Nat.testBit_eq_decide_div_mod_eq]

theorem sidesOfCode_eq (b : Byte) : sidesOfCode b =
    if 1 ≤ b.toNat ∧ b.toNat ≤ 3 then
      some (if b.toNat = 1 then .left else if b.toNat = 2 then .right else .both)
    else none := by
  unfold sidesOfCode
  split
  · next left => simp [left]
  · next right => simp [right]
  · next both => simp [both]
  · rw [if_neg (by grind)]

/-- What an issue imposes, by its record kind bits and its sides (R45 checks 2 and 6, R46). -/
theorem imposesOfIssue_eq (b : IssueBody) :
    let kind := b.cls.toNat % 4
    let sides := b.limitOrSides.toNat % 256
    imposesOfIssue b =
      if kind ≤ 2 ∧ (kind = 2 → 1 ≤ sides ∧ sides ≤ 3) then
        some (
          if kind = 0 then .speed (min b.limitOrSides.toNat 1023)
          else if kind = 1 then .stop
          else .doors (if sides = 1 then .left else if sides = 2 then .right else .both))
      else none := by
  intro kind sides
  have bits : (b.cls.extractLsb' 0 2).toNat = kind := by simp [BitVec.extractLsb'_toNat, kind]
  have code : (b.limitOrSides.extractLsb' 0 8).toNat = sides := by
    simp [BitVec.extractLsb'_toNat, sides]
  unfold imposesOfIssue
  rw [bits, sidesOfCode_eq, code]
  clear_value kind sides
  match kind with
  | 0 => simp [Config.maxSpeed]
  | 1 => simp
  | 2 => by_cases known : 1 ≤ sides ∧ sides ≤ 3 <;> simp [known]
  | _ + 3 => simp

/-! ### The record -/

/-- Settles O36: the kind, with its sides, and the direction are read from their bits, and what is left
of the checks is on the two ends. -/
theorem issuesAreCheckedThenBounded : Obligations.IssuesAreCheckedThenBounded := by
  intro origin b kind dir sides
  let imposed : Imposes := if kind = 0 then .speed (min b.limitOrSides.toNat 1023)
    else if kind = 1 then .stop
    else .doors (if sides = 1 then .left else if sides = 2 then .right else .both)
  have imposes : imposesOfIssue b =
      if kind ≤ 2 ∧ (kind = 2 → 1 ≤ sides ∧ sides ≤ 3) then some imposed else none :=
    imposesOfIssue_eq b
  have direction : recordDirOfClass b.cls =
      if dir ≤ 2 then some (if dir = 0 then .up else if dir = 1 then .down else .both) else none :=
    recordDirOfClass_eq b.cls
  have stop : imposed = .stop ↔ kind = 1 := by
    simp only [imposed]
    (repeat' split) <;> simp_all
  have target : (if kind = 0 then Imposes.speed (min b.limitOrSides.toNat 1023)
    else if kind = 1 then .stop
    else .doors (if sides = 1 then .left else if sides = 2 then .right else .both)) = imposed := rfl
  rw [target]
  unfold recordOfIssue
  rw [passageOfClass_eq]
  clear_value kind dir sides imposed
  by_cases kindKnown : kind ≤ 2 ∧ (kind = 2 → 1 ≤ sides ∧ sides ≤ 3)
  · by_cases dirKnown : dir ≤ 2
    · rw [if_pos kindKnown] at imposes
      rw [if_pos dirKnown] at direction
      obtain ⟨kindRange, sidesKnown⟩ := kindKnown
      simp [imposes, direction, stop, Config.maxPosition, kindRange, dirKnown,
        eq_true sidesKnown]
    · rw [if_neg dirKnown] at direction
      simp [direction, dirKnown]
  · rw [if_neg kindKnown] at imposes
    rw [if_neg (fun checks => kindKnown ⟨checks.1, checks.2.2.2.2.2⟩)]
    simp [imposes]

end Sys2Proof.Machine
end

section
/-! The table engine's classification of an issue, case by case in the order of R47, and the goodness of the
table it leaves (R41, R42, R47 to R51, R58, R62). -/

namespace Sys2Proof.Machine

/-! ### The table that a stored record leaves -/

/-- The table once an issue has stored its record: the slot, the notice of a radio issue, and the minute
timer (R48 to R50, R58, R62). -/
def Table.stored (source : IssueSource) (event : NoticeEvent) (k : Nat) (r : Record)
    (replaced : Option Nat) (t : Table) : Table :=
  ((t.store k r).noteIssue source event k r replaced).settleTimer

theorem Table.stored_eq (source : IssueSource) (event : NoticeEvent) (k : Nat) (r : Record)
    (replaced : Option Nat) (t : Table) :
    t.stored source event k r replaced =
      let slots := t.slots.set k (some r)
      { t with
        slots := slots
        minuteTimer := if slots.any (fun o => o.any Record.counts) = true then
            some (t.minuteTimer.getD 60000)
          else none
        notice := if source = .host then t.notice
          else ⟨event, k, r.imposes.kind, r.origin, r.number, replaced⟩
        noticeSeq := if source = .host then t.noticeSeq else (t.noticeSeq + 1) % 65536 } := by
  cases source <;> rfl

/-- With good slots, the settling of the minute timer makes a good table (R58). -/
theorem SlotsGood.settleTimer_good {t : Table} (slots : SlotsGood t.slots)
    (seq : t.noticeSeq < 65536) : t.settleTimer.Good := by
  refine Table.good_iff.mpr ⟨slots, ?_, seq⟩
  have kept : t.settleTimer.anyLifetime = t.anyLifetime := rfl
  rw [kept, Table.settleTimer]
  split <;> simp_all

theorem SlotsGood.stored_good {t : Table} {k : Nat} {r : Record} (seq : t.noticeSeq < 65536)
    (slots : SlotsGood (t.slots.set k (some r))) (source : IssueSource) (event : NoticeEvent)
    (replaced : Option Nat) : (t.stored source event k r replaced).Good := by
  cases source with
  | host => exact SlotsGood.settleTimer_good (t := t.store k r) slots seq
  | radio =>
    exact SlotsGood.settleTimer_good (t := (t.store k r).note event k r replaced) slots
      (Nat.mod_lt _ (by decide))

/-! ### The classification (R47 to R51) -/

theorem Table.create_free {t : Table} {j : Nat} (free : t.lowestFree = some j)
    (source : IssueSource) (r : Record) (replaced : Option Nat) :
    t.create source r replaced = (t.stored source .issued j r replaced, .new j replaced) := by
  simp only [Table.create, free]
  rfl

theorem Table.create_full {t : Table} (full : t.lowestFree = none) (source : IssueSource) (r : Record)
    (replaced : Option Nat) : t.create source r replaced = (t, .full) := by
  simp only [Table.create, full]

/-- The number of a live record that the issue names (R48). -/
theorem Table.classify_named {t : Table} {r q : Record} {k : Nat}
    (found : t.find r.origin r.number = some k) (live : t.get k = some q) (source : IssueSource) :
    t.classify source r =
      if q.imposes.kind = r.imposes.kind then (t.stored source .amended k r none, .amended k)
      else (t, .kind k q.imposes.kind) := by
  simp only [Table.classify, found, live]
  rfl

/-- A STOP issue takes the place of the STOP record of its origin (R49). -/
theorem Table.classify_replaces {t : Table} {r q : Record} {k : Nat}
    (absent : t.find r.origin r.number = none) (stop : r.imposes = .stop)
    (old : t.stopOf r.origin = some k) (live : t.get k = some q) (source : IssueSource) :
    t.classify source r = (t.freeSlot k).create source r (some q.number) := by
  simp only [Table.classify, absent, stop, old, Table.numberAt, live]
  rfl

/-- Any other issue is new (R50). -/
theorem Table.classify_creates {t : Table} {r : Record} (absent : t.find r.origin r.number = none)
    (noStop : r.imposes = .stop → t.stopOf r.origin = none) (source : IssueSource) :
    t.classify source r = t.create source r none := by
  simp only [Table.classify, absent]
  split
  · next old stop found => rw [noStop stop] at found; cases found
  · rfl

/-! ### The lookups of a good table -/

theorem Table.Good.find_of_named {t : Table} (good : t.Good) {k : Nat} {q r : Record}
    (live : t.get k = some q) (named : q.origin = r.origin ∧ q.number = r.number) :
    t.find r.origin r.number = some k := by
  cases found : t.find r.origin r.number with
  | none => exact absurd named (Table.find_eq_none.mp found k q live)
  | some j =>
    obtain ⟨p, held, origin, number⟩ := Table.find_eq_some found
    by_contra other
    have apart := good.slots.apart (Table.get_eq_some.mp held) (Table.get_eq_some.mp live)
      (fun same => other (congrArg some same))
    exact apart.1 ⟨origin.trans named.1.symm, number.trans named.2.symm⟩

theorem Table.Good.stopOf_of_stop {t : Table} (good : t.Good) {k : Nat} {q : Record}
    {origin : Origin} (live : t.get k = some q) (stop : q.imposes = .stop)
    (by_ : q.origin = origin) : t.stopOf origin = some k := by
  cases found : t.stopOf origin with
  | none => exact absurd ⟨stop, by_⟩ (Table.stopOf_eq_none.mp found k q live)
  | some j =>
    obtain ⟨p, held, stopP, byP⟩ := Table.stopOf_eq_some found
    by_contra other
    have apart := good.slots.apart (Table.get_eq_some.mp held) (Table.get_eq_some.mp live)
      (fun same => other (congrArg some same))
    exact apart.2 ⟨stopP, stop, byP.trans by_.symm⟩

/-! ### The cases of R47 -/

/-- A slot that is freed is FREE, so that one is found (R41, R49). -/
theorem Table.freeSlot_lowestFree {t : Table} {k : Nat} {q : Record} (live : t.get k = some q) :
    ∃ j, (t.freeSlot k).lowestFree = some j := by
  rw [← Option.isSome_iff_exists, Option.isSome_iff_ne_none]
  intro full
  obtain ⟨held, -⟩ := List.getElem?_eq_some_iff.mp (Table.get_eq_some.mp live)
  exact Table.lowestFree_eq_none.mp full k (by simp [Table.freeSlot, held])

/-- A freed slot holds no record, and the others hold theirs. -/
theorem Table.get_freeSlot_eq_some {t : Table} {j k : Nat} {q : Record} :
    (t.freeSlot k).get j = some q ↔ j ≠ k ∧ t.get j = some q := by
  simp only [Table.get_eq_some, Table.freeSlot, List.getElem?_set]
  by_cases same : k = j
  · subst same; simp
  · simp [same, Ne.symm same]

/-- Settles O37: each case of R47 with its lookups. -/
theorem issuesAreClassifiedInOrder : Obligations.IssuesAreClassifiedInOrder := by
  intro source r t good named lowestFree u result stored
  have table (event : NoticeEvent) (k : Nat) (replaced : Option Nat) :
      t.stored source event k r replaced = stored (t.slots.set k (some r)) event k replaced :=
    t.stored_eq source event k r replaced
  refine ⟨fun k q live name => ?_, fun absent => ⟨fun k q live stop stopQ origin => ?_, fun noStop => ?_⟩⟩
  · have classified := Table.classify_named (good.find_of_named live name) live source
    constructor
    · intro other
      rw [if_neg other] at classified
      simp only [u, result, classified, and_self]
    · intro same
      rw [if_pos same] at classified
      simp only [u, result, classified, table, and_self]
  · have missing := Table.find_eq_none.mpr absent
    obtain ⟨j, free⟩ := Table.freeSlot_lowestFree live
    have classified := Table.classify_replaces missing stop
      (good.stopOf_of_stop live stopQ origin) live source
    rw [Table.create_free free] at classified
    refine ⟨j, Table.lowestFree_eq_some.mp free, ?_, ?_⟩
    · simp only [result, classified]
    · simp only [u, classified]
      exact Table.stored_eq ..
  · have missing := Table.find_eq_none.mpr absent
    have classified := Table.classify_creates missing
      (fun stop => Table.stopOf_eq_none.mpr fun k q live ⟨stopQ, origin⟩ =>
        noStop k q live ⟨stop, stopQ, origin⟩) source
    constructor
    · intro j free
      rw [Table.create_free (Table.lowestFree_eq_some.mpr free)] at classified
      simp only [u, result, classified, table, and_self]
    · intro occupied
      have full : t.lowestFree = none := Option.eq_none_iff_forall_ne_some.mpr fun j free =>
        occupied j (Table.lowestFree_eq_some.mp free)
      rw [Table.create_full full] at classified
      simp only [u, result, classified, and_self]

/-! ### The table stays good -/

/-- What an issue stores is a good record of its origin, when its origin is good (R42, R45, R46). -/
theorem recordOfIssue_good {origin : Origin} {b : IssueBody} {r : Record}
    (h : recordOfIssue origin b = some r) (good : origin.good = true) : r.Good := by
  rw [issuesAreCheckedThenBounded] at h
  obtain ⟨⟨kindRange, -, ordered, upper, point, -⟩, e⟩ := Option.ite_none_right_eq_some.mp h
  obtain rfl := Option.some.inj e
  have lifetime : b.lifetime.toNat < 256 := b.lifetime.isLt
  refine ⟨ordered, upper, ?_, good, b.number.isLt, ?_, ?_, fun stop => ?_⟩
  · dsimp only
    (repeat' split) <;> simp [Imposes.good, Config.maxSpeed]
  · grind
  · grind
  · have kind : b.cls.toNat % 4 = 1 := by grind
    simp [kind, point kind]

/-- A record that takes the slot of the live one with its name and kind is apart from the others
(R48). -/
theorem Table.Good.amended {t : Table} (good : t.Good) {k : Nat} {q r : Record}
    (live : t.get k = some q) (named : q.origin = r.origin ∧ q.number = r.number)
    (kind : q.imposes.kind = r.imposes.kind) (goodR : r.Good) :
    SlotsGood (t.slots.set k (some r)) := by
  refine good.slots.set_some goodR fun j p held other => ?_
  obtain ⟨names, stops⟩ := good.slots.apart held (Table.get_eq_some.mp live) other
  obtain ⟨origin, number⟩ := named
  refine ⟨by rwa [origin, number] at names, fun ⟨stopP, stopR, same⟩ => stops ⟨stopP, ?_, ?_⟩⟩
  · rw [stopR] at kind
    cases imposed : q.imposes <;> simp [imposed, Imposes.kind] at kind ⊢
  · rw [origin, same]

/-- A record whose name no live one has, and with it no STOP record of its origin where it is one, is
apart from the others (R49, R50). -/
theorem Table.created_good {t : Table} (slots : SlotsGood t.slots) (seq : t.noticeSeq < 65536)
    {r : Record} (absent : ∀ k q, t.get k = some q → ¬(q.origin = r.origin ∧ q.number = r.number))
    (noStop : r.imposes = .stop → ∀ k q, t.get k = some q → ¬(q.imposes = .stop ∧ q.origin = r.origin))
    (goodR : r.Good) {j : Nat} (source : IssueSource) (replaced : Option Nat) :
    (t.stored source .issued j r replaced).Good := by
  refine SlotsGood.stored_good seq (slots.set_some goodR fun k q held _ => ?_) _ _ _
  have live := Table.get_eq_some.mpr held
  exact ⟨absent k q live, fun ⟨stopQ, stop, origin⟩ => noStop stop k q live ⟨stopQ, origin⟩⟩

/-- The classification of a good record leaves a good table (R47 to R51). -/
theorem Table.Good.classify {t : Table} (good : t.Good) {r : Record} (goodR : r.Good)
    (source : IssueSource) : (t.classify source r).1.Good := by
  obtain ⟨slots, -, seq⟩ := Table.good_iff.mp good
  cases found : t.find r.origin r.number with
  | some k =>
    obtain ⟨q, live, named⟩ := Table.find_eq_some found
    rw [Table.classify_named found live]
    split
    · next kind => exact SlotsGood.stored_good seq (good.amended live named kind goodR) _ _ _
    · exact good
  | none =>
    have absent := Table.find_eq_none.mp found
    by_cases replaces : r.imposes = .stop ∧ ∃ k, t.stopOf r.origin = some k
    · obtain ⟨stop, k, old⟩ := replaces
      obtain ⟨q, live, stopQ, origin⟩ := Table.stopOf_eq_some old
      obtain ⟨j, free⟩ := Table.freeSlot_lowestFree live
      rw [Table.classify_replaces found stop old live, Table.create_free free]
      refine Table.created_good (t := t.freeSlot k) (slots.set_none k) seq (fun i p held => ?_)
        (fun _ i p held ⟨stopP, originP⟩ => ?_) goodR _ _
      · exact absent i p (Table.get_freeSlot_eq_some.mp held).2
      · obtain ⟨other, held⟩ := Table.get_freeSlot_eq_some.mp held
        rw [good.stopOf_of_stop held stopP originP] at old
        exact other (Option.some.inj old)
    · have noStop (stop : r.imposes = .stop) : t.stopOf r.origin = none :=
        Option.eq_none_iff_forall_ne_some.mpr fun k old => replaces ⟨stop, k, old⟩
      rw [Table.classify_creates found noStop]
      cases free : t.lowestFree with
      | none => rw [Table.create_full free]; exact good
      | some j =>
        rw [Table.create_free free]
        exact Table.created_good slots seq absent
          (fun stop => Table.stopOf_eq_none.mp (noStop stop)) goodR _ _

end Sys2Proof.Machine
end

section
/-! The receiving side of the radio: the frame buffers with the assembler and the processor, the operations
that leave them alone, and what the processor makes of them when it takes frames (R159, R163, R164,
R176). -/

namespace Sys2Proof.Machine

/-! ### The receiving side -/

/-- What of the radio the assembler and the processor act on: their states, the buffers and the current
mode. -/
def Radio.receiver (r : Radio) : Radio := { State.reset.radio with
  assembler := r.assembler, buf0 := r.buf0, buf1 := r.buf1, busy := r.busy, current := r.current }

@[simp] theorem Radio.receiver_assembler (r : Radio) : r.receiver.assembler = r.assembler := rfl
@[simp] theorem Radio.receiver_busy (r : Radio) : r.receiver.busy = r.busy := rfl
@[simp] theorem Radio.receiver_current (r : Radio) : r.receiver.current = r.current := rfl
@[simp] theorem Radio.receiver_buf (r : Radio) (i : BufId) : r.receiver.buf i = r.buf i := by
  cases i <;> rfl

theorem Radio.buf_of_receiver {r q : Radio} (h : q.receiver = r.receiver) (i : BufId) :
    q.buf i = r.buf i := by
  rw [← Radio.receiver_buf, h, Radio.receiver_buf]

theorem Radio.current_of_receiver {r q : Radio} (h : q.receiver = r.receiver) :
    q.current = r.current := by
  rw [← Radio.receiver_current, h, Radio.receiver_current]

@[simp] theorem Radio.startSelected_receiver (parity : Nat) (address : Byte) (r : Radio) :
    (r.startSelected parity address).receiver = r.receiver := by
  unfold Radio.startSelected; split <;> rfl

@[simp] theorem Radio.startIfQuiet_receiver (parity : Nat) (address : Byte) (r : Radio) :
    (r.startIfQuiet parity address).receiver = r.receiver := by
  unfold Radio.startIfQuiet; split <;> simp

@[simp] theorem Radio.place_receiver (kind : Byte) (priority : Nat) (origin : QueueOrigin)
    (destination : Byte) (body : List Byte) (spontaneous : Bool) (r : Radio) :
    (r.place kind priority origin destination body spontaneous).receiver = r.receiver := rfl

@[simp] theorem Radio.displace_receiver (r : Radio) : r.displace.receiver = r.receiver := by
  unfold Radio.displace
  split
  · dsimp only
    split <;> rfl
  · rfl

@[simp] theorem Radio.alarmed_receiver (parity : Nat) (address : Byte) (body : List Byte) (r : Radio) :
    (r.alarmed parity address body).receiver = r.receiver := by
  unfold Radio.alarmed Radio.placeAlarm
  split
  · rfl
  · split
    · simp
    · split
      · simp
      · rfl

@[simp] theorem State.startFrame_receiver (s : State) :
    s.startFrame.radio.receiver = s.radio.receiver := by simp [State.startFrame_eq]

@[simp] theorem State.judgeStart_receiver (s : State) :
    s.judgeStart.radio.receiver = s.radio.receiver := by simp [State.judgeStart_eq]

@[simp] theorem State.evaluate_receiver (s : State) :
    s.evaluate.radio.receiver = s.radio.receiver := by
  rw [State.evaluate_eq]
  dsimp only
  split
  · simp
  · rfl

@[simp] theorem State.evaluateIf_receiver (c : Bool) (s : State) :
    (s.evaluateIf c).radio.receiver = s.radio.receiver := by
  cases c
  · rfl
  · exact s.evaluate_receiver

@[simp] theorem State.setFlagIf_radio (c : Bool) (f : Flag) (s : State) :
    (s.setFlagIf c f).radio = s.radio := by cases c <;> rfl

@[simp] theorem State.setLink_receiver (l : LinkStatus) (s : State) :
    (s.setLink l).radio.receiver = s.radio.receiver := by
  unfold State.setLink
  split
  · rfl
  · rw [State.evaluate_receiver]; rfl

@[simp] theorem State.linkHeard_receiver (s : State) :
    s.linkHeard.radio.receiver = s.radio.receiver := by
  rw [State.linkHeard, State.setLink_receiver]; rfl

@[simp] theorem State.issueRecord_receiver (source : IssueSource) (o : Origin) (b : IssueBody)
    (s : State) : (s.issueRecord source o b).1.radio.receiver = s.radio.receiver := by
  unfold State.issueRecord
  split
  · rfl
  · simp

@[simp] theorem State.revokeSlot_receiver (slot : Nat) (s : State) :
    (s.revokeSlot slot).radio.receiver = s.radio.receiver := by
  rw [State.revokeSlot, State.evaluate_receiver]; rfl

@[simp] theorem State.deliver_receiver (f : Frame) (s : State) :
    (s.deliver f).1.radio.receiver = s.radio.receiver := by
  unfold State.deliver; split <;> rfl

@[simp] theorem State.placeAnswer_receiver (a : Answer) (s : State) :
    (s.placeAnswer a).radio.receiver = s.radio.receiver := by
  rw [State.placeAnswer, State.judgeStart_receiver]; rfl

@[simp] theorem State.reportLeaving_receiver (result : TxResult) (s : State) (e : QueueEntry) :
    (s.reportLeaving result e).radio.receiver = s.radio.receiver := by
  unfold State.reportLeaving; split <;> rfl

@[simp] theorem State.removeFirst_receiver (test : QueueEntry → Bool) (result : TxResult) (s : State) :
    (s.removeFirst test result).radio.receiver = s.radio.receiver := by
  unfold State.removeFirst
  split
  · rw [State.reportLeaving_receiver]; rfl
  · rfl

@[simp] theorem State.removeEntries_receiver (test : QueueEntry → Bool) (result : TxResult)
    (s : State) : (s.removeEntries test result).radio.receiver = s.radio.receiver := by
  have reports (es : List QueueEntry) (u : State) :
      (es.foldl (State.reportLeaving result) u).radio.receiver = u.radio.receiver := by
    induction es generalizing u with
    | nil => rfl
    | cons e es ih => rw [List.foldl_cons, ih, State.reportLeaving_receiver]
  rw [State.removeEntries, reports]; rfl

@[simp] theorem State.finishTransmission_receiver (s : State) :
    s.finishTransmission.radio.receiver = s.radio.receiver := by
  unfold State.finishTransmission State.endEntry
  split
  · rfl
  · split
    · dsimp only
      split <;> exact (State.removeFirst_receiver _ _ _).trans rfl
    · rfl

@[simp] theorem State.placePending_receiver (s : State) :
    s.placePending.radio.receiver = s.radio.receiver := by
  unfold State.placePending
  split
  · split <;> rfl
  · rfl

/-! ### The processor (R164, R176) -/

/-- The work on a frame leaves the receiving side alone. -/
theorem State.processStation_receiver (f : Frame) (s : State) :
    (s.processStation f).1.radio.receiver = s.radio.receiver := by
  unfold State.processStation
  split
  · split
    · exact State.issueRecord_receiver _ _ _ s
    · rfl
  · split
    · split
      · dsimp only [State.processRevoke]
        split
        · exact State.revokeSlot_receiver _ s
        · rfl
      · rfl
    · split
      · rfl
      · split
        · rfl
        · split
          · exact State.deliver_receiver f s
          · rfl

/-- The taking of a frame makes the processor BUSY and leaves the buffers as they are. -/
theorem State.processFrame_receiver (f : Frame) (s : State) :
    (s.processFrame f).1.radio.receiver = { s.radio with busy := true }.receiver := by
  unfold State.processFrame
  dsimp only
  split
  · exact State.deliver_receiver f _
  · have work := State.processStation_receiver f (s.onRadio fun r => { r with busy := true })
    split
    · split
      · split
        · exact (State.placeAnswer_receiver _ _).trans work
        · exact Eq.trans rfl work
      · exact work
    · exact work

@[simp] theorem State.processFrame_buf (f : Frame) (s : State) (i : BufId) :
    (s.processFrame f).1.radio.buf i = s.radio.buf i :=
  (Radio.buf_of_receiver (s.processFrame_receiver f) i).trans (by cases i <;> rfl)

@[simp] theorem BufId.other_other (i : BufId) : i.other.other = i := by cases i <;> rfl

theorem BufId.eq_or_other (i k : BufId) : k = i ∨ k = i.other := by
  cases i <;> cases k <;> decide

/-- With one of the buffers out of a state, the other is the one in that state, if any is. -/
theorem Radio.findBuf_of_not {r : Radio} {i : BufId} {st : BufState} (h : (r.buf i).state ≠ st) :
    r.findBuf st = if (r.buf i.other).state = st then some i.other else none := by
  cases i with
  | buf0 => exact if_neg h
  | buf1 =>
    have free : r.buf1.state ≠ st := h
    unfold Radio.findBuf
    rw [if_neg free]
    rfl

theorem Radio.findBuf_eq_some {r : Radio} {i : BufId} {st : BufState} (h : r.findBuf st = some i) :
    (r.buf i).state = st := by
  unfold Radio.findBuf at h
  split at h
  · next first => cases h; exact first
  · split at h
    · next second => cases h; exact second
    · cases h

theorem Radio.findBuf_eq_none {r : Radio} {st : BufState} (h : r.findBuf st = none) (i : BufId) :
    (r.buf i).state ≠ st := by
  unfold Radio.findBuf at h
  split at h
  · cases h
  · next first =>
    split at h
    · cases h
    · next second => cases i <;> assumption

/-- The taking of the frame in a buffer: it is processed, and when that has finished the buffer is
FREE, and a HELD frame in the other buffer is taken (R164, R176). -/
theorem State.takeFrames_succ (n : Nat) (i : BufId) (s : State) :
    let taken := s.onRadio (Radio.moveBuf .processing i)
    let worked := taken.processFrame (frameOf (s.radio.buf i).content)
    let freed := worked.1.onRadio (Radio.freeBuf i)
    s.takeFrames (n + 1) i =
      if worked.2 = false then worked.1
      else if (s.radio.buf i.other).state = .held then State.takeFrames n i.other freed
      else freed.onRadio fun r => { r with busy := false } := by
  intro taken worked freed
  have content : (taken.radio.buf i).content = (s.radio.buf i).content := by
    simp [taken, Radio.moveBuf]
  have other : freed.radio.buf i.other = s.radio.buf i.other := by
    simp [freed, worked, taken, Radio.freeBuf, Radio.moveBuf]
  have free : (freed.radio.buf i).state ≠ .held := by
    simp [freed, Radio.freeBuf, FrameBuffer.freed]
  have next := Radio.findBuf_of_not free
  rw [other] at next
  have unfolded : s.takeFrames (n + 1) i =
      if worked.2 = true then
        match freed.radio.findBuf .held with
        | some j => State.takeFrames n j freed
        | none => freed.onRadio fun r => { r with busy := false }
      else worked.1 := by
    simp only [freed, worked, ← content]
    rfl
  rw [unfolded, next]
  cases worked.2 with
  | false => rfl
  | true =>
    by_cases held : (s.radio.buf i.other).state = .held
    · simp only [if_pos held]; rfl
    · simp only [if_neg held]; rfl

end Sys2Proof.Machine
end

section
/-! What leaves the restriction table alone, and the operations of the table engine, each from a good table
to a good one (R41, R42, R48 to R51, R53, R56, R58 to R60). -/

namespace Sys2Proof.Machine

/-! ### What leaves the table alone -/

theorem ReachRadio.table_eq {s t : State} (h : ReachRadio s t) : t.table = s.table :=
  h.supervision.table_eq

@[simp] theorem State.evaluate_table (s : State) : s.evaluate.table = s.table :=
  (evaluate_reach s).table_eq
@[simp] theorem State.evaluateIf_table (c : Bool) (s : State) : (s.evaluateIf c).table = s.table :=
  (evaluateIf_reach c s).table_eq
@[simp] theorem State.setFlagIf_table (c : Bool) (f : Flag) (s : State) :
    (s.setFlagIf c f).table = s.table := (setFlagIf_reach c f s).table_eq
@[simp] theorem State.changeSupState_table (new : SupState) (s : State) :
    (s.changeSupState new).table = s.table := (changeSupState_reach new s).table_eq
@[simp] theorem State.handCause_table (f : Causes → Causes) (s : State) :
    (s.handCause f).table = s.table := (handCause_reach f s).table_eq
@[simp] theorem State.handEmergIn_table (b : Bool) (s : State) :
    (s.handEmergIn b).table = s.table := (handEmergIn_reach b s).table_eq
@[simp] theorem State.handSecure_table (b : Bool) (s : State) :
    (s.handSecure b).table = s.table := (handSecure_reach b s).table_eq
@[simp] theorem State.setLink_table (l : LinkStatus) (s : State) : (s.setLink l).table = s.table :=
  (setLink_reach l s).table_eq
@[simp] theorem State.linkHeard_table (s : State) : s.linkHeard.table = s.table :=
  (linkHeard_reach s).table_eq
@[simp] theorem State.startFrame_table (s : State) : s.startFrame.table = s.table :=
  (startFrame_reach s).table_eq
@[simp] theorem State.judgeStart_table (s : State) : s.judgeStart.table = s.table :=
  (judgeStart_reach s).table_eq
@[simp] theorem State.deliver_table (f : Frame) (s : State) : (s.deliver f).1.table = s.table :=
  (deliver_reach f s).table_eq
@[simp] theorem State.placeAnswer_table (a : Answer) (s : State) :
    (s.placeAnswer a).table = s.table := (placeAnswer_reach a s).table_eq
@[simp] theorem State.placePending_table (s : State) : s.placePending.table = s.table :=
  (placePending_reach s).table_eq
@[simp] theorem State.enterQuietMode_table (s : State) : s.enterQuietMode.table = s.table :=
  (enterQuietMode_reach s).table_eq
@[simp] theorem State.removeFirst_table (test : QueueEntry → Bool) (r : TxResult) (s : State) :
    (s.removeFirst test r).table = s.table := (removeFirst_reach test r s).table_eq
@[simp] theorem State.removeEntries_table (test : QueueEntry → Bool) (r : TxResult) (s : State) :
    (s.removeEntries test r).table = s.table := (removeEntries_reach test r s).table_eq
@[simp] theorem State.finishTransmission_table (s : State) : s.finishTransmission.table = s.table :=
  (finishTransmission_reach s).table_eq
@[simp] theorem State.makeReport_table (s : State) : s.makeReport.table = s.table :=
  (makeReport_reach s).table_eq

@[simp] theorem State.commitDoors_table (x : Doors × Bool) (s : State) :
    (s.commitDoors x).table = s.table := by
  unfold State.commitDoors; dsimp only; split <;> simp

@[simp] theorem State.doorEvent_table (f : DoorTimes → Door → DoorStep) (id : DoorId) (s : State) :
    (s.doorEvent f id).table = s.table := State.commitDoors_table _ s

@[simp] theorem State.grant_table (side : Side) (override : Bool) (s : State) :
    (s.grant side override).table = s.table := by
  cases override <;> exact State.commitDoors_table _ _

@[simp] theorem State.acknowledge_table (s : State) : s.acknowledge.table = s.table := by
  simp [State.acknowledge, State.clearCauses]

@[simp] theorem State.odoFault_table (f : OdoFault) (s : State) :
    (s.odoFault f).table = s.table := by
  unfold State.odoFault; split <;> simp

@[simp] theorem State.illegalStep_table (s : State) : s.illegalStep.table = s.table := by
  simp [State.illegalStep]

@[simp] theorem State.enterStandstill_table (s : State) : s.enterStandstill.table = s.table := rfl

@[simp] theorem State.wheelChange_table (level : Bool) (s : State) :
    (s.wheelChange level).table = s.table := by
  unfold State.wheelChange State.wheelTurn; dsimp only; (repeat' split) <;> simp

@[simp] theorem State.markerChange_table (level : Bool) (s : State) :
    (s.markerChange level).table = s.table := by
  unfold State.markerChange State.markerPass; dsimp only; (repeat' split) <;> simp

@[simp] theorem State.bandApplyExpiry_table (s : State) : s.bandApplyExpiry.table = s.table := by
  unfold State.bandApplyExpiry State.brakeFault; dsimp only; split <;> simp

@[simp] theorem State.loopAgreementExpiry_table (s : State) :
    s.loopAgreementExpiry.table = s.table := by
  unfold State.loopAgreementExpiry State.brakeFault; dsimp only; split <;> simp

@[simp] theorem State.afterSection_table (sect : Nat) (s : State) :
    (s.afterSection sect).table = s.table := by
  unfold State.afterSection; split <;> rfl

/-! ### Issuing and revoking -/

/-- An issue from a good origin leaves a good table (R44 to R51). -/
theorem State.issueRecord_table_good {s : State} (good : s.table.Good) (source : IssueSource)
    {o : Origin} (origin : o.good = true) (b : IssueBody) :
    (s.issueRecord source o b).1.table.Good := by
  unfold State.issueRecord
  cases stores : recordOfIssue o b with
  | none => exact good
  | some r =>
    have classified := good.classify (recordOfIssue_good stores origin) source
    simp only [State.evaluateIf_table, State.setFlagIf_table]
    unfold Table.loseIfFull
    split <;> exact classified

/-- Freeing a slot with a notice leaves good slots, and a sequence number of 16 bits. -/
theorem SlotsGood.freeWithNotice {t : Table} (slots : SlotsGood t.slots) (seq : t.noticeSeq < 65536)
    (e : NoticeEvent) (k : Nat) :
    SlotsGood (t.freeWithNotice e k).slots ∧ (t.freeWithNotice e k).noticeSeq < 65536 := by
  refine ⟨?_, ?_⟩
  · rw [Table.freeWithNotice_slots]; exact slots.set_none k
  · unfold Table.freeWithNotice
    split
    · exact Nat.mod_lt _ (by decide)
    · exact seq

theorem SlotsGood.freeAll {t : Table} (slots : SlotsGood t.slots) (seq : t.noticeSeq < 65536)
    (frees : List (Nat × NoticeEvent)) :
    SlotsGood (t.freeAll frees).slots ∧ (t.freeAll frees).noticeSeq < 65536 := by
  induction frees generalizing t with
  | nil => exact ⟨slots, seq⟩
  | cons x frees ih =>
    obtain ⟨slots, seq⟩ := slots.freeWithNotice seq x.2 x.1
    exact ih slots seq

theorem State.revokeSlot_table_good {s : State} (good : s.table.Good) (k : Nat) :
    (s.revokeSlot k).table.Good := by
  obtain ⟨slots, -, seq⟩ := Table.good_iff.mp good
  obtain ⟨slots, seq⟩ := slots.freeWithNotice seq .revoked k
  rw [State.revokeSlot, State.evaluate_table]
  exact slots.settleTimer_good seq

/-! ### The counted edge (R56, R57, R60) -/

theorem State.edgePosition_table_good {s : State} (good : s.table.Good) (dir : Dir) :
    (s.edgePosition dir).1.table.Good := by
  obtain ⟨slots, -, seq⟩ := Table.good_iff.mp good
  unfold State.edgePosition
  split
  · exact good
  · unfold State.retireRecords
    dsimp only
    split
    · obtain ⟨slots, seq⟩ := slots.freeAll seq _
      exact slots.settleTimer_good seq
    · exact good

/-- Beside the records that it frees, an edge leaves the table alone. -/
theorem State.countedEdge_table (dir : Dir) (now : Micros) (s : State) :
    (s.countedEdge dir now).table = (s.edgePosition dir).1.table := by
  rw [State.countedEdge_eq]
  dsimp only
  split
  · rw [State.odoFault_table, State.evaluateIf_table]; rfl
  · rw [State.evaluateIf_table]; rfl

theorem State.pinionStep_table_good {s : State} (good : s.table.Good) (a b : Bool) (now : Micros) :
    (s.pinionStep a b now).table.Good := by
  unfold State.pinionStep
  dsimp only
  split
  · exact good
  · rw [State.countedEdge_table]
    refine State.edgePosition_table_good ?_ _
    exact good
  · rw [State.illegalStep_table]; exact good

/-! ### The minute expiry (R58, R59) -/

/-- What a live record is after a minute expiry, none when it is freed (R58, R59). -/
def Record.aged (underCar : Bool) (r : Record) : Option Record :=
  if r.runsOut && !underCar then none else some (r.minute underCar)

/-- A record's lifetime at a minute expiry (R58, R59). -/
theorem Record.aged_eq (underCar : Bool) (r : Record) : r.aged underCar =
    match r.lifetime with
    | some 1 => if underCar then some { r with lifetime := some 0, expiring := true } else none
    | some (n + 2) => some { r with lifetime := some (n + 1) }
    | _ => some r := by
  obtain ⟨imposes, origin, number, dir, first, last, lifetime, passage, expiring⟩ := r
  match lifetime with
  | none => rfl
  | some 0 => rfl
  | some 1 => cases underCar <;> simp [Record.aged, Record.runsOut, Record.minute]
  | some (n + 2) => simp [Record.aged, Record.runsOut, Record.minute]

/-- Ageing keeps a record good, with its name and what it imposes (R42, R58, R59). -/
theorem Record.aged_good {underCar : Bool} {q r : Record} (h : q.aged underCar = some r)
    (good : q.Good) :
    r.Good ∧ r.origin = q.origin ∧ r.number = q.number ∧ r.imposes = q.imposes := by
  obtain ⟨ordered, upper, imposes, origin, number, lifetime, expiring, stop⟩ := good
  rw [Record.aged_eq] at h
  split at h
  · next one =>
    split at h
    · cases h
      exact ⟨⟨ordered, upper, imposes, origin, number, by simp, by simp, by simp_all⟩, rfl, rfl, rfl⟩
    · cases h
  · next n more =>
    cases h
    refine ⟨⟨ordered, upper, imposes, origin, number, ?_, ?_, by simp_all⟩, rfl, rfl, rfl⟩
    · have := lifetime (n + 2) more
      simp; omega
    · simp [expiring, more]
  · cases h
    exact ⟨⟨ordered, upper, imposes, origin, number, lifetime, expiring, stop⟩, rfl, rfl, rfl⟩

/-- Why a minute expiry frees a record, if it does: its lifetime runs out away from the car (R59). -/
def State.minuteReason (s : State) (r : Record) : Option NoticeEvent :=
  if r.runsOut && !s.onRecord r then some .expired else none

theorem State.minuteFrees_eq (s : State) : s.minuteFrees = s.table.freesBy s.minuteReason := by
  unfold State.minuteFrees Table.freesBy State.minuteReason
  congr 1
  funext x
  split <;> rfl

/-- A table with each record changed, and its minute timer stopped. -/
def Table.changed (g : Record → Record) (t : Table) : Table :=
  { t with slots := t.slots.map fun o => o.map g, minuteTimer := none }

/-- Records that keep their name and kind are freed with the notices that they had before (R62). -/
theorem Table.freeAll_changed {g : Record → Record}
    (keeps : ∀ r, (g r).imposes = r.imposes ∧ (g r).origin = r.origin ∧ (g r).number = r.number)
    (frees : List (Nat × NoticeEvent)) (t : Table) :
    (t.changed g).freeAll frees = (t.freeAll frees).changed g := by
  induction frees generalizing t with
  | nil => rfl
  | cons x frees ih =>
    have first : (t.changed g).freeWithNotice x.2 x.1 = (t.freeWithNotice x.2 x.1).changed g := by
      have held : (t.changed g).get x.1 = (t.get x.1).map g := by
        simp only [Table.get, Table.changed, List.getElem?_map]
        cases t.slots[x.1]? <;> rfl
      cases live : t.get x.1 with
      | none => simp only [Table.freeWithNotice, held, live, Option.map_none]
      | some r =>
        obtain ⟨imposes, origin, number⟩ := keeps r
        rw [Table.freeWithNotice_live live,
          Table.freeWithNotice_live (held.trans (congrArg (Option.map g) live)), imposes, origin, number]
        simp [Table.changed]
    rw [Table.freeAll_cons, first, ih, Table.freeAll_cons]

theorem Record.minute_keeps (underCar : Bool) (r : Record) :
    (r.minute underCar).imposes = r.imposes ∧ (r.minute underCar).origin = r.origin
      ∧ (r.minute underCar).number = r.number := by
  unfold Record.minute; split <;> exact ⟨rfl, rfl, rfl⟩

/-- The table after a minute expiry: the records that run out are freed, and the others lowered (R58,
R59). -/
theorem State.minuteExpiry_table (s : State) : s.minuteExpiry.table =
    ((s.table.freeAll (s.table.freesBy s.minuteReason)).changed
      fun r => r.minute (s.onRecord r)).settleTimer := by
  rw [State.minuteExpiry, State.evaluateIf_table, State.setFlagIf_table, State.minuteFrees_eq]
  exact congrArg Table.settleTimer
    (Table.freeAll_changed (fun r => r.minute_keeps (s.onRecord r)) _ s.table)

theorem State.minuteExpiry_slots (s : State) : s.minuteExpiry.table.slots =
    s.table.slots.map fun o => o.bind fun r => r.aged (s.onRecord r) := by
  have slots := s.table.freeAll_freesBy_slots s.minuteReason
  rw [State.minuteExpiry_table]
  simp only [Table.settleTimer, Table.changed, slots, List.map_map]
  refine List.map_congr_left fun o _ => ?_
  cases o with
  | none => rfl
  | some r =>
    simp only [Function.comp_apply, Option.filter, State.minuteReason, Record.aged, Option.bind_some]
    split <;> rfl

theorem State.minuteExpiry_table_good {s : State} (good : s.table.Good) :
    s.minuteExpiry.table.Good := by
  obtain ⟨slots, -, seq⟩ := Table.good_iff.mp good
  have aged : SlotsGood s.minuteExpiry.table.slots := by
    rw [State.minuteExpiry_slots]
    exact slots.map_bind fun h good => Record.aged_good h good
  rw [State.minuteExpiry_table] at aged ⊢
  exact SlotsGood.settleTimer_good (t := Table.changed _ _) aged (slots.freeAll seq _).2

end Sys2Proof.Machine
end

section
/-! The restriction table under the radio: a table change comes from a frame that the processor takes, and
every frame that it takes outside SELFTEST comes from a station. `State.Serving` says so of a state, and
each radio operation keeps it (R42, R159, R163, R164, R168, R176). -/

namespace Sys2Proof.Machine

/-! ### The invariant of the radio side -/

/-- The frame in a buffer comes from a station, unless it is one of SELFTEST (R163). -/
def Radio.FromStation (r : Radio) (i : BufId) : Prop :=
  r.current ≠ .selftest →
    1 ≤ (frameOf (r.buf i).content).source.toNat ∧ (frameOf (r.buf i).content).source.toNat ≤ 15

/-- What the processor relies on between events: the assembler's buffer is ASSEMBLING, a HELD frame waits
for the other one and comes from a station, and a BUSY processor has one. -/
structure Radio.Ready (r : Radio) : Prop where
  assembling : ∀ i, r.assembler = some i → (r.buf i).state = .assembling
  held : ∀ i, (r.buf i).state = .held → (r.buf i.other).state = .processing
  busy : r.busy = true → ∃ i, (r.buf i).state = .processing
  station : ∀ i, (r.buf i).state = .held → r.FromStation i

/-- A good table, and a radio that is ready for the next frame. -/
structure State.Serving (s : State) : Prop where
  table : s.table.Good
  ready : s.radio.Ready

theorem Radio.receiver_ready (r : Radio) : r.receiver.Ready ↔ r.Ready := by
  constructor <;> rintro ⟨assembling, held, busy, station⟩ <;>
    exact ⟨by simpa using assembling, by simpa using held, by simpa using busy,
      by simpa [Radio.FromStation] using station⟩

theorem Radio.Ready.of_receiver {r q : Radio} (h : r.Ready) (same : q.receiver = r.receiver) :
    q.Ready := by
  rw [← Radio.receiver_ready, same, Radio.receiver_ready]; exact h

/-- What leaves the table and the receiving side alone leaves a state serving. -/
theorem State.Serving.of_same {s t : State} (h : s.Serving) (table : t.table = s.table)
    (receiver : t.radio.receiver = s.radio.receiver) : t.Serving :=
  ⟨table ▸ h.table, h.ready.of_receiver receiver⟩

/-- The conditions on the buffers and the frames that a good radio meets. -/
theorem Radio.ready_of_good {r : Radio} (buffers : r.BuffersGood) (held : r.HeldGood) : r.Ready := by
  obtain ⟨-, -, each, busy, -, -⟩ := buffers
  have member (i : BufId) : i ∈ [BufId.buf0, .buf1] := by cases i <;> simp
  refine ⟨fun i inside => ((each i (member i)).1).mpr inside, fun i => (each i (member i)).2.1,
    fun b => ?_, fun i h other => held other i (member i) h⟩
  obtain first | second := busy.mp b
  · exact ⟨.buf0, first⟩
  · exact ⟨.buf1, second⟩

/-- The assembler begins or goes on in a buffer that is not being processed. -/
theorem Radio.Ready.assemble {r : Radio} (h : r.Ready) {i : BufId}
    (unprocessed : (r.buf i).state ≠ .processing) (c : List Byte) :
    ({ r.setBuf ⟨.assembling, c⟩ i with assembler := some i } : Radio).Ready := by
  set q : Radio := { r.setBuf ⟨.assembling, c⟩ i with assembler := some i }
  have same : (q.buf i).state = .assembling := by cases i <;> rfl
  have other : q.buf i.other = r.buf i.other := by cases i <;> rfl
  have noneHeld (k : BufId) : (q.buf k).state ≠ .held := by
    intro held
    obtain rfl | rfl := BufId.eq_or_other i k
    · rw [same] at held; cases held
    · rw [other] at held
      have processing := h.held _ held
      rw [BufId.other_other] at processing
      exact unprocessed processing
  refine ⟨fun k inside => ?_, fun k held => absurd held (noneHeld k), fun b => ?_,
    fun k held => absurd held (noneHeld k)⟩
  · cases inside; exact same
  · obtain ⟨j, processing⟩ := h.busy (by rw [← b]; cases i <;> rfl)
    obtain rfl | rfl := BufId.eq_or_other i j
    · exact absurd processing unprocessed
    · exact ⟨i.other, other ▸ processing⟩

/-- The assembler goes OUTSIDE, and a buffer that is not being processed becomes FREE. -/
theorem Radio.Ready.release {r : Radio} (h : r.Ready) {i : BufId}
    (unprocessed : (r.buf i).state ≠ .processing) :
    ({ r.freeBuf i with assembler := none } : Radio).Ready := by
  set q : Radio := { r.freeBuf i with assembler := none }
  have same : (q.buf i).state = .free := by cases i <;> rfl
  have other : q.buf i.other = r.buf i.other := by cases i <;> rfl
  have noneHeld (k : BufId) : (q.buf k).state ≠ .held := by
    intro held
    obtain rfl | rfl := BufId.eq_or_other i k
    · rw [same] at held; cases held
    · rw [other] at held
      have processing := h.held _ held
      rw [BufId.other_other] at processing
      exact unprocessed processing
  refine ⟨fun k inside => (by cases inside), fun k held => absurd held (noneHeld k), fun b => ?_,
    fun k held => absurd held (noneHeld k)⟩
  obtain ⟨j, processing⟩ := h.busy (by rw [← b]; cases i <;> rfl)
  obtain rfl | rfl := BufId.eq_or_other i j
  · exact absurd processing unprocessed
  · exact ⟨i.other, other ▸ processing⟩

/-! ### The processor takes frames (R164, R176) -/

theorem station_good {source : Byte} (h : 1 ≤ source.toNat ∧ source.toNat ≤ 15) :
    (Origin.station source.toNat).good = true := decide_eq_true h

/-- The work on a frame from a station keeps the table good (R54, R178). -/
theorem State.processStation_table_good {s : State} (good : s.table.Good) {f : Frame}
    (station : 1 ≤ f.source.toNat ∧ f.source.toNat ≤ 15) : (s.processStation f).1.table.Good := by
  unfold State.processStation
  split
  · split
    · exact State.issueRecord_table_good good .radio (station_good station) _
    · exact good
  · split
    · split
      · dsimp only [State.processRevoke]
        split
        · exact State.revokeSlot_table_good good _
        · exact good
      · exact good
    · split
      · exact good
      · split
        · exact good
        · split
          · exact (State.deliver_table f s).symm ▸ good
          · exact good

theorem State.processFrame_table_good {s : State} (good : s.table.Good) {f : Frame}
    (station : s.radio.current ≠ .selftest → 1 ≤ f.source.toNat ∧ f.source.toNat ≤ 15) :
    (s.processFrame f).1.table.Good := by
  unfold State.processFrame
  dsimp only
  split
  · exact (State.deliver_table f _).symm ▸ good
  · next mode =>
    have work := State.processStation_table_good (s := s.onRadio fun r => { r with busy := true })
      good (station mode)
    split
    · split
      · split
        · exact (State.placeAnswer_table _ _).symm ▸ work
        · exact work
      · exact work
    · exact work

/-- What the processor needs to take the frame of a buffer: the assembler is not in that buffer, and the
frame, like one that is HELD in the other buffer, comes from a station. -/
structure State.CanTake (s : State) (i : BufId) : Prop where
  table : s.table.Good
  assembling : ∀ k, s.radio.assembler = some k → k ≠ i ∧ (s.radio.buf k).state = .assembling
  station : s.radio.FromStation i
  next : (s.radio.buf i.other).state = .held → s.radio.FromStation i.other

/-- The receiving side while the processor works on the frame of a buffer. -/
theorem State.CanTake.working {s : State} {i : BufId} (h : s.CanTake i) :
    ({ s.radio.moveBuf .processing i with busy := true } : Radio).Ready := by
  set q : Radio := { s.radio.moveBuf .processing i with busy := true }
  have same : (q.buf i).state = .processing := by cases i <;> rfl
  have other : q.buf i.other = s.radio.buf i.other := by cases i <;> rfl
  have current : q.current = s.radio.current := by cases i <;> rfl
  have assembler : q.assembler = s.radio.assembler := by cases i <;> rfl
  refine ⟨fun k inside => ?_, fun k held => ?_, fun _ => ⟨i, same⟩, fun k held => ?_⟩
  · obtain ⟨apart, state⟩ := h.assembling k (assembler ▸ inside)
    obtain rfl | rfl := BufId.eq_or_other i k
    · exact absurd rfl apart
    · rw [other]; exact state
  · obtain rfl | rfl := BufId.eq_or_other i k
    · rw [same] at held; cases held
    · rw [BufId.other_other]; exact same
  · obtain rfl | rfl := BufId.eq_or_other i k
    · rw [same] at held; cases held
    · rw [other] at held
      unfold Radio.FromStation
      rw [other, current]
      exact h.next held

/-- Once the frame of a buffer is worked, the buffer is FREE and the frame that is HELD in the other one
can be taken. -/
theorem State.Serving.freed_canTake {w : State} (h : w.Serving) {i : BufId}
    (processing : (w.radio.buf i).state = .processing)
    (held : (w.radio.buf i.other).state = .held) : (w.onRadio (Radio.freeBuf i)).CanTake i.other := by
  have other : (w.radio.freeBuf i).buf i.other = w.radio.buf i.other := by cases i <;> rfl
  have current : (w.radio.freeBuf i).current = w.radio.current := by cases i <;> rfl
  have assembler : (w.radio.freeBuf i).assembler = w.radio.assembler := by cases i <;> rfl
  refine ⟨h.table, fun k inside => ?_, ?_, fun next => ?_⟩
  · have state := h.ready.assembling k (assembler ▸ inside)
    obtain rfl | rfl := BufId.eq_or_other i k
    · rw [processing] at state; cases state
    · rw [held] at state; cases state
  · have station := h.ready.station _ held
    unfold Radio.FromStation
    simp only [State.onRadio_radio, other, current]
    exact station
  · rw [BufId.other_other] at next
    have free : ((w.radio.freeBuf i).buf i).state = .free := by cases i <;> rfl
    exact absurd (free.symm.trans next) (by decide)

/-- Once the frame of a buffer is worked and no other one is HELD, the processor is idle. -/
theorem State.Serving.freed_idle {w : State} (h : w.Serving) {i : BufId}
    (processing : (w.radio.buf i).state = .processing)
    (none_ : (w.radio.buf i.other).state ≠ .held) :
    ((w.onRadio (Radio.freeBuf i)).onRadio fun r => { r with busy := false }).Serving := by
  set q : Radio := { w.radio.freeBuf i with busy := false }
  have same : (q.buf i).state = .free := by cases i <;> rfl
  have other : q.buf i.other = w.radio.buf i.other := by cases i <;> rfl
  have assembler : q.assembler = w.radio.assembler := by cases i <;> rfl
  have noneHeld (k : BufId) : (q.buf k).state ≠ .held := by
    obtain rfl | rfl := BufId.eq_or_other i k
    · rw [same]; decide
    · rw [other]; exact none_
  refine ⟨h.table, ⟨fun k inside => ?_, fun k held => absurd held (noneHeld k), (fun b => by cases b),
    fun k held => absurd held (noneHeld k)⟩⟩
  have state := h.ready.assembling k (assembler ▸ inside)
  obtain rfl | rfl := BufId.eq_or_other i k
  · rw [processing] at state; cases state
  · exact (congrArg FrameBuffer.state other).trans state

/-- Taking the frame of a buffer, and the one that is HELD behind it, leaves a state serving; two frames
can be taken, and one where none is HELD. -/
theorem State.takeFrames_serving (n : Nat) {s : State} {i : BufId} (h : s.CanTake i)
    (bound : (s.radio.buf i.other).state = .held → 0 < n) : (s.takeFrames (n + 1) i).Serving := by
  have content : (s.onRadio (Radio.moveBuf .processing i)).radio.current = s.radio.current := by
    cases i <;> rfl
  have table := State.processFrame_table_good (s := s.onRadio (Radio.moveBuf .processing i)) h.table
    (f := frameOf (s.radio.buf i).content) (fun mode => h.station (content ▸ mode))
  have receiver := State.processFrame_receiver (frameOf (s.radio.buf i).content)
    (s.onRadio (Radio.moveBuf .processing i))
  have worked : ((s.onRadio (Radio.moveBuf .processing i)).processFrame
      (frameOf (s.radio.buf i).content)).1.Serving := ⟨table, h.working.of_receiver receiver⟩
  have same : (((s.onRadio (Radio.moveBuf .processing i)).processFrame
      (frameOf (s.radio.buf i).content)).1.radio.buf i).state = .processing := by
    rw [State.processFrame_buf]; cases i <;> rfl
  have other : ((s.onRadio (Radio.moveBuf .processing i)).processFrame
      (frameOf (s.radio.buf i).content)).1.radio.buf i.other = s.radio.buf i.other := by
    rw [State.processFrame_buf]; cases i <;> rfl
  rw [State.takeFrames_succ]
  generalize (s.onRadio (Radio.moveBuf .processing i)).processFrame
    (frameOf (s.radio.buf i).content) = w at *
  split
  · exact worked
  · split
    · next held =>
      obtain ⟨m, rfl⟩ := Nat.exists_eq_add_of_lt (bound held)
      rw [← other] at held
      rw [Nat.zero_add]
      refine State.takeFrames_serving m (worked.freed_canTake same held) fun next => ?_
      rw [BufId.other_other] at next
      have free : ((w.1.radio.freeBuf i).buf i).state = .free := by cases i <;> rfl
      exact absurd (free.symm.trans next) (by decide)
    · next none_ => exact worked.freed_idle same (other ▸ none_)
termination_by n

/-- The finish of a processing that waited takes the HELD frame (R164). -/
theorem State.Serving.finishProcessing {s : State} (h : s.Serving) : s.finishProcessing.Serving := by
  unfold State.finishProcessing
  cases found : s.radio.findBuf .processing with
  | some i =>
    have processing := Radio.findBuf_eq_some found
    have other : (s.onRadio (Radio.freeBuf i)).radio.buf i.other = s.radio.buf i.other := by
      cases i <;> rfl
    have free : ((s.onRadio (Radio.freeBuf i)).radio.buf i).state = .free := by cases i <;> rfl
    have next := Radio.findBuf_of_not (r := (s.onRadio (Radio.freeBuf i)).radio) (st := .held) (i := i)
      (by rw [free]; decide)
    rw [other] at next
    dsimp only
    rw [next]
    by_cases held : (s.radio.buf i.other).state = .held
    · rw [if_pos held]
      exact State.takeFrames_serving 1 (h.freed_canTake processing held) fun _ => Nat.one_pos
    · rw [if_neg held]
      exact h.freed_idle processing held
  | none =>
    have noneHeld : s.radio.findBuf .held = none := by
      cases held : s.radio.findBuf .held with
      | none => rfl
      | some j =>
        exact absurd (h.ready.held j (Radio.findBuf_eq_some held)) (Radio.findBuf_eq_none found _)
    dsimp only
    rw [noneHeld]
    obtain ⟨assembling, held, -, station⟩ := h.ready
    exact ⟨h.table, ⟨assembling, held, (fun b => by cases b), station⟩⟩

/-- A complete frame is handed on: HELD behind a BUSY processor, and taken at once by an idle one
(R163). -/
theorem State.Serving.handFrame {s : State} (h : s.Serving) {i : BufId}
    (outside : s.radio.assembler = none) (assembled : (s.radio.buf i).state = .assembling)
    (station : s.radio.FromStation i) : (s.handFrame i).Serving := by
  unfold State.handFrame
  split
  · next busy =>
    have same : ((s.radio.moveBuf .held i).buf i).content = (s.radio.buf i).content := by
      cases i <;> rfl
    have other : (s.radio.moveBuf .held i).buf i.other = s.radio.buf i.other := by cases i <;> rfl
    have current : (s.radio.moveBuf .held i).current = s.radio.current := by cases i <;> rfl
    have outside : (s.radio.moveBuf .held i).assembler = none := by
      rw [← outside]; cases i <;> rfl
    obtain ⟨j, processing⟩ := h.ready.busy busy
    obtain rfl | rfl := BufId.eq_or_other i j
    · rw [assembled] at processing; cases processing
    refine ⟨h.table, ⟨fun k inside => ?_, fun k held => ?_, fun _ => ⟨i.other, ?_⟩, fun k held => ?_⟩⟩
    · cases outside.symm.trans inside
    · obtain rfl | rfl := BufId.eq_or_other i k
      · exact (congrArg FrameBuffer.state other).trans processing
      · cases ((congrArg FrameBuffer.state other).symm.trans held).symm.trans processing
    · exact (congrArg FrameBuffer.state other).trans processing
    · obtain rfl | rfl := BufId.eq_or_other i k
      · unfold Radio.FromStation
        simp only [State.onRadio_radio, same, current]
        exact station
      · cases ((congrArg FrameBuffer.state other).symm.trans held).symm.trans processing
  · refine State.takeFrames_serving 1 ⟨h.table, fun k inside => ?_, station, h.ready.station _⟩
      fun _ => Nat.one_pos
    rw [outside] at inside; cases inside

/-! ### Waiting items and the mode change (R167, R168, R185) -/

theorem State.Serving.judgeStart {s : State} (h : s.Serving) : s.judgeStart.Serving :=
  h.of_same (by simp) (by simp)

theorem State.Serving.startFrame {s : State} (h : s.Serving) : s.startFrame.Serving :=
  h.of_same (by simp) (by simp)

theorem State.Serving.placeWaiting {s : State} (h : s.Serving) : s.placeWaiting.Serving := by
  have pending : s.placePending.Serving := h.of_same (by simp) (by simp)
  unfold State.placeWaiting State.placeWaitingAnswer
  split
  · split
    · exact State.Serving.finishProcessing (pending.of_same rfl rfl)
    · exact pending
  · exact pending

/-- The entry to OFF or CONFIG leaves no frame HELD and no processor BUSY (R168). -/
theorem State.enterQuietMode_serving {s : State} (table : s.table.Good)
    (assembling : ∀ i, s.radio.assembler = some i → (s.radio.buf i).state = .assembling) :
    s.enterQuietMode.Serving := by
  have left := State.removeEntries_receiver (fun e => !e.started) .discarded s
  have noneHeld (i : BufId) : (s.enterQuietMode.radio.buf i).state ≠ .held := by
    unfold State.enterQuietMode
    cases i <;> simp only [State.onRadio_radio, Radio.buf] <;> split <;>
      simp_all [FrameBuffer.freed]
  refine ⟨(State.enterQuietMode_table s).symm ▸ table, ⟨fun i inside => ?_,
    fun i held => absurd held (noneHeld i), (fun b => by cases b),
    fun i held => absurd held (noneHeld i)⟩⟩
  have before : s.radio.assembler = some i := by
    rw [← inside, ← Radio.receiver_assembler, ← left]; rfl
  have state := assembling i before
  rw [← Radio.buf_of_receiver left] at state
  unfold State.enterQuietMode
  cases i <;> exact (congrArg FrameBuffer.state (if_pos state)).trans state

/-- The receiving side under another current mode, where a HELD frame is still one of a station. -/
theorem Radio.Ready.inMode {r q : Radio} (h : r.Ready) {m : LinkMode}
    (same : q.receiver = { r with current := m }.receiver)
    (station : r.current ≠ .selftest ∨ m = .selftest ∨ ∀ i, (r.buf i).state ≠ .held) : q.Ready := by
  refine Radio.Ready.of_receiver (r := { r with current := m }) ?_ same
  have buf (i : BufId) : ({ r with current := m } : Radio).buf i = r.buf i := by cases i <;> rfl
  refine ⟨fun i => ?_, fun i => ?_, fun b => ?_, fun i held mode => ?_⟩
  · rw [buf]; exact h.assembling i
  · rw [buf, buf]; exact h.held i
  · simp only [buf]; exact h.busy b
  · rw [buf] at held ⊢
    obtain old | new | none_ := station
    · exact h.station i held old
    · exact absurd new mode
    · exact absurd held (none_ i)

/-- A discarded HELD frame leaves none (R168). -/
theorem Radio.Ready.discardHeld {r : Radio} (h : r.Ready) :
    r.discardHeld.Ready ∧ ∀ i, (r.discardHeld.buf i).state ≠ .held := by
  unfold Radio.discardHeld
  cases found : r.findBuf .held with
  | none => exact ⟨h, Radio.findBuf_eq_none found⟩
  | some i =>
    have held := Radio.findBuf_eq_some found
    have processing := h.held i held
    dsimp only
    have same : ((r.freeBuf i).buf i).state = .free := by cases i <;> rfl
    have other : (r.freeBuf i).buf i.other = r.buf i.other := by cases i <;> rfl
    have noneHeld (k : BufId) : ((r.freeBuf i).buf k).state ≠ .held := by
      obtain rfl | rfl := BufId.eq_or_other i k
      · rw [same]; decide
      · rw [other, processing]; decide
    refine ⟨⟨fun k inside => ?_, fun k held => absurd held (noneHeld k),
      fun _ => ⟨i.other, other ▸ processing⟩, fun k held => absurd held (noneHeld k)⟩, noneHeld⟩
    have state := h.assembling k (by rw [← inside]; cases i <;> rfl)
    obtain rfl | rfl := BufId.eq_or_other i k
    · rw [held] at state; cases state
    · rw [other]; exact state

theorem Radio.discardHeld_receiver (m : LinkMode) (r : Radio) :
    ({ r with current := m, markLatch := false, linkTimer := none } : Radio).discardHeld.receiver
      = { r.discardHeld with current := m }.receiver := by
  have found : ({ r with current := m, markLatch := false, linkTimer := none } : Radio).findBuf .held
      = r.findBuf .held := rfl
  unfold Radio.discardHeld
  rw [found]
  split
  · next i _ => cases i <;> rfl
  · rfl

/-- The entry effects of a mode on the receiving side (R168). -/
theorem State.Serving.enterMode {s : State} (h : s.Serving) (m : LinkMode) :
    let entered := (s.onRadio fun r =>
      { r with current := m, markLatch := false, linkTimer := none }).setFlag .radio
    (if m = .off ∨ m = .config then entered.enterQuietMode
      else if discardsHeld s.radio.current m then entered.onRadio Radio.discardHeld
      else entered).Serving := by
  intro entered
  split
  · exact State.enterQuietMode_serving h.table h.ready.assembling
  · split
    · obtain ⟨ready, noneHeld⟩ := h.ready.discardHeld
      exact ⟨h.table, ready.inMode (Radio.discardHeld_receiver m s.radio) (.inr (.inr noneHeld))⟩
    · next loud kept =>
      refine ⟨h.table, h.ready.inMode (m := m) rfl (.inl fun old => kept ?_)⟩
      cases m <;> simp_all [discardsHeld]

theorem State.Serving.changeMode {s : State} (h : s.Serving) : s.changeMode.Serving := by
  have entered := h.enterMode s.radio.requested
  unfold State.changeMode
  dsimp only at entered ⊢
  generalize (if s.radio.requested = .off ∨ s.radio.requested = .config then _ else _) = u
    at entered ⊢
  have lost : ((u.onRadio fun r => { r with
      link := .lost, linkLost := r.linkLost || decide (u.radio.link = .ok) }).setFlagIf
        (decide (u.radio.link = .ok)) .link).Serving :=
    entered.of_same (by simp) (by rw [State.setFlagIf_radio]; rfl)
  exact State.Serving.startFrame
    (lost.placeWaiting.of_same (State.evaluateIf_table _ _) (State.evaluateIf_receiver _ _))

theorem State.Serving.judgeMode {s : State} (h : s.Serving) : s.judgeMode.Serving := by
  unfold State.judgeMode
  split
  · exact h.changeMode
  · exact h

theorem State.Serving.lineEvent {s : State} (h : s.Serving) : s.lineEvent.Serving := by
  unfold State.lineEvent
  split
  · split
    · dsimp only
      split
      · exact State.Serving.startFrame (h.of_same rfl rfl)
      · exact State.Serving.changeMode (h.of_same rfl rfl)
    · exact h.changeMode
  · exact h.judgeStart

/-! ### The receive assembler (R156 to R163) -/

theorem State.Serving.takeFrameStart {s : State} (h : s.Serving) : s.takeFrameStart.Serving := by
  unfold State.takeFrameStart
  split
  · next i inside =>
    have unprocessed : (s.radio.buf i).state ≠ .processing := by
      rw [h.ready.assembling i inside]; decide
    exact ⟨h.table, (h.ready.assemble unprocessed []).of_receiver
      (by simp [Radio.receiver, inside])⟩
  · split
    · next i free =>
      have unprocessed : (s.radio.buf i).state ≠ .processing := by
        rw [Radio.findBuf_eq_some free]; decide
      exact ⟨h.table, h.ready.assemble unprocessed []⟩
    · exact h.of_same rfl rfl

theorem State.Serving.abortFrame {s : State} (h : s.Serving) (e : RxError) {i : BufId}
    (inside : s.radio.assembler = some i) : (s.abortFrame e i).Serving := by
  have unprocessed : (s.radio.buf i).state ≠ .processing := by
    rw [h.ready.assembling i inside]; decide
  exact ⟨h.table, (h.ready.release unprocessed).of_receiver rfl⟩

/-- The content of the frame that is being assembled. -/
theorem State.Serving.assembled {s : State} (h : s.Serving) {i : BufId}
    (inside : s.radio.assembler = some i) (c : List Byte) :
    (s.onRadio (Radio.setBuf · ⟨.assembling, c⟩ i)).Serving := by
  have unprocessed : (s.radio.buf i).state ≠ .processing := by
    rw [h.ready.assembling i inside]; decide
  exact ⟨h.table, (h.ready.assemble unprocessed c).of_receiver (by simp [Radio.receiver, inside])⟩

theorem State.Serving.takeData {s : State} (h : s.Serving) (b : Byte) : (s.takeData b).Serving := by
  unfold State.takeData
  split
  · next i inside =>
    dsimp only
    split
    · exact h.assembled inside _
    · exact h.abortFrame _ inside
  · exact h

theorem State.addressingPasses_station {s : State} {f : Frame} (h : s.addressingPasses f = true) :
    1 ≤ f.source.toNat ∧ f.source.toNat ≤ 15 := by
  simp only [State.addressingPasses, Bool.and_eq_true, decide_eq_true_eq] at h
  exact ⟨h.1.2, h.2⟩

theorem State.Serving.frameChecked {s : State} (h : s.Serving) {i : BufId}
    (outside : s.radio.assembler = none) (assembled : (s.radio.buf i).state = .assembling) :
    (s.frameChecked i).Serving := by
  unfold State.frameChecked
  split
  · next selftest => exact h.handFrame outside assembled fun mode => absurd selftest mode
  · split
    · next passes =>
      have same := s.linkHeard_receiver
      have buf := Radio.buf_of_receiver same i
      refine State.Serving.handFrame (h.of_same (by simp) same) ?_ (by rw [buf]; exact assembled) ?_
      · rw [← Radio.receiver_assembler, same, Radio.receiver_assembler]; exact outside
      · intro _
        rw [buf]
        exact State.addressingPasses_station passes
    · exact ⟨h.table, (h.ready.release (i := i) (by rw [assembled]; decide)).of_receiver
        (by simp [Radio.receiver, Radio.freeBuf, outside])⟩

theorem State.Serving.takeFrameEnd {s : State} (h : s.Serving) : s.takeFrameEnd.Serving := by
  unfold State.takeFrameEnd
  split
  · next i inside =>
    have state := h.ready.assembling i inside
    dsimp only
    split
    · exact ⟨h.table, (h.ready.release (i := i) (by rw [state]; decide)).of_receiver
        (by cases i <;> rfl)⟩
    · obtain ⟨-, held, busy, station⟩ := h.ready
      have outside : (s.onRadio fun r => { r with assembler := none, silence := none }).Serving :=
        ⟨h.table, ⟨fun k inside => (by cases inside), held, busy, station⟩⟩
      exact outside.frameChecked rfl state
  · exact h

theorem State.Serving.takeSymbol {s : State} (h : s.Serving) (x : Symbol) : (s.takeSymbol x).Serving := by
  unfold State.takeSymbol
  split
  · exact h
  · exact h.takeData _
  · exact h.takeFrameStart
  · exact h.takeFrameEnd
  · split
    · next inside => exact h.abortFrame _ inside
    · exact h

theorem State.Serving.takeLineError {s : State} (h : s.Serving) : s.takeLineError.Serving := by
  have clear : (s.onRadio fun r => { r with markLatch := false }).Serving := h.of_same rfl rfl
  unfold State.takeLineError
  dsimp only
  split
  · next inside => exact clear.abortFrame _ inside
  · exact clear

theorem State.Serving.takeByte {s : State} (h : s.Serving) (b : Byte) (e : Bool) :
    (s.takeByte b e).Serving := by
  have symbol : (if e = true then s.takeLineError
      else State.takeSymbol (decodeMark s.radio.markLatch b).1
        (s.onRadio fun r => { r with markLatch := (decodeMark s.radio.markLatch b).2 })).Serving := by
    split
    · exact h.takeLineError
    · refine State.Serving.takeSymbol ?_ _
      exact h.of_same rfl rfl
  unfold State.takeByte
  dsimp only
  generalize (if e = true then s.takeLineError else _) = u at symbol ⊢
  split
  · exact State.Serving.lineEvent (symbol.of_same rfl rfl)
  · exact symbol.of_same rfl rfl

theorem State.Serving.takeLooped {s : State} (h : s.Serving) : s.takeLooped.Serving := by
  unfold State.takeLooped
  split
  · split
    · refine State.Serving.takeByte ?_ _ _
      exact h.of_same rfl rfl
    · exact h
  · exact h

theorem State.Serving.loopRest {s : State} (h : s.Serving) : s.loopRest.Serving := by
  have bytes (l : List LineByte) {u : State} (hu : u.Serving) :
      (l.foldl (fun s _ => s.takeLooped) u).Serving := by
    induction l generalizing u with
    | nil => exact hu
    | cons _ l ih => exact ih hu.takeLooped
  unfold State.loopRest
  split
  · exact bytes _ h
  · exact h

theorem State.Serving.frameArrives {s : State} (h : s.Serving) (d src k : Byte) (body : List Byte) :
    (s.frameArrives d src k body).Serving := by
  unfold State.frameArrives
  dsimp only
  split
  · have started : (State.takeFrameStart (s.onRadio fun r => { r with markLatch := false })).Serving := by
      refine State.Serving.takeFrameStart ?_
      exact h.of_same rfl rfl
    split
    · next inside =>
      split
      · exact (started.assembled inside _).takeFrameEnd.lineEvent
      · exact (started.abortFrame _ inside).lineEvent
    · exact started
  · exact h

theorem State.Serving.endTransmission {s : State} (h : s.Serving) : s.endTransmission.Serving := by
  have looped : (if s.radio.current = .selftest then s.loopRest else s).Serving := by
    split
    · exact h.loopRest
    · exact h
  unfold State.endTransmission
  dsimp only
  have finished := looped.of_same (State.finishTransmission_table _)
    (State.finishTransmission_receiver _)
  exact finished.placeWaiting.lineEvent

end Sys2Proof.Machine
end

section
/-! Every command leaves a good table: the commands that reach the table engine, the radio events that hand
it a station's frame, and the others, which leave it alone (R41, R42, R45, R49, R58, R59). -/

namespace Sys2Proof.Machine

/-- Every next state of an outcome has a good table. -/
def LeavesGoodTable (r : Result) : Prop := ∀ t, r = .next t → t.table.Good

theorem leavesGoodTable_next {t : State} (h : t.table.Good) : LeavesGoodTable (.next t) := by
  rintro _ ⟨⟩; exact h

/-- A command that leaves the table alone. -/
theorem leavesGoodTable_kept {s t : State} (good : s.table.Good) (h : t.table = s.table) :
    LeavesGoodTable (.next t) := leavesGoodTable_next (h ▸ good)

theorem leavesGoodTable_answer {code : Byte} {params : List Byte} {st : Status} {data : List Byte}
    {t : State} (h : t.table.Good) : LeavesGoodTable (answer code params st data t) :=
  leavesGoodTable_next h

theorem leavesGoodTable_unlessReset {s held : State} {r : Result} (good : s.table.Good)
    (kept : held.table = s.table) (h : LeavesGoodTable r) :
    LeavesGoodTable (s.unlessReset held r) := by
  unfold State.unlessReset
  split
  · exact leavesGoodTable_kept good kept
  · exact h

/-- A command that acts only while RESET is released. -/
theorem leavesGoodTable_event {s t : State} (good : s.table.Good) (h : t.table.Good) :
    LeavesGoodTable (s.unlessReset s (.next t)) :=
  leavesGoodTable_unlessReset good rfl (leavesGoodTable_next h)

theorem leavesGoodTable_takeSelection {frame : List Byte} {whole : Bool} {s : State} {taken : Result}
    (good : s.table.Good) (h : LeavesGoodTable taken) :
    LeavesGoodTable (takeSelection frame whole s taken) := by
  refine leavesGoodTable_unlessReset good rfl ?_
  split
  · exact h
  · exact leavesGoodTable_kept good rfl

theorem leavesGoodTable_hostRequest {code : Byte} {params : List Byte} {s : State} {taken : Result}
    (good : s.table.Good) (h : LeavesGoodTable taken) :
    LeavesGoodTable (hostRequest code params s taken) := leavesGoodTable_takeSelection good h

/-! ### The requests -/

theorem Table.initial_good : Table.initial.Good := by decide

/-- An origin that a code names is good (R42, R204). -/
theorem originOfCode_good {b : Byte} {o : Origin} (h : originOfCode b = some o) : o.good = true := by
  unfold originOfCode at h
  split at h
  · cases h; rfl
  · next vehicle =>
    split at h
    · next range => cases h; exact decide_eq_true ⟨Nat.pos_of_ne_zero vehicle, range⟩
    · cases h

theorem execRecordIssue_table (origin : Byte) (b : IssueBody) {s : State} (good : s.table.Good) :
    LeavesGoodTable (execRecordIssue origin b s) := by
  refine leavesGoodTable_hostRequest good ?_
  split
  · exact leavesGoodTable_answer good
  · next known =>
    exact leavesGoodTable_answer
      (State.issueRecord_table_good good .host (originOfCode_good known) b)

theorem execRecordRevoke_table (origin : Byte) (number : U16) {s : State} (good : s.table.Good) :
    LeavesGoodTable (execRecordRevoke origin number s) := by
  refine leavesGoodTable_hostRequest good ?_
  split
  · exact leavesGoodTable_answer good
  · split
    · exact leavesGoodTable_answer good
    · split
      · exact leavesGoodTable_answer good
      · exact leavesGoodTable_answer (State.revokeSlot_table_good good _)

theorem execLossAck_table {s : State} (good : s.table.Good) : LeavesGoodTable (execLossAck s) := by
  refine leavesGoodTable_hostRequest good ?_
  split
  · refine leavesGoodTable_answer ?_
    rw [State.evaluate_table]
    exact good
  · exact leavesGoodTable_answer good

theorem execSoftReset_table {s : State} (good : s.table.Good) : LeavesGoodTable (execSoftReset s) := by
  refine leavesGoodTable_hostRequest good ?_
  split
  · exact leavesGoodTable_answer good
  · exact leavesGoodTable_answer Table.initial_good

theorem execRadioMode_table (mode : Byte) {s : State} (h : s.Serving) :
    LeavesGoodTable (execRadioMode mode s) := by
  refine leavesGoodTable_hostRequest h.table ?_
  split
  · exact leavesGoodTable_answer h.table
  · next m _ =>
    have stored : (s.onRadio fun r => { r with requested := m }).Serving := h.of_same rfl rfl
    exact leavesGoodTable_answer stored.judgeMode.table

theorem execRadioAbort_table (handle : Byte) {s : State} (h : s.Serving) :
    LeavesGoodTable (execRadioAbort handle s) := by
  refine leavesGoodTable_hostRequest h.table ?_
  dsimp only
  split
  · exact leavesGoodTable_answer h.table
  · split
    · refine leavesGoodTable_answer (State.Serving.judgeStart (.placeWaiting ?_)).table
      exact h.of_same (State.removeFirst_table _ _ _) (State.removeFirst_receiver _ _ _)
    · exact leavesGoodTable_answer h.table

theorem execRadioAbortAll_table {s : State} (h : s.Serving) :
    LeavesGoodTable (execRadioAbortAll s) := by
  refine leavesGoodTable_hostRequest h.table
    (leavesGoodTable_answer (State.Serving.judgeStart (.placeWaiting ?_)).table)
  exact h.of_same (State.removeEntries_table _ _ _) (State.removeEntries_receiver _ _ _)

theorem execFrameError_table (bytes : List Byte) (whole : Bool) {s : State} (good : s.table.Good) :
    LeavesGoodTable (execFrameError bytes whole s) := by
  refine leavesGoodTable_takeSelection good ?_
  split
  · exact leavesGoodTable_kept good rfl
  · split <;> exact leavesGoodTable_kept good rfl

/-- A request that the port takes leaves a good table. -/
theorem takeRequest_table (i : Instr) {s : State} (h : s.Serving) :
    LeavesGoodTable (s.takeRequest i) := by
  have good := h.table
  cases i with
  | recordIssue origin b => exact execRecordIssue_table origin b good
  | recordRevoke origin number => exact execRecordRevoke_table origin number good
  | lossAck => exact execLossAck_table good
  | softReset => exact execSoftReset_table good
  | radioMode mode => exact execRadioMode_table mode h
  | radioAbort handle => exact execRadioAbort_table handle h
  | radioAbortAll => exact execRadioAbortAll_table h
  | profileRead | tableList | flagsReadClear | flagsEnable =>
    exact leavesGoodTable_hostRequest good (leavesGoodTable_answer good)
  | profileWrite | profileClose | profileClear | configRead | recordRead | recordFind | mailboxRead
  | mailboxRelease =>
    refine leavesGoodTable_hostRequest good ?_
    (repeat' split) <;> exact leavesGoodTable_answer good
  | lockRaise | positionSet | directionSelect | doorRelease | doorOpen | doorClose | brakeDemand
  | emergencyAck | radioSend | statusRead =>
    refine leavesGoodTable_hostRequest good ?_
    (repeat' split) <;> exact leavesGoodTable_kept good (by simp)
  | configWrite | doorReset =>
    refine leavesGoodTable_hostRequest good ?_
    dsimp only
    (repeat' split) <;> exact leavesGoodTable_kept good (by simp)
  | _ => exact leavesGoodTable_next good

/-! ### The changes of the inputs -/

theorem selectChange_table (level : Bool) {s : State} (h : s.Serving) :
    LeavesGoodTable (s.selectChange level) := by
  unfold State.selectChange State.takeBuffer
  split
  · exact leavesGoodTable_kept h.table rfl
  · split
    · split
      · exact takeRequest_table _ h
      · exact execFrameError_table _ _ h.table
    · exact leavesGoodTable_kept h.table rfl

/-- A change of an input while RESET is released, and at its assertion. -/
theorem execRawInputChange_table (input : InputId) (level : Bool) (now : Micros) {s : State}
    (h : s.Serving) : LeavesGoodTable (execRawInputChange input level now s) := by
  have good := h.table
  unfold execRawInputChange State.unlessReset
  dsimp only
  split
  · exact leavesGoodTable_next Table.initial_good
  · cases input with
    | pinA | pinB =>
      dsimp only
      split
      · exact leavesGoodTable_next (State.pinionStep_table_good good _ _ _)
      · exact leavesGoodTable_kept good rfl
    | wheel | marker => dsimp only; split <;> exact leavesGoodTable_kept good (by simp)
    | emergIn | loopSense | bandSense | door | sclk | sdi => exact leavesGoodTable_kept good rfl
    | select => exact selectChange_table level h
    | reset =>
      dsimp only
      split
      · exact leavesGoodTable_next Table.initial_good
      · exact leavesGoodTable_next good

/-! ### Every command -/

/-- A change of an input of one door. -/
theorem leavesGoodTable_doorInput {c : Prop} [Decidable c] {f : DoorTimes → Door → DoorStep}
    {id : DoorId} {s : State} (good : s.table.Good) :
    LeavesGoodTable (s.unlessReset s (if c then .next s else .next (s.doorEvent f id))) := by
  refine leavesGoodTable_unlessReset good rfl ?_
  split <;> exact leavesGoodTable_kept good (by simp)

/-- Every command from a serving state leaves a good table. -/
theorem exec_table (i : Instr) {s : State} (h : s.Serving) : LeavesGoodTable (exec i s) := by
  have good := h.table
  cases i with
  | powerOnReset => exact leavesGoodTable_next Table.initial_good
  | rawInputChange input level now => exact execRawInputChange_table input level now h
  | frameError bytes whole => exact execFrameError_table bytes whole good
  | acceptedStep a b now =>
    exact leavesGoodTable_event good (State.pinionStep_table_good good a b now)
  | minuteTimerExpiry =>
    refine leavesGoodTable_event good ?_
    split
    · exact State.minuteExpiry_table_good good
    · exact good
  | receivedByte source =>
    cases source with
    | modem =>
      refine leavesGoodTable_event good ?_
      split
      · exact (h.takeByte _ _).table
      · exact good
    | looped => exact leavesGoodTable_event good h.takeLooped.table
    | sdi => exact leavesGoodTable_unlessReset good rfl (leavesGoodTable_kept good rfl)
  | silenceTimerExpiry =>
    refine leavesGoodTable_unlessReset good rfl ?_
    split
    · next inside => exact leavesGoodTable_next (h.abortFrame _ inside).lineEvent.table
    · exact leavesGoodTable_next good
  | modeChange => exact leavesGoodTable_event good h.judgeMode.table
  | waitingItemsPlaced => exact leavesGoodTable_event good h.placeWaiting.judgeStart.table
  | endOfTransmission =>
    refine leavesGoodTable_event good ?_
    split
    · exact h.endTransmission.table
    · exact good
  | issue | revoke | poll | tableQuery | text | linkCheck | frameNotUsed =>
    exact leavesGoodTable_event good (h.frameArrives _ _ _ _).table
  | loopedFrame =>
    refine leavesGoodTable_event good ?_
    split
    · exact h.loopRest.table
    · exact good
  | doorButtonPress | doorObstruction | doorOpenEnd | doorClosedChange | doorLockedChange =>
    exact leavesGoodTable_doorInput good
  | responseReadout | requestSelectionFirstClock | carrierChange | transmissionStart =>
    exact leavesGoodTable_unlessReset good rfl (leavesGoodTable_kept good (by simp))
  | protocolBytesIgnored | standstillTimerExpiry | wheelPulse | markerPulse | evaluationTimerExpiry
  | emergInAsserted | emergInReleased | loopSenseChange | bandSenseChange | rampTimerExpiry
  | overlapTimerExpiry | bandApplyTimerExpiry | loopAgreementTimerExpiry | doorMotionTimerExpiry
  | doorLockTimerExpiry | linkTimerExpiry | reportTimerExpiry =>
    refine leavesGoodTable_unlessReset good rfl ?_
    exact leavesGoodTable_kept good (by split <;> simp)
  | _ => rw [← State.takeRequest_eq_exec rfl]; exact takeRequest_table _ h

/-- Settles O6: a good radio hands the processor frames of stations alone, and every command then leaves
a good table. -/
theorem tableStaysGood : Obligations.TableStaysGood := by
  intro s t hs good buffers held
  have serving : s.Serving := ⟨good, Radio.ready_of_good buffers held⟩
  unfold step at hs
  split at hs
  · cases hs; exact good
  · next c rest _ =>
    have waiting : (s.withPending rest).Serving := serving.of_same rfl rfl
    exact exec_table c waiting t hs

end Sys2Proof.Machine
end

section
/-! The commands of the restriction table where the port takes them, and the minute timer's expiry (R44,
R51 to R53, R55, R58, R59, R62, R63). -/

namespace Sys2Proof.Machine

/-! ### RECORD_ISSUE -/

/-- An origin code above 15 names none (R204). -/
theorem originOfCode_eq_none {b : Byte} (h : 16 ≤ b.toNat) : originOfCode b = none := by
  unfold originOfCode
  rw [if_neg (by omega), if_neg (by omega)]

theorem exec_recordIssue_unknown {origin : Byte} {b : IssueBody} {s : State}
    (h : s.Takes (.recordIssue origin b)) (unknown : 16 ≤ origin.toNat) :
    exec (.recordIssue origin b) s = .next (s.answers (.recordIssue origin b) .badValue []) := by
  refine (hostRequest_taken _ h).trans ?_
  simp only [originOfCode_eq_none unknown]
  rfl

theorem exec_recordIssue_taken {origin : Byte} {b : IssueBody} {s : State}
    (h : s.Takes (.recordIssue origin b)) {o : Origin} (ho : originOfCode origin = some o)
    {u : State} {result : IssueResult} (issued : s.issueRecord .host o b = (u, result)) :
    exec (.recordIssue origin b) s = .next (u.answers (.recordIssue origin b)
      (issueAnswer (limitClamped b) result).1 (issueAnswer (limitClamped b) result).2) := by
  refine (hostRequest_taken _ h).trans ?_
  simp only [ho, issued]
  rfl

/-- The mark of a clamped limit, from the fields of the body (R46, R52). -/
theorem limitClamped_eq (b : IssueBody) :
    limitClamped b = decide (b.cls.toNat % 4 = 0 ∧ 1023 < b.limitOrSides.toNat) := by
  have bits : (b.cls.extractLsb' 0 2).toNat = b.cls.toNat % 4 := by
    simp [BitVec.extractLsb'_toNat]
  rw [limitClamped, bits, Bool.decide_and]
  rfl

/-- The outcomes of a classification (R47 to R51): a record that is created, with a STOP record freed
before it or not, one that is amended, and the two refusals, which leave the table. -/
inductive Table.Classified (source : IssueSource) (r : Record) (t : Table) :
    Table × IssueResult → Prop
  | new (k : Nat) (replaced : Option Nat) {before : Table} (notice : before.notice = t.notice)
      (seq : before.noticeSeq = t.noticeSeq) :
      Classified source r t (before.stored source .issued k r replaced, .new k replaced)
  | amended (k : Nat) : Classified source r t (t.stored source .amended k r none, .amended k)
  | kind (k : Nat) (live : RecordKind) : Classified source r t (t, .kind k live)
  | full : Classified source r t (t, .full)

theorem Table.classify_classified (source : IssueSource) (r : Record) (t : Table) :
    t.Classified source r (t.classify source r) := by
  cases found : t.find r.origin r.number with
  | some k =>
    obtain ⟨q, live, -⟩ := Table.find_eq_some found
    rw [Table.classify_named found live]
    split
    · exact .amended k
    · exact .kind k _
  | none =>
    by_cases replaces : r.imposes = .stop ∧ ∃ k, t.stopOf r.origin = some k
    · obtain ⟨stop, k, old⟩ := replaces
      obtain ⟨q, live, -⟩ := Table.stopOf_eq_some old
      obtain ⟨j, free⟩ := Table.freeSlot_lowestFree live
      rw [Table.classify_replaces found stop old live, Table.create_free free]
      exact .new j _ rfl rfl
    · have noStop (stop : r.imposes = .stop) : t.stopOf r.origin = none :=
        Option.eq_none_iff_forall_ne_some.mpr fun k old => replaces ⟨stop, k, old⟩
      rw [Table.classify_creates found noStop]
      cases free : t.lowestFree with
      | none => rw [Table.create_full free]; exact .full
      | some j => rw [Table.create_free free]; exact .new j none rfl rfl

/-- A host's issue writes no notice (R62). -/
theorem Table.Classified.host_notice {r : Record} {t : Table} {x : Table × IssueResult}
    (h : t.Classified .host r x) : x.1.notice = t.notice ∧ x.1.noticeSeq = t.noticeSeq := by
  cases h with
  | new k replaced notice seq => exact ⟨notice, seq⟩
  | amended | kind | full => exact ⟨rfl, rfl⟩

section

variable {source : IssueSource} {o : Origin} {b : IssueBody} {r : Record} {s : State}

/-- An issue that creates or amends a record: the table, with TABLE_CHANGED for a station's, and an
evaluation unless the record is a DOORS one (R62, R63). -/
theorem State.issueRecord_changes (stores : recordOfIssue o b = some r)
    (changes : (s.table.classify source r).2.changes = true) :
    s.issueRecord source o b =
      (State.evaluateIf (decide (r.imposes.kind ≠ .doors))
          (({ s with table := (s.table.classify source r).1 } : State).setFlagIf (source == .radio)
            .tableChanged),
        (s.table.classify source r).2) := by
  have notFull : (s.table.classify source r).2 ≠ .full := fun full => by rw [full] at changes; cases changes
  simp only [State.issueRecord, stores, Table.loseIfFull, notFull, false_and, if_false, changes,
    decide_false, Bool.and_true, Bool.true_and, Bool.false_and, Bool.or_false, Prod.mk.injEq, and_true]
  cases r.imposes.kind <;> rfl

/-- An issue of another kind than its record's changes nothing (R47). -/
theorem State.issueRecord_kind (stores : recordOfIssue o b = some r) {k : Nat} {live : RecordKind}
    (kind : (s.table.classify source r).2 = .kind k live) :
    s.issueRecord source o b = (s, .kind k live) := by
  have classified := s.table.classify_classified source r
  simp only [State.issueRecord, stores]
  generalize s.table.classify source r = x at *
  cases classified <;> cases kind
  cases source <;> rfl

/-- A FULL issue of a SPEED or STOP record sets the restriction-lost latch and its flag, with an
evaluation when the latch was clear; one of a DOORS record changes nothing (R51, R63). -/
theorem State.issueRecord_full (stores : recordOfIssue o b = some r)
    (full : (s.table.classify source r).2 = .full) :
    s.issueRecord source o b =
      (if r.imposes.kind ≠ .doors then
        State.evaluateIf (!s.table.lossLatch)
          (({ s with table := { s.table with lossLatch := true } } : State).setFlag .restrictionLost)
      else s, .full) := by
  have classified := s.table.classify_classified source r
  simp only [State.issueRecord, stores, Table.loseIfFull]
  generalize s.table.classify source r = x at *
  cases classified <;> cases full
  simp only [true_and]
  cases r.imposes.kind <;> cases source <;> cases s.table.lossLatch <;> rfl

end

/-- A replaced number as it is sent (R52, R205). -/
theorem replacedBytes_eq (replaced : Option Nat) : replacedBytes replaced =
    u8 (if replaced.isSome then 1 else 0) ++ u16 (replaced.getD 0) := by
  cases replaced <;> rfl

/-- Settles O38: the checks, then what the classification makes of the state, with its answer. -/
theorem recordIssueAnswersItsResult : Obligations.RecordIssueAnswersItsResult := by
  intro origin b s i h
  refine ⟨exec_recordIssue_unknown h, fun o ho => ⟨fun fails => ?_, ?_⟩⟩
  · have issued : s.issueRecord .host o b = (s, .value) := by simp only [State.issueRecord, fails]
    exact exec_recordIssue_taken h ho issued
  intro r stores u result moves accepted
  have status : (if limitClamped b then Status.okClamped else .ok) = accepted := by
    rw [limitClamped_eq]; simp [accepted]
  obtain ⟨notice, seq⟩ := (s.table.classify_classified .host r).host_notice
  refine ⟨notice, seq, fun k replaced new => ?_, fun k amended => ?_, fun k live kind => ?_,
    fun full => ?_⟩
  · have issued := State.issueRecord_changes (s := s) (source := .host) stores
      (by rw [show (s.table.classify .host r).2 = _ from new]; rfl)
    rw [exec_recordIssue_taken h ho issued, show (s.table.classify .host r).2 = _ from new]
    simp only [issueAnswer, status, replacedBytes_eq]
    rfl
  · have issued := State.issueRecord_changes (s := s) (source := .host) stores
      (by rw [show (s.table.classify .host r).2 = _ from amended]; rfl)
    rw [exec_recordIssue_taken h ho issued, show (s.table.classify .host r).2 = _ from amended]
    simp only [issueAnswer, status, replacedBytes_none]
    rfl
  · rw [exec_recordIssue_taken h ho (State.issueRecord_kind stores kind)]
    rfl
  · rw [exec_recordIssue_taken h ho (State.issueRecord_full stores full)]
    by_cases m : moves
    · rw [if_pos m, if_pos m]
      rfl
    · rw [if_neg m, if_neg m]
      rfl

/-! ### RECORD_REVOKE and LOSS_ACK -/

theorem exec_recordRevoke_unknown {origin : Byte} {number : U16} {s : State}
    (h : s.Takes (.recordRevoke origin number)) (unknown : 16 ≤ origin.toNat) :
    exec (.recordRevoke origin number) s =
      .next (s.answers (.recordRevoke origin number) .badValue []) := by
  refine (hostRequest_taken _ h).trans ?_
  simp only [originOfCode_eq_none unknown]
  rfl

/-- RECORD_REVOKE with a known origin: the standstill check for the host's records, then the search
(R53). -/
theorem exec_recordRevoke_known {origin : Byte} {number : U16} {s : State}
    (h : s.Takes (.recordRevoke origin number)) {o : Origin} (ho : originOfCode origin = some o) :
    exec (.recordRevoke origin number) s = .next (
      if o ≠ .vehicle ∧ s.odo.motion = true then s.answers (.recordRevoke origin number) .moving []
      else match s.table.find o number.toNat with
        | none => s.answers (.recordRevoke origin number) .notFound []
        | some k => (s.revokeSlot k).answers (.recordRevoke origin number) .ok []) := by
  refine (hostRequest_taken _ h).trans ?_
  simp only [ho]
  cases found : s.table.find o number.toNat with
  | none => split <;> rfl
  | some k => split <;> rfl

/-- A record is freed with a REVOKED notice, TABLE_CHANGED and an evaluation (R53, R62, R63). -/
theorem State.revokeSlot_live {s : State} {k : Nat} {r : Record} (live : s.table.get k = some r) :
    s.revokeSlot k = State.evaluate (State.setFlag .tableChanged { s with
      table := Table.settleTimer { s.table with
        slots := s.table.slots.set k none
        notice := ⟨.revoked, k, r.imposes.kind, r.origin, r.number, none⟩
        noticeSeq := (s.table.noticeSeq + 1) % 65536 } }) := by
  rw [State.revokeSlot, Table.freeWithNotice_live live]

theorem exec_lossAck_taken {s : State} (h : s.Takes .lossAck) : exec .lossAck s = .next (
    if s.table.lossLatch = true then
      (State.evaluate { s with table := { s.table with lossLatch := false } }).answers .lossAck .ok []
    else s.answers .lossAck .wrongState []) := by
  refine (hostRequest_taken _ h).trans ?_
  split <;> rfl

/-- Settles O39: the checks of RECORD_REVOKE, the record that it frees, and LOSS_ACK. -/
theorem revokeAndLossAckActOnTheTable : Obligations.RevokeAndLossAckActOnTheTable := by
  refine ⟨?_, fun s h => exec_lossAck_taken h⟩
  intro origin number s i h
  refine ⟨exec_recordRevoke_unknown h, fun o ho => ?_⟩
  have known := exec_recordRevoke_known h ho
  refine ⟨fun host moving => ?_, fun passes => ?_⟩
  · rw [known, if_pos ⟨host, moving⟩]
  have proceeds : ¬(o ≠ .vehicle ∧ s.odo.motion = true) := by
    rintro ⟨host, moving⟩
    obtain vehicle | still := passes
    · exact host vehicle
    · rw [moving] at still; cases still
  rw [if_neg proceeds] at known
  refine ⟨fun missing => ?_, fun k r found live => ?_⟩
  · rw [known, missing]
  · rw [known, found]
    obtain ⟨q, held, origin, number⟩ := Table.find_eq_some found
    obtain rfl : q = r := Option.some.inj (held.symm.trans live)
    dsimp only
    rw [State.revokeSlot_live live, origin, number]
    rfl

/-! ### The minute timer's expiry -/

/-- The records that the expiry frees are those that age to none (R59). -/
theorem State.minuteReason_isSome (s : State) (r : Record) :
    (s.minuteReason r).isSome = (r.aged (s.onRecord r)).isNone := by
  unfold State.minuteReason Record.aged
  split <;> rfl

theorem State.minuteReason_of_isSome (s : State) {r : Record} (h : (s.minuteReason r).isSome = true) :
    s.minuteReason r = some .expired := by
  unfold State.minuteReason at h ⊢
  split at h
  · next out => rw [if_pos out]
  · cases h

/-- The expiry beside the table: TABLE_CHANGED at a free, and the evaluation of R63. -/
theorem State.minuteExpiry_eq (s : State) :
    let frees := s.table.freesBy s.minuteReason
    s.minuteExpiry = State.evaluateIf (decide (0 < frees.length) || s.speedExpires) { s with
      table := s.minuteExpiry.table
      port := { s.port with flags :=
        if 0 < frees.length then setBit s.port.flags .tableChanged else s.port.flags } } := by
  have some_ (l : List (Nat × NoticeEvent)) : (!l.isEmpty) = decide (0 < l.length) := by
    cases l <;> simp
  dsimp only
  conv_lhs => rw [State.minuteExpiry, State.setFlagIf_eq]
  conv_rhs => rw [State.minuteExpiry, State.evaluateIf_table, State.setFlagIf_table]
  simp only [State.minuteFrees_eq, some_, decide_eq_true_eq]

theorem State.onRecord_eq (s : State) (r : Record) : s.onRecord r = (s.odo.positionValid
    && decide (s.odo.position ≤ r.last) && decide (r.first ≤ s.odo.position + s.param 3)) := by
  unfold State.onRecord Record.overlapsCar
  simp [Bool.and_assoc]
  rfl

/-- The SPEED records that become EXPIRING, over the records (R59, R63). -/
theorem State.speedExpires_eq (s : State) : s.speedExpires = s.table.records.any fun r =>
    decide (r.lifetime = some 1 ∧ r.imposes.kind = .speed) && s.onRecord r := by
  rw [← s.table.live_map_snd, List.any_map]
  unfold State.speedExpires Record.runsOut
  congr 1
  funext x
  simp only [Function.comp_apply, Bool.decide_and, beq_eq_decide]
  cases s.onRecord x.2 <;> simp

theorem exec_minuteTimerExpiry {s : State} (h : s.resetHeld = false) :
    exec .minuteTimerExpiry s
      = .next (if s.table.minuteTimer.isSome then s.minuteExpiry else s) :=
  State.unlessReset_released _ _ h

/-- Each record that is freed raises the sequence number of the notices (R62). -/
theorem Table.Good.freeAll_noticeSeq {t : Table} (good : t.Good) (reason : Record → Option NoticeEvent) :
    (t.freeAll (t.freesBy reason)).noticeSeq
      = (t.noticeSeq + (t.freesBy reason).length) % 65536 := by
  obtain ⟨-, -, seq⟩ := Table.good_iff.mp good
  cases frees : t.freesBy reason with
  | nil => exact (Nat.mod_eq_of_lt seq).symm
  | cons x rest =>
    rw [← frees]
    refine Table.freeAll_noticeSeq (fun y member => ?_) (t.freesBy_sorted reason) (by simp [frees])
    obtain ⟨r, held, -⟩ := Table.mem_freesBy.mp member
    simp [Table.get, held]

/-- Settles O41: the table after the expiry is that of `State.minuteExpiry_table`, with a notice for each
record that ages to none. -/
theorem minuteExpiryAgesTheRecords : Obligations.MinuteExpiryAgesTheRecords := by
  intro s released good under aged slots gone expires runs
  have ages (r : Record) : r.aged (s.onRecord r) = aged r :=
    (congrArg r.aged (s.onRecord_eq r)).trans (r.aged_eq _)
  have leaves (r : Record) : (s.minuteReason r).isSome = (aged r).isNone := by
    rw [State.minuteReason_isSome, ages]
  have length : (s.table.freesBy s.minuteReason).length = gone := by
    rw [Table.freesBy_length]; simp only [leaves]; rfl
  have kept : s.minuteExpiry.table.slots = slots := by
    rw [State.minuteExpiry_slots]; simp only [ages]; rfl
  rw [exec_minuteTimerExpiry released]
  refine ⟨fun stopped => by rw [stopped]; rfl,
    fun running => ⟨s.minuteExpiry.table, ?_, fun none_gone => ?_, fun k r held out highest => ?_, ?_⟩⟩
  · have slotsAfter : ((s.table.freeAll (s.table.freesBy s.minuteReason)).changed
        fun r => r.minute (s.onRecord r)).slots = slots := by
      rw [State.minuteExpiry_table] at kept; exact kept
    have seq := good.freeAll_noticeSeq s.minuteReason
    have latch := (s.table.freeAll_rest (s.table.freesBy s.minuteReason)).2
    rw [State.minuteExpiry_table, Table.settleTimer, Table.anyLifetime, slotsAfter]
    simp only [Table.changed, latch, seq, length]
    rfl
  · have frees : s.table.freesBy s.minuteReason = [] := List.length_eq_zero_iff.mp (length.trans none_gone)
    rw [State.minuteExpiry_table, frees]
    rfl
  · have why : s.minuteReason r = some .expired :=
      s.minuteReason_of_isSome ((leaves r).trans (by rw [out]; rfl))
    rw [State.minuteExpiry_table]
    exact Table.freeAll_freesBy_notice held why fun j q held leaving =>
      highest j q held (Option.isNone_iff_eq_none.mp ((leaves q).symm.trans leaving))
  · rw [if_pos (Option.isSome_iff_ne_none.mpr running)]
    have expiry := s.minuteExpiry_eq
    simp only [length, s.speedExpires_eq, State.onRecord_eq] at expiry
    exact congrArg _ expiry

end Sys2Proof.Machine
end

section
/-! What the message processor makes of a frame, kind by kind, and the answer that it sends (R54, R62,
R67, R176 to R182, R207). -/

namespace Sys2Proof.Machine

/-! ### Bodies -/

theorem word16_bytes (w : U16) : word16 (w.extractLsb' 8 8) (w.extractLsb' 0 8) = w := by
  ext i hi
  rw [word16, BitVec.getElem_append]
  split
  · simp [BitVec.getLsbD_eq_getElem, hi]
  · simp [show 8 + (i - 8) = i by omega, BitVec.getLsbD_eq_getElem, hi]

theorem word24_bytes (w : BitVec 24) :
    word24 (w.extractLsb' 16 8) (w.extractLsb' 8 8) (w.extractLsb' 0 8) = w := by
  ext i hi
  rw [word24, BitVec.getElem_append]
  split
  · simp [BitVec.getLsbD_eq_getElem, hi]
  · rw [BitVec.getElem_append]
    split
    · simp [show 8 + (i - 8) = i by omega, BitVec.getLsbD_eq_getElem, hi]
    · simp [show 16 + (i - 8 - 8) = i by omega, BitVec.getLsbD_eq_getElem, hi]

theorem issueOfBytes_issueBytes (b : IssueBody) : issueOfBytes (issueBytes b) = some b := by
  have fields : issueOfBytes (issueBytes b) = some ⟨word16 _ _, b.cls, word24 _ _ _, word24 _ _ _,
      word16 _ _, b.lifetime⟩ := rfl
  simp only [word16_bytes, word24_bytes] at fields
  exact fields

theorem length_of_issueOfBytes {body : List Byte} {b : IssueBody} (h : issueOfBytes body = some b) :
    body.length = 12 := by
  unfold issueOfBytes at h
  split at h
  · rfl
  · cases h

theorem recordOfIssue_origin {o : Origin} {b : IssueBody} {r : Record}
    (h : recordOfIssue o b = some r) : r.origin = o := by
  unfold recordOfIssue at h
  split at h
  · dsimp only at h
    split at h
    · cases h; rfl
    · cases h
  · cases h

/-! ### The answer -/

theorem State.judgeStart_eq_ite (s : State) :
    s.judgeStart = if s.radio.requested = s.radio.current then s.startFrame else s := by
  unfold State.judgeStart Radio.changeWaits
  by_cases same : s.radio.requested = s.radio.current <;> simp [same]

/-- The answer to a frame, after the work on it: placed with priority 3, or left waiting without a free
slot; none for a broadcast frame, and none out of NORMAL (R176, R182). -/
def State.answered (f : Frame) (kind : Byte) (body : List Byte) (v : State) : State × Bool :=
  if f.addressed ∧ v.radio.current = .normal then
    if v.radio.hasRoom then (v.placeAnswer ⟨kind, f.source, body⟩, true)
    else (v.onRadio fun r => { r with waiting := some ⟨kind, f.source, body⟩ }, false)
  else (v, true)

/-- The answer, with the queue written out (R173, R176, R183). -/
theorem State.answered_eq (f : Frame) (kind : Byte) (body : List Byte) (v : State) :
    v.answered f kind body =
      if f.destination ≠ 0 ∧ v.radio.current = .normal then
        (if v.radio.queue.length < 6 then
          let w : State := { v with radio := { v.radio with
            queue := v.radio.queue
              ++ [⟨v.radio.nextHandle, kind, 3, .part, f.source, body, false, false⟩]
            nextHandle := (v.radio.nextHandle + 1) % 256 } }
          (if w.radio.requested = w.radio.current then w.startFrame else w, true)
        else ({ v with radio := { v.radio with waiting := some ⟨kind, f.source, body⟩ } }, false))
      else (v, true) := by
  have addressed : f.addressed = true ↔ f.destination ≠ 0 := bne_iff_ne
  have room : v.radio.hasRoom = true ↔ v.radio.queue.length < 6 := decide_eq_true_iff
  unfold State.answered
  simp only [addressed, room, State.placeAnswer, State.judgeStart_eq_ite]
  rfl

/-! ### The work on a frame, kind by kind -/

theorem Frame.addressed_eq (f : Frame) : f.addressed = decide (f.destination ≠ 0) := by
  rw [Bool.eq_iff_iff]; simp [Frame.addressed]

/-- A delivery, with the mailbox and the flag written out (R180, R191). -/
theorem State.deliver_eq (f : Frame) (s : State) : s.deliver f =
    ({ s with
        port := { s.port with flags :=
          if s.radio.mailbox.length < 4 then setBit s.port.flags .mailbox else s.port.flags }
        radio := { s.radio with mailbox := if s.radio.mailbox.length < 4
          then s.radio.mailbox ++ [⟨f.kind, f.source, decide (f.destination ≠ 0), f.body⟩]
          else s.radio.mailbox } }, decide (s.radio.mailbox.length < 4)) := by
  unfold State.deliver
  rw [Frame.addressed_eq]
  by_cases room : s.radio.mailbox.length < 4
  · rw [decide_eq_true room, if_pos room, if_pos room]
    exact if_pos room
  · rw [decide_eq_false room, if_neg room, if_neg room]
    exact if_neg room

theorem State.deliver_room {f : Frame} {s : State} (room : s.radio.mailbox.length < 4) : s.deliver f =
    ({ s with
        port := { s.port with flags := setBit s.port.flags .mailbox }
        radio := { s.radio with mailbox := s.radio.mailbox
          ++ [⟨f.kind, f.source, decide (f.destination ≠ 0), f.body⟩] } }, true) := by
  rw [State.deliver_eq, if_pos room, if_pos room, decide_eq_true room]

theorem State.deliver_full {f : Frame} {s : State} (full : ¬s.radio.mailbox.length < 4) :
    s.deliver f = (s, false) := if_neg full

section

variable {f : Frame} {s : State}

theorem State.processFrame_replies {v : State} {kind : Byte} {body : List Byte}
    (working : s.radio.current ≠ .selftest)
    (work : (s.onRadio fun r => { r with busy := true }).processStation f = (v, some (kind, body))) :
    s.processFrame f = v.answered f kind body := by
  have free : (s.onRadio fun r => { r with busy := true }).radio.current ≠ .selftest := working
  simp only [State.processFrame, if_neg free, work]
  rfl

theorem State.processFrame_silent {v : State} (working : s.radio.current ≠ .selftest)
    (work : (s.onRadio fun r => { r with busy := true }).processStation f = (v, none)) :
    s.processFrame f = (v, true) := by
  have free : (s.onRadio fun r => { r with busy := true }).radio.current ≠ .selftest := working
  simp only [State.processFrame, if_neg free, work]

theorem State.processStation_issue {b : IssueBody} (kind : f.kind = kindIssue)
    (body : f.body = issueBytes b) {v : State} {result : IssueResult}
    (issued : s.issueRecord .radio (.station f.station) b = (v, result)) :
    s.processStation f = (v, some (kindAnswer, answerBody f.kind b.number (issueResultCode result))) := by
  rw [State.processStation, if_pos kind, body, issueOfBytes_issueBytes, kind]
  simp only [State.processIssue, issued]

theorem State.processStation_revoke {n : U16} (kind : f.kind = kindRevoke) (body : f.body = bytes16 n) :
    s.processStation f =
      match s.table.find (.station f.station) n.toNat with
      | some k => (s.revokeSlot k, some (kindAnswer, answerBody f.kind n 5))
      | none => (s, some (kindAnswer, answerBody f.kind n 6)) := by
  rw [State.processStation, if_neg (by rw [kind]; decide), if_pos kind, body, kind]
  simp only [bytes16, word16_bytes, State.processRevoke]
  cases s.table.find (.station f.station) n.toNat <;> rfl

theorem State.processStation_poll (kind : f.kind = kindPoll) (body : f.body = []) :
    s.processStation f = (s, some (kindPositionReport, s.positionReport)) := by
  rw [State.processStation, if_neg (by rw [kind]; decide), if_neg (by rw [kind]; decide),
    if_pos ⟨kind, body⟩]

theorem State.processStation_tableQuery (kind : f.kind = kindTableQuery) (body : f.body = []) :
    s.processStation f = (s, some (kindTableReport, s.tableReport f.station)) := by
  have noPoll : ¬(f.kind = kindPoll ∧ f.body = []) := by rw [kind]; exact fun h => absurd h.1 (by decide)
  rw [State.processStation, if_neg (by rw [kind]; decide), if_neg (by rw [kind]; decide),
    if_neg noPoll, if_pos ⟨kind, body⟩]

theorem State.processStation_text (kind : f.kind = kindText) :
    s.processStation f =
      ((s.deliver f).1, some (kindAnswer, answerBody f.kind 0 (if (s.deliver f).2 then 7 else 8))) := by
  have noPoll : ¬(f.kind = kindPoll ∧ f.body = []) := by rw [kind]; exact fun h => absurd h.1 (by decide)
  have noQuery : ¬(f.kind = kindTableQuery ∧ f.body = []) := by
    rw [kind]; exact fun h => absurd h.1 (by decide)
  rw [State.processStation, if_neg (by rw [kind]; decide), if_neg (by rw [kind]; decide),
    if_neg noPoll, if_neg noQuery, if_pos kind, kind]
  rfl

/-- A LINK_CHECK, and a frame that is not used, does nothing (R177). -/
theorem State.processStation_unused
    (h : f.kind = kindLinkCheck ∨ frameUsed f.kind f.body.length = false ∧ f.kind ≠ kindText) :
    s.processStation f = (s, none) := by
  obtain check | ⟨unused, noText⟩ := h
  · simp [State.processStation, check, kindLinkCheck, kindIssue, kindRevoke, kindPoll, kindTableQuery,
      kindText]
  · simp only [frameUsed, Bool.or_eq_false_iff, Bool.and_eq_false_iff, beq_eq_false_iff_ne] at unused
    obtain ⟨⟨⟨⟨⟨issue, revoke⟩, poll⟩, query⟩, -⟩, -⟩ := unused
    have noPoll : ¬(f.kind = kindPoll ∧ f.body = []) := by
      rintro ⟨kind, body⟩
      exact poll.resolve_left (not_not_intro kind) (by rw [body]; rfl)
    have noQuery : ¬(f.kind = kindTableQuery ∧ f.body = []) := by
      rintro ⟨kind, body⟩
      exact query.resolve_left (not_not_intro kind) (by rw [body]; rfl)
    rw [State.processStation, if_neg noPoll, if_neg noQuery, if_neg noText]
    split
    · next kind =>
      cases read : issueOfBytes f.body with
      | none => rfl
      | some b => exact absurd (length_of_issueOfBytes read) (issue.resolve_left (not_not_intro kind))
    · split
      · next kind =>
        split
        · next body => exact absurd (by rw [body]; rfl) (revoke.resolve_left (not_not_intro kind))
        · rfl
      · rfl

/-- In SELFTEST a frame is delivered whatever its kind, while the mailbox has room (R169, R181). -/
theorem State.processFrame_selftest (testing : s.radio.current = .selftest) :
    s.processFrame f = (((s.onRadio fun r => { r with busy := true }).deliver f).1, true) :=
  if_pos testing

end

/-- A station's issue that is stored writes its notice (R62). -/
theorem Table.Classified.radio_notice {r : Record} {t : Table} {x : Table × IssueResult}
    (h : t.Classified .radio r x) :
    match x.2 with
    | .new k replaced => x.1.notice = ⟨.issued, k, r.imposes.kind, r.origin, r.number, replaced⟩
        ∧ x.1.noticeSeq = (t.noticeSeq + 1) % 65536
    | .amended k => x.1.notice = ⟨.amended, k, r.imposes.kind, r.origin, r.number, none⟩
        ∧ x.1.noticeSeq = (t.noticeSeq + 1) % 65536
    | .value => False
    | .kind _ _ => True
    | .full => True := by
  cases h with
  | new k replaced notice seq => exact ⟨rfl, congrArg (fun n => (n + 1) % 65536) seq⟩
  | amended k => exact ⟨rfl, rfl⟩
  | kind | full => trivial

end Sys2Proof.Machine
end

section
/-! The loop of SELFTEST: the line bytes of the frame in flight are received one by one, and the frame that
they carry is delivered, HELD, or overrun (R156 to R165, R169, R181; log entries 13 and 19). -/

namespace Sys2Proof.Machine

/-! ### The line while a frame is in flight (R167, R173) -/

theorem State.startFrame_of_sending {s : State} (sending : s.radio.tx.isSome = true) :
    s.startFrame = s := by
  have waits : s.radio.canStart = false := by
    simp [Radio.canStart, Option.isNone_eq_false_iff.mpr sending]
  unfold State.startFrame
  rw [waits]

/-- While a frame is in flight the line is not quiet: no mode change is made, and no frame starts. -/
theorem State.lineEvent_of_sending {s : State} (sending : s.radio.tx.isSome = true) :
    s.lineEvent = s := by
  have loud : s.radio.quiet = false := by
    simp [Radio.quiet, Option.isNone_eq_false_iff.mpr sending]
  unfold State.lineEvent State.judgeStart
  rw [loud, Bool.and_false, State.startFrame_of_sending sending]
  simp

/-! ### The frame in flight stays while its bytes are received -/

/-- A part in SELFTEST with a frame in flight. -/
structure State.Looping (x : InFlight) (s : State) : Prop where
  testing : s.radio.current = .selftest
  sending : s.radio.tx = some x

namespace State.Looping

variable {x : InFlight} {s : State}

theorem of_same {t : State} (h : s.Looping x) (current : t.radio.current = s.radio.current)
    (tx : t.radio.tx = s.radio.tx) : t.Looping x :=
  ⟨current.trans h.testing, tx.trans h.sending⟩

theorem lineEvent_eq (h : s.Looping x) : s.lineEvent = s :=
  State.lineEvent_of_sending (by rw [h.sending]; rfl)

theorem processFrame (h : s.Looping x) (f : Frame) : (s.processFrame f).1.Looping x := by
  rw [State.processFrame_selftest h.testing]
  unfold State.deliver
  split <;> exact h.of_same rfl rfl

theorem takeFrames (h : s.Looping x) (n : Nat) (i : BufId) : (s.takeFrames n i).Looping x := by
  induction n generalizing s i with
  | zero => exact h
  | succ n ih =>
    have taken : (s.onRadio (Radio.moveBuf .processing i)).Looping x := by
      refine h.of_same ?_ ?_ <;> simp [Radio.moveBuf]
    have worked := taken.processFrame (frameOf (s.radio.buf i).content)
    rw [State.takeFrames_succ]
    generalize (s.onRadio (Radio.moveBuf .processing i)).processFrame
      (frameOf (s.radio.buf i).content) = w at worked
    have freed : (w.1.onRadio (Radio.freeBuf i)).Looping x := by
      refine worked.of_same ?_ ?_ <;> simp [Radio.freeBuf]
    split
    · exact worked
    · split
      · exact ih freed _
      · exact freed.of_same rfl rfl

theorem handFrame (h : s.Looping x) (i : BufId) : (s.handFrame i).Looping x := by
  unfold State.handFrame
  split
  · refine h.of_same ?_ ?_ <;> simp [Radio.moveBuf]
  · exact h.takeFrames 2 i

theorem abortFrame (h : s.Looping x) (e : RxError) (i : BufId) : (s.abortFrame e i).Looping x := by
  refine h.of_same ?_ ?_ <;> simp [State.abortFrame, State.rxError, Radio.freeBuf]

theorem takeFrameStart (h : s.Looping x) : s.takeFrameStart.Looping x := by
  unfold State.takeFrameStart
  split
  · refine h.of_same ?_ ?_ <;> simp
  · split
    · refine h.of_same ?_ ?_ <;> simp
    · exact h.of_same rfl rfl

theorem takeData (h : s.Looping x) (b : Byte) : (s.takeData b).Looping x := by
  unfold State.takeData
  split
  · dsimp only
    split
    · refine h.of_same ?_ ?_ <;> simp
    · exact h.abortFrame _ _
  · exact h

theorem takeFrameEnd (h : s.Looping x) : s.takeFrameEnd.Looping x := by
  unfold State.takeFrameEnd
  split
  · dsimp only
    split
    · refine h.of_same ?_ ?_ <;> simp [State.rxError, Radio.freeBuf]
    · have outside : (s.onRadio fun r => { r with assembler := none, silence := none }).Looping x :=
        h.of_same rfl rfl
      rw [State.frameChecked, if_pos outside.testing]
      exact outside.handFrame _
  · exact h

theorem takeSymbol (h : s.Looping x) (y : Symbol) : (s.takeSymbol y).Looping x := by
  unfold State.takeSymbol
  split
  · exact h
  · exact h.takeData _
  · exact h.takeFrameStart
  · exact h.takeFrameEnd
  · split
    · exact h.abortFrame _ _
    · exact h

theorem takeLineError (h : s.Looping x) : s.takeLineError.Looping x := by
  have clear : (s.onRadio fun r => { r with markLatch := false }).Looping x := h.of_same rfl rfl
  unfold State.takeLineError
  dsimp only
  split
  · exact clear.abortFrame _ _
  · exact clear

theorem takeByte (h : s.Looping x) (b : Byte) (e : Bool) : (s.takeByte b e).Looping x := by
  have symbol : (if e = true then s.takeLineError
      else State.takeSymbol (decodeMark s.radio.markLatch b).1
        (s.onRadio fun r => { r with markLatch := (decodeMark s.radio.markLatch b).2 })).Looping x := by
    split
    · exact h.takeLineError
    · have latched (l : Bool) : (s.onRadio fun r => { r with markLatch := l }).Looping x :=
        h.of_same rfl rfl
      exact (latched _).takeSymbol _
  unfold State.takeByte
  dsimp only
  generalize (if e = true then s.takeLineError else _) = u at symbol ⊢
  have received : (u.onRadio fun r => { r with
      silence := if r.assembler.isSome then some Config.silenceTime else none }).Looping x :=
    symbol.of_same rfl rfl
  split
  · rw [received.lineEvent_eq]; exact received
  · exact received

/-- A looped byte leaves the line bytes behind it (R169). -/
theorem takeLooped {y : LineByte} {rest : List LineByte} (h : s.Looping { x with line := y :: rest }) :
    s.takeLooped.Looping { x with line := rest } := by
  have taken : (s.onRadio fun r => { r with tx := some { x with line := rest } }).Looping
      { x with line := rest } := ⟨h.testing, rfl⟩
  unfold State.takeLooped
  rw [h.testing, h.sending]
  exact taken.takeByte _ _

/-- Every line byte can be looped (R169). -/
theorem takeLooped_all {line : List LineByte} (h : s.Looping { x with line := line }) :
    (State.takeLooped^[line.length] s).Looping { x with line := [] } := by
  induction line generalizing s with
  | nil => exact h
  | cons y rest ih => exact ih (takeLooped (x := x) h)

end State.Looping

/-- The bytes that are left are looped one after the other (R169). -/
theorem State.loopRest_eq_iterate {x : InFlight} {s : State} (sending : s.radio.tx = some x) :
    s.loopRest = State.takeLooped^[x.line.length] s := by
  unfold State.loopRest
  rw [sending]
  exact List.foldl_const _ _ _

theorem exec_receivedByte_looped {s : State} (h : s.resetHeld = false) :
    exec (.receivedByte .looped) s = .next s.takeLooped := State.unlessReset_released _ _ h

theorem exec_loopedFrame {s : State} (h : s.resetHeld = false) :
    exec .loopedFrame s = .next (if s.radio.current = .selftest then s.loopRest else s) :=
  State.unlessReset_released _ _ h

theorem runCommands_looped {s : State} (h : s.resetHeld = false) (n : Nat) :
    runCommands (List.replicate n (.receivedByte .looped)) s = some (State.takeLooped^[n] s) := by
  induction n generalizing s with
  | zero => rfl
  | succ n ih =>
    have released : s.takeLooped.resetHeld = false := (takeLooped_reach s).resetHeld.trans h
    rw [List.replicate_succ, runCommands, exec_receivedByte_looped h]
    exact ih released

/-- Without SELFTEST or without a frame in flight nothing is looped (R169). -/
theorem exec_looped_none {s : State} (h : s.radio.current ≠ .selftest ∨ s.radio.tx = none) :
    exec .loopedFrame s = .next s ∧ exec (.receivedByte .looped) s = .next s := by
  have none_ : s.takeLooped = s := by
    unfold State.takeLooped
    split
    · next x testing sending =>
      obtain other | idle := h
      · exact absurd testing other
      · cases sending.symm.trans idle
    · rfl
  have rest : (if s.radio.current = .selftest then s.loopRest else s) = s := by
    split
    · next testing =>
      rw [State.loopRest, h.resolve_left (not_not_intro testing)]
    · rfl
  cases held : s.resetHeld with
  | false => rw [exec_loopedFrame held, exec_receivedByte_looped held, rest, none_]; exact ⟨rfl, rfl⟩
  | true => exact ⟨State.unlessReset_held _ _ held, State.unlessReset_held _ _ held⟩

end Sys2Proof.Machine
end

section
/-! A frame through the loop of SELFTEST: the transmitter's coding is undone byte by byte, and the whole frame
is delivered, HELD, or overrun (R157 to R163, R169, R181, R206). -/

namespace Sys2Proof.Machine

/-! ### A frame passes its own checks (R162, R206) -/

theorem length_frameContent (d src kind : Byte) (body : List Byte) :
    (frameContent d src kind body).length = body.length + 6 := by
  simp [frameContent, frameHead, bytes16]

/-- The check value that ends a content is read back as it was sent. -/
theorem checkValue_frameContent (head : List Byte) (v : U16) :
    let c := head ++ bytes16 v
    word16 (c.getD (c.length - 2) 0) (c.getD (c.length - 1) 0) = v
      ∧ c.take (c.length - 2) = head := by
  have size : (head ++ bytes16 v).length = head.length + 2 := by simp [bytes16]
  dsimp only
  rw [size, show head.length + 2 - 2 = head.length by omega,
    show head.length + 2 - 1 = head.length + 1 by omega, List.take_left]
  refine ⟨?_, rfl⟩
  rw [List.getD_append_right _ _ _ _ (le_refl _), List.getD_append_right _ _ _ _ (Nat.le_succ _)]
  simp [bytes16, word16_bytes]

theorem checkContent_frameContent (d src kind : Byte) {body : List Byte} (fits : body.length ≤ 56) :
    checkContent (frameContent d src kind body) = none := by
  have size := length_frameContent d src kind body
  have len : ((frameContent d src kind body).getD 3 0).toNat = body.length :=
    (BitVec.toNat_ofNat _ _).trans (Nat.mod_eq_of_lt (by omega))
  obtain ⟨value, head⟩ := checkValue_frameContent (frameHead d src kind body)
    (checkValue (frameHead d src kind body))
  have check : word16 ((frameContent d src kind body).getD ((frameContent d src kind body).length - 2) 0)
      ((frameContent d src kind body).getD ((frameContent d src kind body).length - 1) 0)
      = checkValue ((frameContent d src kind body).take
        ((frameContent d src kind body).length - 2)) := value.trans (congrArg checkValue head.symm)
  unfold checkContent
  dsimp only
  rw [if_pos check, len, size, if_neg (by omega), if_neg (by change ¬56 < body.length; omega),
    if_neg (by omega), if_neg (by omega)]

theorem frameOf_frameContent (d src kind : Byte) (body : List Byte) :
    frameOf (frameContent d src kind body) = ⟨d, src, kind, body⟩ := by
  have read : ((frameContent d src kind body).drop 4).take
      ((frameContent d src kind body).length - 6) = body := by
    rw [length_frameContent, Nat.add_sub_cancel]
    simp [frameContent, frameHead]
  exact congrArg (Frame.mk d src kind) read

/-! ### The looped bytes -/

/-- A sent byte has the parity that the receiver checks (R155, R156). -/
theorem byteInError_lineByte (code : Nat) (b : Byte) :
    byteInError code (lineByte code b).data ((lineByte code b).parity.getD false) true = false := by
  have odd (a : Bool) : (bitsMsbFirst b).foldl xor a = xor a ((bitsMsbFirst b).foldl xor false) := by
    rw [← List.foldl_assoc (op := Bool.xor), Bool.xor_false]
  have ok : parityOk code b ((parityBit code b).getD false) = true := by
    unfold parityOk parityBit
    dsimp only
    rw [odd]
    split <;> simp
  simp [byteInError, lineByte, ok]

/-- A state with the given line bytes of the frame in flight still to be looped. -/
def State.withLine (x : InFlight) (rest : List LineByte) (s : State) : State :=
  s.onRadio fun r => { r with tx := some { x with line := rest } }

theorem State.takeLooped_withLine (x : InFlight) (b : Byte) (rest : List LineByte) {s : State}
    (testing : s.radio.current = .selftest) :
    (s.withLine x (lineByte (s.param 2) b :: rest)).takeLooped
      = (s.withLine x rest).takeByte b false := by
  have error : byteInError ((s.withLine x (lineByte (s.param 2) b :: rest)).param 2)
      (lineByte (s.param 2) b).data ((lineByte (s.param 2) b).parity.getD false) true = false :=
    byteInError_lineByte _ _
  unfold State.takeLooped
  rw [show (s.withLine x (lineByte (s.param 2) b :: rest)).radio.current = .selftest from testing]
  exact congrArg (fun e => (s.withLine x rest).takeByte b e) error

/-- Looping the line bytes of some codes brings one state to another, whatever is still to be looped after
them. -/
def State.Loops (x : InFlight) (s t : State) (codes : List Byte) : Prop :=
  t.radio.current = s.radio.current ∧ t.param 2 = s.param 2
    ∧ ∀ rest, State.takeLooped^[codes.length]
        (s.withLine x (codes.map (lineByte (s.param 2)) ++ rest)) = t.withLine x rest

theorem State.Loops.append {x : InFlight} {s t u : State} {a b : List Byte} (first : s.Loops x t a)
    (second : t.Loops x u b) : s.Loops x u (a ++ b) := by
  obtain ⟨mode, code, first⟩ := first
  obtain ⟨mode', code', second⟩ := second
  refine ⟨mode'.trans mode, code'.trans code, fun rest => ?_⟩
  rw [List.length_append, Nat.add_comm, Function.iterate_add_apply, List.map_append,
    List.append_assoc, first, ← code, second]

theorem State.loops_nil (x : InFlight) (s : State) : s.Loops x s [] := ⟨rfl, rfl, fun _ => rfl⟩

/-- The silence timer after a received byte (R161). -/
def State.timed (s : State) : State := s.onRadio fun r => { r with
  silence := if r.assembler.isSome then some Config.silenceTime else none }

/-- While a frame is in flight, a received byte is its symbol and the silence timer. -/
theorem State.Looping.takeByte_eq {x : InFlight} {s : State} (h : s.Looping x) {b : Byte} {y : Symbol}
    {l : Bool} (decoded : decodeMark s.radio.markLatch b = (y, l)) :
    s.takeByte b false
      = (State.takeSymbol y (s.onRadio fun r => { r with markLatch := l })).timed := by
  have latched : (s.onRadio fun r => { r with markLatch := l }).Looping x := h.of_same rfl rfl
  have timed : (State.takeSymbol y (s.onRadio fun r => { r with markLatch := l })).timed.Looping x :=
    (latched.takeSymbol y).of_same rfl rfl
  have unfolded : s.takeByte b false =
      if s.radio.assembler.isSome && (State.timed (State.takeSymbol y
          (s.onRadio fun r => { r with markLatch := l }))).radio.assembler.isNone then
        (State.timed (State.takeSymbol y (s.onRadio fun r => { r with markLatch := l }))).lineEvent
      else State.timed (State.takeSymbol y (s.onRadio fun r => { r with markLatch := l })) := by
    simp only [State.takeByte, decoded]
    rfl
  rw [unfolded, timed.lineEvent_eq, ite_self]

theorem State.loops_byte {x : InFlight} {s t : State} {b : Byte} {y : Symbol} {l : Bool}
    (testing : s.radio.current = .selftest) (decoded : decodeMark s.radio.markLatch b = (y, l))
    (mode : t.radio.current = s.radio.current) (code : t.param 2 = s.param 2)
    (received : ∀ rest, (State.takeSymbol y ((s.withLine x rest).onRadio fun r =>
      { r with markLatch := l })).timed = t.withLine x rest) :
    s.Loops x t [b] := by
  refine ⟨mode, code, fun rest => ?_⟩
  have looping : (s.withLine x rest).Looping { x with line := rest } := ⟨testing, rfl⟩
  exact (State.takeLooped_withLine x b rest testing).trans
    ((looping.takeByte_eq decoded).trans (received rest))

/-! ### The receiver byte by byte -/

/-- Every byte but the mark stands for itself (R157). -/
theorem decodeMark_data {b : Byte} (other : b ≠ markByte) : decodeMark false b = (.data b, false) := by
  simp [decodeMark, other]

theorem State.takeFrameStart_full {s : State} (outside : s.radio.assembler = none)
    (full : s.radio.findBuf .free = none) : s.takeFrameStart = s.rxError .receiveOverrun := by
  unfold State.takeFrameStart
  rw [outside, full]

theorem State.takeFrameStart_free {s : State} (outside : s.radio.assembler = none) {i : BufId}
    (free : s.radio.findBuf .free = some i) : s.takeFrameStart =
      s.onRadio fun r => { r.setBuf ⟨.assembling, []⟩ i with assembler := some i } := by
  unfold State.takeFrameStart
  rw [outside, free]

theorem State.takeData_inside {s : State} {i : BufId} (inside : s.radio.assembler = some i)
    (room : (s.radio.buf i).content.length < 64) (b : Byte) : s.takeData b =
      s.onRadio (Radio.setBuf · ⟨.assembling, (s.radio.buf i).content ++ [b]⟩ i) := by
  unfold State.takeData
  rw [inside]
  exact if_pos room

/-- In SELFTEST a frame that passes the checks is complete whatever its addresses (R169). -/
theorem State.takeFrameEnd_selftest {s : State} {i : BufId} (inside : s.radio.assembler = some i)
    (passes : checkContent (s.radio.buf i).content = none) (testing : s.radio.current = .selftest) :
    s.takeFrameEnd
      = (s.onRadio fun r => { r with assembler := none, silence := none }).handFrame i := by
  have same : (s.onRadio fun r => { r with assembler := none, silence := none }).radio.buf i
      = s.radio.buf i := by cases i <;> rfl
  unfold State.takeFrameEnd
  simp only [inside, same, passes]
  exact if_pos testing

/-- In SELFTEST an idle processor delivers the frame of a buffer and frees it (R169, R181). -/
theorem State.takeFrames_selftest (n : Nat) {s : State} {i : BufId}
    (testing : s.radio.current = .selftest) (alone : (s.radio.buf i.other).state ≠ .held) :
    s.takeFrames (n + 1) i = (s.deliver (frameOf (s.radio.buf i).content)).1.onRadio fun r =>
      { r.freeBuf i with busy := false } := by
  have mode : (s.onRadio (Radio.moveBuf .processing i)).radio.current = .selftest := by
    rw [← testing]; cases i <;> rfl
  rw [State.takeFrames_succ]
  simp only [State.processFrame_selftest mode, if_neg alone, State.deliver_eq]
  cases i <;> rfl

/-- The receiver OUTSIDE a frame. -/
def State.outside (latch : Bool) (s : State) : State :=
  s.onRadio fun r => { r with assembler := none, silence := none, markLatch := latch }

/-- The receiver INSIDE a frame, with the content so far. -/
def State.inside (latch : Bool) (i : BufId) (c : List Byte) (s : State) : State :=
  s.onRadio fun r => { r.setBuf ⟨.assembling, c⟩ i with
    assembler := some i, silence := some Config.silenceTime, markLatch := latch }

section

variable {x : InFlight} {s : State}

theorem State.outside_mark (testing : s.radio.current = .selftest) :
    (s.outside false).Loops x (s.outside true) [markByte] :=
  State.loops_byte testing rfl rfl rfl fun _ => rfl

theorem State.outside_code (testing : s.radio.current = .selftest) (b : Byte) :
    (s.outside false).Loops x (s.outside false) (markCode b) := by
  unfold markCode
  split
  · exact (State.outside_mark testing).append (b := [markByte])
      (State.loops_byte testing rfl rfl rfl fun _ => rfl)
  · next other => exact State.loops_byte testing (decodeMark_data other) rfl rfl fun _ => rfl

/-- OUTSIDE a frame its content is ignored (R161). -/
theorem State.outside_content (testing : s.radio.current = .selftest) (cs : List Byte) :
    (s.outside false).Loops x (s.outside false) (cs.flatMap markCode) := by
  induction cs with
  | nil => exact State.loops_nil x _
  | cons b cs ih => exact (State.outside_code testing b).append ih

theorem State.outside_end (testing : s.radio.current = .selftest) :
    (s.outside false).Loops x (s.outside false) [markByte, endByte] :=
  (State.outside_mark testing).append (b := [endByte])
    (State.loops_byte testing rfl rfl rfl fun _ => rfl)

/-- A FRAME_START without a FREE buffer is overrun (R160). -/
theorem State.outside_start_full (testing : s.radio.current = .selftest)
    (full : s.radio.findBuf .free = none) :
    (s.outside false).Loops x ((s.rxError .receiveOverrun).outside false) [markByte, startByte] := by
  refine (State.outside_mark testing).append (b := [startByte])
    (State.loops_byte testing rfl rfl rfl fun rest => ?_)
  have overrun := State.takeFrameStart_full (s := (s.outside false).withLine x rest) rfl full
  exact congrArg State.timed overrun

/-- A FRAME_START takes a FREE buffer (R160). -/
theorem State.outside_start_free (testing : s.radio.current = .selftest) {i : BufId}
    (free : s.radio.findBuf .free = some i) :
    (s.outside false).Loops x (s.inside false i []) [markByte, startByte] := by
  have mode : (s.inside false i []).radio.current = s.radio.current := by cases i <;> rfl
  refine (State.outside_mark testing).append (b := [startByte])
    (State.loops_byte testing rfl mode rfl fun rest => ?_)
  have started := State.takeFrameStart_free (s := (s.outside false).withLine x rest) rfl free
  refine (congrArg State.timed started).trans ?_
  cases i <;> rfl

theorem State.inside_mark (testing : s.radio.current = .selftest) (i : BufId) (c : List Byte) :
    (s.inside false i c).Loops x (s.inside true i c) [markByte] := by
  cases i <;> exact State.loops_byte testing rfl rfl rfl fun _ => rfl

theorem State.inside_buf (l : Bool) (i : BufId) (c : List Byte) (s : State) :
    (s.inside l i c).radio.buf i = ⟨.assembling, c⟩ := by cases i <;> rfl

/-- INSIDE a frame a data byte is appended to its content (R161). -/
theorem State.inside_data (testing : s.radio.current = .selftest) (l : Bool) (i : BufId) {c : List Byte}
    (room : c.length < 64) {b d : Byte} (decoded : decodeMark l b = (.data d, false)) :
    (s.inside l i c).Loops x (s.inside false i (c ++ [d])) [b] := by
  have content (rest : List LineByte) :
      (((s.inside false i c).withLine x rest).radio.buf i).content = c :=
    congrArg FrameBuffer.content (s.inside_buf false i c)
  have appended (rest : List LineByte) := State.takeData_inside
    (s := (s.inside false i c).withLine x rest) rfl (by rw [content]; exact room) d
  simp only [content] at appended
  cases i <;> exact State.loops_byte testing decoded rfl rfl fun rest =>
    congrArg State.timed (appended rest)

theorem State.inside_code (testing : s.radio.current = .selftest) (i : BufId) {c : List Byte}
    (room : c.length < 64) (b : Byte) :
    (s.inside false i c).Loops x (s.inside false i (c ++ [b])) (markCode b) := by
  unfold markCode
  split
  · next mark =>
    subst mark
    exact (State.inside_mark testing i c).append (b := [markByte])
      (State.inside_data testing true i room rfl)
  · next other => exact State.inside_data testing false i room (decodeMark_data other)

theorem State.inside_content (testing : s.radio.current = .selftest) (i : BufId) {c cs : List Byte}
    (room : c.length + cs.length ≤ 64) :
    (s.inside false i c).Loops x (s.inside false i (c ++ cs)) (cs.flatMap markCode) := by
  induction cs generalizing c with
  | nil => rw [List.append_nil]; exact State.loops_nil x _
  | cons b cs ih =>
    rw [List.length_cons] at room
    have rest := ih (c := c ++ [b]) (by simp; omega)
    rw [List.append_assoc] at rest
    exact (State.inside_code testing i (by omega) b).append rest

/-- The receiver at the FRAME_END of a complete frame. -/
def State.ended (i : BufId) (c : List Byte) (s : State) : State :=
  (s.outside false).onRadio (Radio.setBuf · ⟨.assembling, c⟩ i)

/-- At its FRAME_END a complete frame is handed on (R162, R169). -/
theorem State.inside_end (testing : s.radio.current = .selftest) (i : BufId) {c : List Byte}
    (passes : checkContent c = none) {t : State} (mode : t.radio.current = s.radio.current)
    (code : t.param 2 = s.param 2)
    (handed : ∀ rest, (((s.ended i c).withLine x rest).handFrame i).timed = t.withLine x rest) :
    (s.inside false i c).Loops x t [markByte, endByte] := by
  have same (rest : List LineByte) : ((s.inside false i c).withLine x rest).radio.buf i
      = ⟨.assembling, c⟩ := s.inside_buf false i c
  have still (rest : List LineByte) : ((s.inside false i c).withLine x rest).radio.current = .selftest := by
    rw [← testing]; cases i <;> rfl
  have ended (rest : List LineByte) := State.takeFrameEnd_selftest
    (s := (s.inside false i c).withLine x rest) rfl (by rw [same]; exact passes) (still rest)
  refine (State.inside_mark testing i c).append (b := [endByte]) ?_
  cases i <;> exact State.loops_byte testing rfl mode code fun rest =>
    (congrArg State.timed (ended rest)).trans (handed rest)

/-- A complete frame behind a BUSY processor is HELD (R163). -/
theorem State.inside_end_busy (testing : s.radio.current = .selftest) (busy : s.radio.busy = true)
    (i : BufId) {c : List Byte} (passes : checkContent c = none) :
    (s.inside false i c).Loops x ((s.outside false).onRadio (Radio.setBuf · ⟨.held, c⟩ i))
      [markByte, endByte] := by
  have held (rest : List LineByte) : ((s.ended i c).withLine x rest).handFrame i
      = ((s.ended i c).withLine x rest).onRadio (Radio.moveBuf .held i) := by
    refine if_pos ?_
    rw [← busy]; cases i <;> rfl
  cases i <;> exact State.inside_end testing _ passes rfl rfl fun rest =>
    congrArg State.timed (held rest)

/-- A complete frame at an idle processor is delivered (R169, R181). -/
theorem State.inside_end_idle (testing : s.radio.current = .selftest) (idle : s.radio.busy = false)
    (i : BufId) (alone : (s.radio.buf i.other).state ≠ .held) {c : List Byte}
    (passes : checkContent c = none) :
    (s.inside false i c).Loops x
      (((s.outside false).deliver (frameOf c)).1.onRadio fun r => { r.freeBuf i with busy := false })
      [markByte, endByte] := by
  have taken (rest : List LineByte) : ((s.ended i c).withLine x rest).handFrame i
      = ((s.ended i c).withLine x rest).takeFrames 2 i := by
    refine if_neg (Bool.eq_false_iff.mp ?_)
    rw [← idle]; cases i <;> rfl
  have worked (rest : List LineByte) := State.takeFrames_selftest 1
    (s := (s.ended i c).withLine x rest) (i := i) (by rw [← testing]; cases i <;> rfl)
    (by cases i <;> exact alone)
  have content (rest : List LineByte) : (((s.ended i c).withLine x rest).radio.buf i).content = c := by
    cases i <;> rfl
  simp only [content, State.deliver_eq] at worked ⊢
  cases i <;> exact State.inside_end testing _ passes rfl rfl fun rest =>
    congrArg State.timed ((taken rest).trans (worked rest))

end

/-! ### A whole frame -/

section

variable {x : InFlight} {s : State}

/-- The line bytes of a frame that finds a FREE buffer, up to what is made of it at its FRAME_END. -/
theorem State.loops_frame (testing : s.radio.current = .selftest) {i : BufId}
    (free : s.radio.findBuf .free = some i) {c : List Byte} (fits : c.length ≤ 64) {t : State}
    (finish : (s.inside false i c).Loops x t [markByte, endByte]) :
    (s.outside false).Loops x t (lineBytes c) := by
  have content := State.inside_content (x := x) testing i (c := []) (cs := c) (by simpa using fits)
  exact ((State.outside_start_free testing free).append content).append finish

/-- The line bytes of a frame that finds no FREE buffer (R160). -/
theorem State.loops_overrun (testing : s.radio.current = .selftest)
    (full : s.radio.findBuf .free = none) (c : List Byte) :
    (s.outside false).Loops x ((s.rxError .receiveOverrun).outside false) (lineBytes c) :=
  ((State.outside_start_full testing full).append
    (State.outside_content (s := s.rxError .receiveOverrun) testing c)).append
    (State.outside_end (s := s.rxError .receiveOverrun) testing)

theorem State.outside_self (outside : s.radio.assembler = none) (silent : s.radio.silence = none)
    (latch : s.radio.markLatch = false) : s.outside false = s := by
  have written : s.outside false = { s with radio := { s.radio with
      assembler := s.radio.assembler, silence := s.radio.silence
      markLatch := s.radio.markLatch } } := by rw [outside, silent, latch]; rfl
  exact written

theorem State.freeBuf_self (free : s.radio.buf0 = ⟨.free, []⟩) (idle : s.radio.busy = false) :
    s.onRadio (fun r => { r.freeBuf .buf0 with busy := false }) = s := by
  have written : s.onRadio (fun r => { r.freeBuf .buf0 with busy := false })
      = { s with radio := { s.radio with buf0 := s.radio.buf0, busy := s.radio.busy } } := by
    rw [free, idle]; rfl
  exact written

theorem State.withLine_self {line : List LineByte} (sending : s.radio.tx = some { x with line := line }) :
    s.withLine x line = s := by
  have written : s.withLine x line = { s with radio := { s.radio with tx := s.radio.tx } } := by
    rw [sending]; rfl
  exact written

/-- LOOPED_FRAME loops every line byte that is left (R169). -/
theorem State.Loops.exec_loopedFrame {t : State} {codes : List Byte} (loops : s.Loops x t codes)
    (released : s.resetHeld = false) (testing : s.radio.current = .selftest)
    (sending : s.radio.tx = some { x with line := codes.map (lineByte (s.param 2)) }) :
    exec .loopedFrame s = .next (t.withLine x []) := by
  obtain ⟨-, -, loops⟩ := loops
  have all := loops []
  rw [List.append_nil, State.withLine_self sending] at all
  rw [Machine.exec_loopedFrame released, if_pos testing, State.loopRest_eq_iterate sending,
    List.length_map, all]

end

/-- With the receiver OUTSIDE, an idle processor has both buffers FREE (R159, R163, R164). -/
theorem Radio.BuffersGood.free_of_idle {r : Radio} (good : r.BuffersGood)
    (outside : r.assembler = none) (idle : r.busy = false) (i : BufId) : r.buf i = ⟨.free, []⟩ := by
  obtain ⟨good0, good1, each, busy, -, -⟩ := good
  have member (k : BufId) : k ∈ [BufId.buf0, .buf1] := by cases k <;> simp
  have unprocessed (k : BufId) : (r.buf k).state ≠ .processing := by
    intro processing
    have working : r.busy = true := busy.mpr (by cases k; exacts [.inl processing, .inr processing])
    cases idle.symm.trans working
  obtain ⟨assembling, held, -⟩ := each i (member i)
  have free : (r.buf i).state = .free := by
    cases state : (r.buf i).state with
    | free => rfl
    | assembling => cases outside.symm.trans (assembling.mp state)
    | held => exact absurd (held state) (unprocessed _)
    | processing => exact absurd state (unprocessed i)
  have empty : (r.buf i).content = [] := by cases i; exacts [good0.2.1 free, good1.2.1 free]
  rw [← free, ← empty]

/-- With the assembler OUTSIDE the silence timer is stopped (R161). -/
theorem Radio.BuffersGood.silent {r : Radio} (good : r.BuffersGood) (outside : r.assembler = none) :
    r.silence = none := by
  obtain ⟨-, -, -, -, -, silence⟩ := good
  rw [outside] at silence
  exact Option.not_isSome_iff_eq_none.mp fun running => by cases silence.mp running

/-- The receiver and the processor as a looped frame finds them (R159, R169). -/
structure State.ReadyToLoop (s : State) : Prop where
  released : s.resetHeld = false
  testing : s.radio.current = .selftest
  outside : s.radio.assembler = none
  latch : s.radio.markLatch = false
  buffers : s.radio.BuffersGood

namespace State.ReadyToLoop

variable {s : State} {d src kind : Byte} {body : List Byte} {x : InFlight}

theorem outside_self (h : s.ReadyToLoop) : s.outside false = s :=
  State.outside_self h.outside (h.buffers.silent h.outside) h.latch

/-- A looped frame behind a BUSY processor is HELD in a FREE buffer (R163, R169). -/
theorem exec_held (h : s.ReadyToLoop) (fits : body.length ≤ 56) (busy : s.radio.busy = true)
    {i : BufId} (free : s.radio.findBuf .free = some i)
    (sending : s.radio.tx = some { x with
      line := (lineBytes (frameContent d src kind body)).map (lineByte (s.param 2)) }) :
    exec .loopedFrame s = .next ((s.onRadio
      (Radio.setBuf · ⟨.held, frameContent d src kind body⟩ i)).withLine x []) := by
  have room : (frameContent d src kind body).length ≤ 64 := by rw [length_frameContent]; omega
  have finish := State.inside_end_busy (x := x) h.testing busy i
    (checkContent_frameContent d src kind fits)
  have loops := State.loops_frame h.testing free room finish
  rw [h.outside_self] at loops
  exact loops.exec_loopedFrame h.released h.testing sending

/-- A looped frame without a FREE buffer is overrun (R160, R169). -/
theorem exec_overrun (h : s.ReadyToLoop) (full : s.radio.findBuf .free = none)
    (sending : s.radio.tx = some { x with
      line := (lineBytes (frameContent d src kind body)).map (lineByte (s.param 2)) }) :
    exec .loopedFrame s = .next ((s.rxError .receiveOverrun).withLine x []) := by
  have loops := State.loops_overrun (x := x) h.testing full (frameContent d src kind body)
  have after : (s.rxError .receiveOverrun).outside false = s.rxError .receiveOverrun :=
    State.outside_self h.outside (h.buffers.silent h.outside) h.latch
  rw [h.outside_self, after] at loops
  exact loops.exec_loopedFrame h.released h.testing sending

/-- A looped frame at an idle processor is delivered, and its buffer is FREE again (R169, R181). -/
theorem exec_delivered (h : s.ReadyToLoop) (fits : body.length ≤ 56) (idle : s.radio.busy = false)
    (sending : s.radio.tx = some { x with
      line := (lineBytes (frameContent d src kind body)).map (lineByte (s.param 2)) }) :
    exec .loopedFrame s = .next ((s.deliver ⟨d, src, kind, body⟩).1.withLine x []) := by
  have room : (frameContent d src kind body).length ≤ 64 := by rw [length_frameContent]; omega
  have empty := h.buffers.free_of_idle h.outside idle
  have free : s.radio.findBuf .free = some .buf0 := if_pos (congrArg FrameBuffer.state (empty .buf0))
  have alone : (s.radio.buf BufId.buf0.other).state ≠ .held := by rw [empty]; decide
  have finish := State.inside_end_idle (x := x) h.testing idle .buf0 alone
    (checkContent_frameContent d src kind fits)
  have loops := State.loops_frame h.testing free room finish
  rw [h.outside_self, frameOf_frameContent] at loops
  have kept := State.freeBuf_self (s := (s.deliver ⟨d, src, kind, body⟩).1)
    (by rw [State.deliver_eq]; exact empty .buf0) (by rw [State.deliver_eq]; exact idle)
  rw [kept] at loops
  exact loops.exec_loopedFrame h.released h.testing sending

end State.ReadyToLoop

end Sys2Proof.Machine
end

section
/-! The frames at the processor, of each kind and in each mode (R54, R62, R63, R67, R164, R169, R176 to R182,
R207). -/

namespace Sys2Proof.Machine

/-- Settles O57: the kinds outside SELFTEST, the delivery in SELFTEST, the chain of the buffers, the looped
bytes one by one, and the looped frame behind a BUSY and at an idle processor. -/
theorem framesAreProcessedByKind : Obligations.FramesAreProcessedByKind := by
  refine ⟨?_, ?_, fun n k s _ => State.takeFrames_succ n k s, ?_, ?_⟩
  · intro f s working u station answer result
    have answers {v : State} (same : v.radio.receiver = u.radio.receiver) (kind : Byte)
        (body : List Byte) : v.answered f kind body = answer v kind body := by
      have current : v.radio.current = s.radio.current := (Radio.current_of_receiver same).trans rfl
      exact (State.answered_eq f kind body v).trans (by rw [current])
    have results {v : State} (same : v.radio.receiver = u.radio.receiver) (n : U16) (code : Nat) :
        v.answered f kindAnswer (answerBody f.kind n code) = result v n code := answers same _ _
    have replies {v : State} {kind : Byte} {body : List Byte}
        (work : u.processStation f = (v, some (kind, body))) :
        s.processFrame f = v.answered f kind body := State.processFrame_replies working work
    clear_value answer result
    refine ⟨fun b kind body => ?_, fun n kind body => ?_, fun kind body => ?_, fun kind body => ?_,
      fun kind => ?_, fun unused => ?_⟩
    · have processed {v : State} {issued : IssueResult}
          (h : u.issueRecord .radio station b = (v, issued)) :
          s.processFrame f = result v b.number (issueResultCode issued) := by
        have same := State.issueRecord_receiver .radio station b u
        rw [h] at same
        rw [replies (State.processStation_issue kind body h), results same]
      have refused (fails : recordOfIssue station b = none) :
          u.issueRecord .radio station b = (u, .value) := by simp only [State.issueRecord, fails]
      refine ⟨fun fails => processed (refused fails), ?_⟩
      intro q stores t moves changed seq
      have notices := (s.table.classify_classified .radio q).radio_notice
      rw [recordOfIssue_origin stores] at notices
      have stored (changes : (s.table.classify .radio q).2.changes = true) :
          u.issueRecord .radio station b
            = (State.evaluateIf (decide moves) (changed t), (s.table.classify .radio q).2) :=
        State.issueRecord_changes (s := u) stores changes
      cases outcome : (s.table.classify .radio q).2 with
      | new k replaced =>
        rw [outcome] at notices stored
        exact ⟨notices.1, notices.2, processed (stored rfl)⟩
      | amended k =>
        rw [outcome] at notices stored
        exact ⟨notices.1, notices.2, processed (stored rfl)⟩
      | value => rw [outcome] at notices; exact notices
      | kind k live => exact processed (State.issueRecord_kind stores outcome)
      | full => exact processed (State.issueRecord_full (s := u) stores outcome)
    · have work := State.processStation_revoke (s := u) kind body
      change s.processFrame f = match u.table.find station n.toNat with
        | some k => result (u.revokeSlot k) n 5
        | none => result u n 6
      rw [show Origin.station f.station = station from rfl] at work
      cases found : u.table.find station n.toNat with
      | some k =>
        rw [found] at work
        rw [replies work, results (State.revokeSlot_receiver k u)]
      | none =>
        rw [found] at work
        rw [replies work, results rfl]
    · rw [replies (State.processStation_poll kind body), answers rfl, State.positionReport,
        Table.count_eq]
      rfl
    · rw [replies (State.processStation_tableQuery kind body), answers rfl, State.tableReport,
        Table.recordsOf, Table.live_map_snd]
      rfl
    · rw [replies (State.processStation_text (s := u) kind), results (State.deliver_receiver f u)]
      by_cases room : s.radio.mailbox.length < 4
      · rw [State.deliver_room (s := u) room, if_pos room, kind]
        rfl
      · rw [State.deliver_full (s := u) room, if_neg room]
        rfl
    · exact State.processFrame_silent working (State.processStation_unused unused)
  · intro f s testing u
    refine (State.processFrame_selftest testing).trans ?_
    by_cases room : s.radio.mailbox.length < 4
    · rw [if_pos room, State.deliver_room (s := s.onRadio fun r => { r with busy := true }) room]
      rfl
    · rw [if_neg room, State.deliver_full (s := s.onRadio fun r => { r with busy := true }) room]
      rfl
  · refine fun s => ⟨exec_looped_none, fun x released testing sending => ?_⟩
    have looped : (State.takeLooped^[x.line.length] s).Looping { x with line := [] } :=
      State.Looping.takeLooped_all ⟨testing, sending⟩
    refine ⟨_, runCommands_looped released _, ?_, looped.sending⟩
    rw [exec_loopedFrame released, if_pos testing, State.loopRest_eq_iterate sending]
  · intro d src kind body handle s fits released testing outside latch buffers content looped crowded
      sending
    have ready : s.ReadyToLoop := ⟨released, testing, outside, latch, buffers⟩
    have line : s.radio.tx = some { (⟨handle, content, []⟩ : InFlight) with
        line := (lineBytes content).map (lineByte (s.param 2)) } := sending
    cases busy : s.radio.busy with
    | false =>
      refine (ready.exec_delivered fits busy line).trans ?_
      rw [State.deliver_eq]
      rfl
    | true =>
      rw [if_pos rfl]
      by_cases first : s.radio.buf0.state = .free
      · have free : s.radio.findBuf .free = some .buf0 := if_pos first
        refine (ready.exec_held (x := ⟨handle, content, []⟩) fits busy free line).trans ?_
        simp only [crowded, if_pos first]
        rfl
      · by_cases second : s.radio.buf1.state = .free
        · have free : s.radio.findBuf .free = some .buf1 := (if_neg first).trans (if_pos second)
          refine (ready.exec_held (x := ⟨handle, content, []⟩) fits busy free line).trans ?_
          simp only [crowded, if_neg first, if_pos second]
          rfl
        · have full : s.radio.findBuf .free = none := (if_neg first).trans (if_neg second)
          refine (ready.exec_overrun (x := ⟨handle, content, []⟩) full line).trans ?_
          simp only [crowded, if_neg first, if_neg second]
          rfl

end Sys2Proof.Machine
end

section
/-! The arithmetic of the permitted speed: the integer square root, the curve speed and the gravity
component (R88, R89, R94). -/

namespace Sys2Proof.Machine

/-! ### The integer square root (R94) -/

/-- The bits found from the top leave the root between the bits found so far and one step more. -/
theorem isqrtFrom_spec (n k r : Nat) (low : r * r ≤ n) (high : n < (r + 2 ^ k) * (r + 2 ^ k)) :
    isqrtFrom n k r * isqrtFrom n k r ≤ n ∧ n < (isqrtFrom n k r + 1) * (isqrtFrom n k r + 1) := by
  induction k generalizing r with
  | zero => rw [pow_zero] at high; exact ⟨low, high⟩
  | succ k ih =>
    unfold isqrtFrom
    split
    · next bit =>
      have sum : r + 2 ^ k + 2 ^ k = r + 2 ^ (k + 1) := by rw [pow_succ]; omega
      exact ih _ bit (by rwa [sum])
    · next clear => exact ih _ low (Nat.lt_of_not_le clear)

theorem isqrt_eq_sqrt (n : Nat) : isqrt n = n.sqrt := by
  have start : n < (0 + 2 ^ (n.log2 / 2 + 1)) * (0 + 2 ^ (n.log2 / 2 + 1)) := by
    rw [Nat.zero_add, ← pow_add]
    exact Nat.lt_log2_self.trans_le (Nat.pow_le_pow_right two_pos (by omega))
  exact Nat.eq_sqrt.mpr (isqrtFrom_spec n _ 0 (Nat.zero_le n) start)

/-! ### The curve speed (R94) -/

theorem curveSpeed_eq (v a d : Nat) :
    curveSpeed v a d = min 1023 (((10 * v) ^ 2 + 2 * a * d).sqrt / 10) := by
  rw [curveSpeed, isqrt_eq_sqrt]; rfl

/-- No curve lies below the speed of its target. -/
theorem le_curveSpeed {v : Nat} (bound : v ≤ 1023) (a d : Nat) : v ≤ curveSpeed v a d := by
  rw [curveSpeed_eq]
  have root : 10 * v ≤ ((10 * v) ^ 2 + 2 * a * d).sqrt :=
    Nat.le_sqrt'.mpr (Nat.le_add_right _ _)
  omega

theorem curveSpeed_at_target {v : Nat} (bound : v ≤ 1023) (a : Nat) : curveSpeed v a 0 = v := by
  rw [curveSpeed_eq, Nat.mul_zero, Nat.add_zero, Nat.sqrt_eq']
  omega

/-! ### The gravity component (R88, R89) -/

/-- Inside a row of the table gravity is interpolated, rounded down. -/
theorem gravity_in_row {k r : Nat} (row : k < 10) (inside : r < 50) :
    gravity (50 * k + r) = gravityTable.getD k 0
      + (gravityTable.getD (k + 1) 0 - gravityTable.getD k 0) * r / 50 := by
  have unbounded : min (50 * k + r) 500 = 50 * k + r := by omega
  have index : (50 * k + r) / 50 = k := by omega
  have offset : 50 * k + r - 50 * k = r := by omega
  simp only [gravity, unbounded, index, offset, if_neg (show 50 * k + r ≠ 500 by omega)]

theorem gravity_of_steep {g : Nat} (steep : 500 ≤ g) : gravity g = 4386 := by
  have bounded : min g 500 = 500 := by omega
  rw [gravity, bounded]
  rfl

/-- At the grid points gravity is the table's value. -/
theorem gravity_at_row {k : Nat} (row : k ≤ 10) : gravity (50 * k) = gravityTable.getD k 0 := by
  rcases row.lt_or_eq with inner | rfl
  · simpa using gravity_in_row (r := 0) inner (by omega)
  · exact gravity_of_steep (le_refl 500)

theorem gravityTable_mono : ∀ k, k < 10 → gravityTable.getD k 0 ≤ gravityTable.getD (k + 1) 0 := by
  decide

/-- The interpolation of a row reaches the next row's value at its end. -/
theorem gravity_to_row_end {k r : Nat} (row : k < 10) (upTo : r ≤ 50) :
    gravity (50 * k + r) = gravityTable.getD k 0
      + (gravityTable.getD (k + 1) 0 - gravityTable.getD k 0) * r / 50 := by
  rcases upTo.lt_or_eq with inside | rfl
  · exact gravity_in_row row inside
  · have mono := gravityTable_mono k row
    have next := gravity_at_row (show k + 1 ≤ 10 by omega)
    have divided := Nat.mul_div_cancel (gravityTable.getD (k + 1) 0 - gravityTable.getD k 0)
      (show 0 < 50 by decide)
    rw [show 50 * k + 50 = 50 * (k + 1) by omega, next, divided]
    omega

theorem gravity_mono : Monotone gravity := by
  refine monotone_nat_of_le_succ fun g => ?_
  rcases Nat.lt_or_ge g 500 with gentle | steep
  · have split : g = 50 * (g / 50) + g % 50 := by omega
    have row : g / 50 < 10 := by omega
    have here := gravity_to_row_end row (show g % 50 ≤ 50 by omega)
    have next := gravity_to_row_end row (show g % 50 + 1 ≤ 50 by omega)
    rw [← Nat.add_assoc, ← split] at next
    rw [← split] at here
    rw [here, next]
    gcongr
    omega
  · rw [gravity_of_steep steep, gravity_of_steep (steep.trans (Nat.le_succ g))]

/-- Settles O21: the table's rounding row by row, and then the lemmas on gravity, the root and the curve. -/
theorem curveArithmeticRoundsDown : Obligations.CurveArithmeticRoundsDown := by
  refine ⟨by decide, fun k r row inside => gravity_in_row row inside, fun g steep => gravity_of_steep steep,
    fun g h le => gravity_mono le, fun n => Nat.eq_sqrt.mp (isqrt_eq_sqrt n), fun v a d => ⟨rfl, fun bound =>
      ⟨le_curveSpeed bound a d, curveSpeed_at_target bound a⟩⟩⟩

end Sys2Proof.Machine
end

section
/-! The curve of a target: the adverse gradient, the deceleration with its floor and the available distance;
and the shortfall of a direction and of both (R76, R77, R80, R81, R86, R87, R90 to R93). -/

namespace Sys2Proof.Machine

/-! ### Degraded and beyond the line end (R80, R81) -/

theorem State.degraded_iff (s : State) :
    s.degraded = true ↔ s.odo.positionValid = false ∨ s.profile.state ≠ .valid := by
  simp [State.degraded]

theorem State.not_degraded_iff (s : State) :
    ¬s.degraded = true ↔ s.odo.positionValid = true ∧ s.profile.state = .valid := by
  simp [State.degraded]

/-- In a full evaluation the car is beyond the line end when its UP front has strictly passed it. -/
theorem State.beyondLineEnd_iff {s : State} (full : ¬s.degraded = true) :
    s.beyondLineEnd = true ↔
      ∃ e, s.profile.lineEnd = some e ∧ e < s.odo.position + s.param 3 := by
  obtain ⟨-, valid⟩ := s.not_degraded_iff.mp full
  have length : s.carLength = s.param 3 := rfl
  rw [State.beyondLineEnd, Profile.servedLineEnd_of_valid valid, Bool.not_eq_true _ |>.mp full, length]
  cases s.profile.lineEnd <;> simp

/-! ### The adverse gradient (R87) -/

/-- The effective gradients of the segments under the span from the rear of the car to a point. -/
def State.gradientsTo (s : State) (dir : Dir) (p : Nat) : List Int :=
  (s.profile.track.filter (match dir with
    | .up => overlapsSpan (s.rear .up) p
    | .down => overlapsSpan p (s.rear .down))).map fun g => g.1.effective dir

/-- The adverse gradient is the lowest of those, -500 when there is none. -/
theorem State.adverse_eq (s : State) (dir : Dir) (p : Nat) :
    s.adverse dir p = (s.gradientsTo dir p).min?.getD (-500) := by
  unfold State.adverse State.gradientsTo
  cases dir <;> dsimp only <;> split <;> next h => rw [h]; rfl

/-- A segment lies under the span from the rear of the car to a point. -/
def State.UnderSpan (s : State) (dir : Dir) (p : Nat) (g : Segment) : Prop :=
  ∃ e, (g, e) ∈ s.profile.track ∧ g.start ≤ (if dir = .up then p else s.odo.position + s.param 3)
    ∧ (if dir = .up then s.odo.position else p) < e

theorem State.mem_gradientsTo {s : State} {dir : Dir} {p : Nat} {e : Int} :
    e ∈ s.gradientsTo dir p ↔ ∃ g, s.UnderSpan dir p g ∧ e = g.effective dir := by
  cases dir <;>
  simp [State.gradientsTo, State.UnderSpan, overlapsSpan, State.rear, State.carLength, @eq_comm Int e]

theorem State.adverse_of_none_under {s : State} {dir : Dir} {p : Nat}
    (clear : ∀ g, ¬s.UnderSpan dir p g) : s.adverse dir p = -500 := by
  have empty : s.gradientsTo dir p = [] := List.eq_nil_iff_forall_not_mem.mpr fun e member =>
    let ⟨g, under, _⟩ := State.mem_gradientsTo.mp member
    clear g under
  rw [State.adverse_eq, empty]
  rfl

/-- The adverse gradient is that of a segment under the span, and none there is lower (R87). -/
theorem State.adverse_lowest {s : State} {dir : Dir} {p : Nat} {g : Segment}
    (under : s.UnderSpan dir p g) : s.adverse dir p ≤ g.effective dir
      ∧ ∃ h, s.UnderSpan dir p h ∧ s.adverse dir p = h.effective dir := by
  have occurs := State.mem_gradientsTo.mpr ⟨g, under, rfl⟩
  obtain ⟨m, lowest⟩ := Option.isSome_iff_exists.mp (List.isSome_min?_of_mem occurs)
  obtain ⟨attained, least⟩ := List.min?_eq_some_iff.mp lowest
  have value : s.adverse dir p = m := by rw [State.adverse_eq, lowest]; rfl
  rw [value]
  exact ⟨least _ occurs, State.mem_gradientsTo.mp attained⟩

/-! ### Deceleration and distance (R90, R91, R93) -/

theorem decelerationWithFloor_eq (floor : Nat) (a : Int) :
    decelerationWithFloor floor a = (max a floor).toNat := by
  unfold decelerationWithFloor
  split <;> omega

theorem availableDistance_eq (d v reaction guard : Nat) : availableDistance d v reaction guard
    = (25 * (d : Int) - (v * 10 * reaction / 1000 : Nat) - guard).toNat := by
  rw [availableDistance, Config.mmPerCount]
  omega

/-! ### The shortfall of a direction (R80, R81, R86, R92) -/

theorem State.dirResult_degraded {s : State} (degraded : s.degraded = true) (dir : Dir) :
    s.dirResult dir = ⟨s.ceiling dir, none, false, none⟩ := if_pos degraded

theorem State.dirResult_full {s : State} (full : ¬s.degraded = true) (dir : Dir) :
    s.dirResult dir = s.fullResult dir := if_neg full

theorem State.fullResult_shortfall (s : State) (dir : Dir) :
    (s.fullResult dir).shortfall = (s.curves dir).any fun x => s.targetShort dir x.2 := by
  unfold State.fullResult
  dsimp only
  (repeat' split) <;> rfl

/-- The curves of a direction are those of its targets, but that UP beyond the line end has none, unless
an overrun STOP record is taken first there (R81, R86; log entry 15). -/
theorem State.curves_of_not_beyond {s : State} {dir : Dir}
    (within : ¬(dir = .up ∧ s.beyondLineEnd = true)) :
    s.curves dir = (s.targets dir).map fun t => (s.targetCurve dir t, t) :=
  if_neg fun ⟨up, beyond, _⟩ => within ⟨up, beyond⟩

theorem State.curves_beyond {s : State} (beyond : s.beyondLineEnd = true)
    (clear : s.overrun .up = none) : s.curves .up = [] :=
  if_pos ⟨rfl, beyond, by simp [clear]⟩

theorem State.curves_cases (s : State) (dir : Dir) :
    s.curves dir = [] ∨ s.curves dir = (s.targets dir).map fun t => (s.targetCurve dir t, t) := by
  unfold State.curves
  split
  · exact .inl rfl
  · exact .inr rfl

/-- A direction whose targets have curves has a shortfall when one of its targets has (R92). -/
theorem State.shortfall_of_curves {s : State} {dir : Dir} (full : ¬s.degraded = true)
    (curves : s.curves dir = (s.targets dir).map fun t => (s.targetCurve dir t, t)) :
    (s.dirResult dir).shortfall = (s.targets dir).any (s.targetShort dir) := by
  rw [State.dirResult_full full, State.fullResult_shortfall, curves, List.any_map]
  rfl

theorem State.shortfall_of_no_curves {s : State} {dir : Dir} (full : ¬s.degraded = true)
    (curves : s.curves dir = []) : (s.dirResult dir).shortfall = false := by
  rw [State.dirResult_full full, State.fullResult_shortfall, curves]
  rfl

/-! ### The directions evaluated (R76, R77) -/

theorem State.compute_of_evaluated {s : State} {d : Dir} (h : s.evaluated = some d) :
    s.compute = (d, s.dirResult d) := by
  simp only [State.compute, h]

theorem State.compute_both {s : State} (h : s.evaluated = none) :
    s.compute = combine (s.dirResult .up) (s.dirResult .down) := by
  simp only [State.compute, h]

/-- Settles O22: the lowest gradient under the span, then deceleration and distance in integers, then the
shortfall by the cases in which R81 and R86 have curves. -/
theorem targetCurvesTakeTheirGradient : Obligations.TargetCurvesTakeTheirGradient := by
  refine ⟨fun s dir x => ?_, fun s => ⟨fun d moving measured => ?_, fun d still selected => ?_,
    fun still both => ?_⟩⟩
  · intro p low high under effective e brake floor a reaction left
    have gradient (g : Segment) : g.effective dir = effective g := by
      dsimp only [effective]
      cases dir <;> rfl
    refine ⟨State.adverse_of_none_under, fun g lies => ?_, rfl, ?_, ?_⟩
    · have lowest := State.adverse_lowest (s := s) (dir := dir) (p := x.point) lies
      simp only [gradient] at lowest
      exact lowest
    · rw [State.targetCurve, decelerationWithFloor_eq, availableDistance_eq]
      rfl
    · intro meaning beyond any short
      have full (h : meaning) : ¬s.degraded = true := s.not_degraded_iff.mpr h
      have past_iff (h : meaning) : s.beyondLineEnd = true ↔ beyond := State.beyondLineEnd_iff (full h)
      refine ⟨fun h => ?_, fun h within => ?_, fun h up past clear => ?_, fun h _ _ _ => ?_⟩
      · have degraded : s.degraded = true := by_contra fun full => h (s.not_degraded_iff.mp full)
        exact congrArg DirResult.shortfall (State.dirResult_degraded degraded dir)
      · exact State.shortfall_of_curves (full h) (State.curves_of_not_beyond fun ⟨up, past⟩ =>
          within ⟨up, (past_iff h).mp past⟩)
      · subst up
        exact State.shortfall_of_no_curves (full h) (State.curves_beyond ((past_iff h).mpr past) clear)
      · exact (s.curves_cases dir).imp (State.shortfall_of_no_curves (full h))
          (State.shortfall_of_curves (full h))
  · exact State.compute_of_evaluated (by rw [State.evaluated, if_pos moving, measured]; rfl)
  · exact State.compute_of_evaluated (by simp [State.evaluated, still, selected])
  · exact State.compute_both (by simp [State.evaluated, still, both])

end Sys2Proof.Machine
end

section
/-! The targets of a direction, the overrun STOP record, and the permitted speed as the lowest of the ceiling
and the curves (R80 to R86, R96). -/

namespace Sys2Proof.Machine

/-! ### The windows (R82) -/

/-- A point lies ahead of the front of the car for a direction and within the lookahead (R82). -/
def State.Within (s : State) (dir : Dir) (q : Nat) : Prop :=
  distance q (s.front dir) ≤ s.param 18 ∧ if dir = .up then s.front dir ≤ q else q ≤ s.front dir

theorem State.inWindow_iff {s : State} {dir : Dir} {q : Nat} :
    inWindow dir (s.front dir) s.lookahead q = true ↔ s.Within dir q := by
  have lookahead : s.lookahead = s.param 18 := rfl
  cases dir <;> simp [inWindow, State.Within, distance, lookahead] <;> omega

theorem State.inSpeedWindow_iff {s : State} {dir : Dir} {q : Nat} :
    inSpeedWindow dir (s.front dir) s.lookahead q = true ↔ s.Within dir q ∧ q ≠ s.front dir := by
  simp [inSpeedWindow, State.inWindow_iff]

theorem State.inBoundaryWindow_iff {s : State} {dir : Dir} {q : Nat} :
    inBoundaryWindow dir (s.front dir) s.lookahead q = true
      ↔ s.Within dir q ∧ (dir = .up → q ≠ s.front dir) := by
  cases dir <;> simp [inBoundaryWindow, State.inWindow_iff]

/-! ### The targets (R83 to R85) -/

/-- The boundaries stand between each segment and the next one (R10). -/
theorem mem_pairs {l : List (Segment × Nat)} {g h : Segment} :
    (g, h) ∈ pairs l ↔ ∃ k e f, l[k]? = some (g, e) ∧ l[k + 1]? = some (h, f) := by
  induction l using pairs.induct with
  | case1 => simp [pairs]
  | case2 x => simp [pairs]
  | case3 x y rest ih =>
    rw [pairs, List.mem_cons, ih]
    constructor
    · rintro (first | ⟨k, e, f, below, above⟩)
      · obtain ⟨rfl, rfl⟩ := Prod.mk.inj first
        exact ⟨0, x.2, y.2, rfl, rfl⟩
      · exact ⟨k + 1, e, f, below, above⟩
    · rintro ⟨_ | k, e, f, below, above⟩
      · obtain rfl := Option.some.inj below
        obtain rfl := Option.some.inj above
        exact .inl rfl
      · exact .inr ⟨k, e, f, below, above⟩

theorem State.mem_boundaryTargets {s : State} {dir : Dir} {x : Target} :
    x ∈ s.boundaryTargets dir ↔ ∃ k g e h f, s.profile.track[k]? = some (g, e)
      ∧ s.profile.track[k + 1]? = some (h, f) ∧ s.Within dir h.start
      ∧ (dir = .up → h.start ≠ s.front dir)
      ∧ x = ⟨.boundary, h.start, distance h.start (s.front dir),
          if dir = .up then h.limitUp else g.limitDown, none⟩ := by
  simp only [State.boundaryTargets, List.mem_filterMap, Prod.exists, Profile.boundaries, mem_pairs,
    Option.ite_none_right_eq_some, State.inBoundaryWindow_iff, Option.some.injEq]
  constructor
  · rintro ⟨g, h, ⟨k, e, f, below, above⟩, ⟨within, apart⟩, rfl⟩
    exact ⟨k, g, e, h, f, below, above, within, apart, by cases dir <;> rfl⟩
  · rintro ⟨k, g, e, h, f, below, above, within, apart, rfl⟩
    exact ⟨g, h, ⟨k, e, f, below, above⟩, ⟨within, apart⟩, by cases dir <;> rfl⟩

/-- A live record is a target as a SPEED record that does not overlap the car, or as a STOP record
(R84, R85). -/
theorem State.recordTarget_eq_some {s : State} {dir : Dir} {k : Nat} {r : Record} {x : Target} :
    s.recordTarget dir k r = some x ↔
      (∃ v, r.imposes = .speed v ∧ r.dir.appliesTo dir = true
        ∧ ¬(s.odo.position ≤ r.last ∧ r.first ≤ s.odo.position + s.param 3)
        ∧ let q := if dir = .up then r.first else r.last
          s.Within dir q ∧ q ≠ s.front dir ∧ x = ⟨.speedRecord, q, distance q (s.front dir), v, some k⟩)
      ∨ (r.imposes = .stop ∧ r.dir.appliesTo dir = true ∧ s.Within dir r.first
        ∧ x = ⟨.stopRecord, r.first, distance r.first (s.front dir), 0, some k⟩) := by
  have overlaps : (!r.overlapsCar s.odo.position s.carLength) = true
      ↔ ¬(s.odo.position ≤ r.last ∧ r.first ≤ s.odo.position + s.param 3) := by
    have length : s.carLength = s.param 3 := rfl
    rw [Bool.not_eq_true', ← Bool.not_eq_true, Record.overlapsCar, Bool.and_eq_true, length]
    simp only [decide_eq_true_eq]
  unfold State.recordTarget
  cases r.imposes with
  | speed v =>
    simp only [Option.ite_none_right_eq_some, Bool.and_eq_true, overlaps,
      State.inSpeedWindow_iff, Option.some.injEq, Imposes.speed.injEq, exists_eq_left', and_assoc,
      reduceCtorEq, false_and, or_false, @eq_comm Target x]
    cases dir <;> rfl
  | stop =>
    simp only [Option.ite_none_right_eq_some, Bool.and_eq_true, State.inWindow_iff, Option.some.injEq,
      and_assoc, reduceCtorEq, false_and, exists_false, false_or, true_and, @eq_comm Target x]
  | doors => simp

theorem State.mem_recordTargets {s : State} {dir : Dir} {x : Target} :
    x ∈ s.table.live.filterMap (fun y => s.recordTarget dir y.1 y.2) ↔
      ∃ k r, s.table.slots[k]? = some (some r) ∧ s.recordTarget dir k r = some x := by
  simp only [List.mem_filterMap, Prod.exists, Table.mem_live]

theorem State.mem_lineEndTargets {s : State} {dir : Dir} {x : Target} :
    x ∈ s.lineEndTargets dir ↔ ∃ q, (if dir = .up then s.profile.servedLineEnd = some q else q = 0)
      ∧ s.Within dir q ∧ x = ⟨.lineEnd, q, distance q (s.front dir), 0, none⟩ := by
  have member (q : Nat) : x ∈ (if inWindow dir (s.front dir) s.lookahead q then
      [(⟨.lineEnd, q, distance q (s.front dir), 0, none⟩ : Target)] else [])
      ↔ s.Within dir q ∧ x = ⟨.lineEnd, q, distance q (s.front dir), 0, none⟩ := by
    rw [← State.inWindow_iff]
    split <;> simp [*]
  cases dir with
  | up =>
    cases served : s.profile.servedLineEnd with
    | none => simp [State.lineEndTargets, served]
    | some e =>
      simp only [State.lineEndTargets, served, member]
      simp
  | down =>
    simp only [State.lineEndTargets, member]
    simp

/-! ### The overrun STOP record (R86) -/

/-- In a list in ascending order of its numbers, the first entry that meets a test is the one of the lowest
number. -/
theorem find?_eq_some_of_ascending {α : Type} {l : List (Nat × α)}
    (ascending : l.Pairwise fun x y => x.1 < y.1) (test : Nat × α → Bool) (x : Nat × α) :
    l.find? test = some x ↔ x ∈ l ∧ test x = true ∧ ∀ y ∈ l, test y = true → x.1 ≤ y.1 := by
  induction l with
  | nil => simp
  | cons z rest ih =>
    obtain ⟨first, ascending⟩ := List.pairwise_cons.mp ascending
    by_cases meets : test z = true
    · rw [List.find?_cons_of_pos meets, Option.some.injEq]
      constructor
      · rintro rfl
        exact ⟨List.mem_cons_self, meets, fun y member _ => (List.mem_cons.mp member).elim
          (fun same => same ▸ le_refl _) fun later => (first y later).le⟩
      · rintro ⟨member, -, least⟩
        rcases List.mem_cons.mp member with same | later
        · exact same.symm
        · exact absurd (least z List.mem_cons_self meets) (first x later).not_ge
    · rw [List.find?_cons_of_neg meets, ih ascending]
      constructor
      · rintro ⟨member, test, least⟩
        exact ⟨List.mem_cons_of_mem _ member, test, fun y hy meets' =>
          (List.mem_cons.mp hy).elim (fun same => absurd (same ▸ meets') meets) fun later =>
            least y later meets'⟩
      · rintro ⟨member, test, least⟩
        exact ⟨(List.mem_cons.mp member).resolve_left fun same => meets (same ▸ test), test,
          fun y hy => least y (List.mem_cons_of_mem _ hy)⟩

theorem State.overrunBy_iff {s : State} {dir : Dir} {r : Record} :
    s.overrunBy dir r = true ↔ r.imposes = .stop ∧ r.dir.appliesTo dir = true
      ∧ if dir = .up then r.first < s.front dir else s.front dir < r.first := by
  unfold State.overrunBy
  cases r.imposes <;> cases dir <;> simp

theorem State.overrun_eq_some {s : State} {dir : Dir} {k : Nat} {q : Record} :
    s.overrun dir = some (k, q) ↔ s.table.slots[k]? = some (some q) ∧ s.overrunBy dir q = true
      ∧ ∀ j o, s.table.slots[j]? = some (some o) → s.overrunBy dir o = true → k ≤ j := by
  rw [State.overrun, find?_eq_some_of_ascending s.table.live_sorted]
  simp only [Prod.forall, Table.mem_live]

/-! ### The governing target (R96) -/

/-- The key by which R96 orders the targets: the curve, then the distance, the source and the slot. -/
def orderKey (x : Nat × Target) : Nat ×ₗ Nat ×ₗ Nat ×ₗ Nat :=
  toLex (x.1, toLex (x.2.dist, toLex (sourceRank x.2.source, x.2.slot.getD 0)))

theorem takenBefore_iff (x y : Nat × Target) : takenBefore x y = true ↔ orderKey x < orderKey y := by
  simp only [takenBefore, orderKey, Prod.Lex.toLex_lt_toLex]
  grind

theorem orderKey_le_iff {x y : Nat × Target} : orderKey x ≤ orderKey y ↔ x.1 < y.1
    ∨ (x.1 = y.1 ∧ (x.2.dist < y.2.dist ∨ (x.2.dist = y.2.dist
      ∧ (sourceRank x.2.source < sourceRank y.2.source
        ∨ (sourceRank x.2.source = sourceRank y.2.source ∧ x.2.slot.getD 0 ≤ y.2.slot.getD 0))))) := by
  simp only [orderKey, Prod.Lex.toLex_le_toLex]

theorem lowestTarget_eq_none {l : List (Nat × Target)} (h : lowestTarget l = none) : l = [] := by
  cases l with
  | nil => rfl
  | cons x rest =>
    unfold lowestTarget at h
    split at h
    · cases h
    · split at h <;> cases h

/-- The target that governs is one of those given, and none comes before it. -/
theorem lowestTarget_spec {l : List (Nat × Target)} {x : Nat × Target} (h : lowestTarget l = some x) :
    x ∈ l ∧ ∀ y ∈ l, orderKey x ≤ orderKey y := by
  induction l generalizing x with
  | nil => cases h
  | cons z rest ih =>
    unfold lowestTarget at h
    split at h
    · next none_left =>
      obtain rfl := Option.some.inj h
      simp [lowestTarget_eq_none none_left]
    · next w lowest =>
      obtain ⟨member, least⟩ := ih lowest
      split at h
      · next before =>
        obtain rfl := Option.some.inj h
        have first := ((takenBefore_iff _ _).mp before).le
        exact ⟨List.mem_cons_of_mem _ member, List.forall_mem_cons.mpr ⟨first, least⟩⟩
      · next after =>
        obtain rfl := Option.some.inj h
        have first := not_lt.mp (mt (takenBefore_iff _ _).mpr after)
        exact ⟨List.mem_cons_self, List.forall_mem_cons.mpr
          ⟨le_refl _, fun y later => first.trans (least y later)⟩⟩

/-! ### The result of a direction (R80, R81, R86, R96) -/

/-- The finding of a full evaluation is the slot of the overrun STOP record (R86). -/
theorem State.fullResult_finding (s : State) (dir : Dir) :
    (s.fullResult dir).overrun = (s.overrun dir).map Prod.fst := by
  unfold State.fullResult
  cases s.overrun dir with
  | some found => rfl
  | none =>
    dsimp only
    (repeat' split) <;> rfl

/-- A STOP record is overrun: the permitted speed is 0, and either rule names the governing target (R81,
R86; log entry 15). -/
theorem State.fullResult_overrun {s : State} {dir : Dir} {slot : Nat} {q : Record}
    (passed : s.overrun dir = some (slot, q)) :
    (s.fullResult dir).permitted = 0
      ∧ ((s.fullResult dir).governing = some (overrunGoverning slot q)
        ∨ (dir = .up ∧ s.beyondLineEnd = true) ∧ (s.fullResult dir).governing
            = some (beyondGoverning (s.profile.servedLineEnd.getD 0))) := by
  simp only [State.fullResult, passed]
  refine ⟨trivial, ?_⟩
  split
  · next lineEnd => exact .inr ⟨by simp_all, rfl⟩
  · exact .inl rfl

theorem State.fullResult_beyond {s : State} (clear : s.overrun .up = none)
    (beyond : s.beyondLineEnd = true) : s.fullResult .up
      = ⟨0, some (beyondGoverning (s.profile.servedLineEnd.getD 0)), (s.fullResult .up).shortfall,
        none⟩ := by
  simp [State.fullResult, clear, beyond]

section
variable {s : State} {dir : Dir}

/-- With neither, the ceiling stands where no curve lies below it (R96). -/
theorem State.fullResult_ceiling (clear : s.overrun dir = none)
    (within : ¬(dir = .up ∧ s.beyondLineEnd = true))
    (above : ∀ x, lowestTarget (s.curves dir) = some x → s.ceiling dir ≤ x.1) :
    (s.fullResult dir).permitted = s.ceiling dir ∧ (s.fullResult dir).governing = none := by
  have notBeyond : ¬(decide (dir = .up) && s.beyondLineEnd) = true := by simpa using within
  cases lowest : lowestTarget (s.curves dir) with
  | none => simp only [State.fullResult, clear, if_neg notBeyond, lowest, and_self]
  | some x => simp only [State.fullResult, clear, if_neg notBeyond, lowest, if_pos (above x lowest),
      and_self]

/-- Otherwise the lowest curve is the permitted speed, and its target governs (R96). -/
theorem State.fullResult_governed (clear : s.overrun dir = none)
    (within : ¬(dir = .up ∧ s.beyondLineEnd = true)) {x : Nat × Target}
    (lowest : lowestTarget (s.curves dir) = some x) (below : x.1 < s.ceiling dir) :
    (s.fullResult dir).permitted = x.1 ∧ (s.fullResult dir).governing = some x.2.governing := by
  have notBeyond : ¬(decide (dir = .up) && s.beyondLineEnd) = true := by simpa using within
  simp only [State.fullResult, clear, if_neg notBeyond, lowest, if_neg below.not_ge, and_self]

end

/-- A target governs in a direction: its curve lies below the ceiling, and no target comes before it. -/
structure State.Governs (s : State) (dir : Dir) (x : Target) : Prop where
  target : x ∈ s.targets dir
  below : s.targetCurve dir x < s.ceiling dir
  first : ∀ y ∈ s.targets dir, orderKey (s.targetCurve dir x, x) ≤ orderKey (s.targetCurve dir y, y)

/-- The permitted speed is the lowest of the ceiling and the curves (R96). -/
theorem State.fullResult_lowest {s : State} {dir : Dir} (clear : s.overrun dir = none)
    (within : ¬(dir = .up ∧ s.beyondLineEnd = true)) :
    (∀ x ∈ s.targets dir, (s.fullResult dir).permitted ≤ s.targetCurve dir x)
      ∧ (((s.fullResult dir).permitted = s.ceiling dir ∧ (s.fullResult dir).governing = none)
        ∨ ∃ x, s.Governs dir x ∧ (s.fullResult dir).permitted = s.targetCurve dir x
          ∧ (s.fullResult dir).governing = some x.governing) := by
  have curves := State.curves_of_not_beyond within
  cases governing : lowestTarget (s.curves dir) with
  | none =>
    have result := State.fullResult_ceiling clear within fun x some => by simp [governing] at some
    have empty : s.targets dir = [] :=
      List.map_eq_nil_iff.mp (curves.symm.trans (lowestTarget_eq_none governing))
    exact ⟨by simp [empty], .inl result⟩
  | some z =>
    obtain ⟨member, least⟩ := lowestTarget_spec governing
    rw [curves] at member least
    obtain ⟨x, target, rfl⟩ := List.mem_map.mp member
    have first (y : Target) (hy : y ∈ s.targets dir) :
        orderKey (s.targetCurve dir x, x) ≤ orderKey (s.targetCurve dir y, y) :=
      least _ (List.mem_map_of_mem hy)
    have lowest (y : Target) (hy : y ∈ s.targets dir) : s.targetCurve dir x ≤ s.targetCurve dir y :=
      (orderKey_le_iff.mp (first y hy)).elim le_of_lt fun ⟨same, _⟩ => same.le
    rcases Nat.lt_or_ge (s.targetCurve dir x) (s.ceiling dir) with below | above
    · obtain ⟨permitted, governs⟩ := State.fullResult_governed clear within governing below
      exact ⟨permitted ▸ lowest, .inr ⟨x, ⟨target, below, first⟩, permitted, governs⟩⟩
    · obtain ⟨permitted, governs⟩ := State.fullResult_ceiling clear within fun y same =>
        Option.some.inj (governing.symm.trans same) ▸ above
      exact ⟨fun y hy => permitted ▸ above.trans (lowest y hy), .inl ⟨permitted, governs⟩⟩

theorem State.dirResult_permitted_le_ceiling (s : State) (dir : Dir) :
    (s.dirResult dir).permitted ≤ s.ceiling dir := by
  by_cases degraded : s.degraded = true
  · rw [State.dirResult_degraded degraded]
  rw [State.dirResult_full degraded]
  cases overrun : s.overrun dir with
  | some found =>
    obtain ⟨zero, -⟩ := State.fullResult_overrun overrun
    exact zero ▸ Nat.zero_le _
  | none =>
    by_cases beyond : dir = .up ∧ s.beyondLineEnd = true
    · obtain ⟨rfl, past⟩ := beyond
      rw [State.fullResult_beyond overrun past]
      exact Nat.zero_le _
    · obtain ⟨-, ⟨same, -⟩ | ⟨x, governs, same, -⟩⟩ := State.fullResult_lowest overrun beyond
      · exact same.le
      · exact same ▸ governs.below.le

theorem sourceRank_eq (x : TargetSource) :
    sourceRank x = [TargetSource.stopRecord, .lineEnd, .speedRecord, .boundary].idxOf x := by
  cases x <;> rfl

/-- Settles O24: the four kinds of targets, the lowest overrun slot, and the result case by case. -/
theorem permittedSpeedIsTheLowest : Obligations.PermittedSpeedIsTheLowest := by
  intro s dir p front away within boundary speed stop lineEnd passed degraded beyond rank r
  have front_eq : s.front dir = front := by dsimp only [front, p]; cases dir <;> rfl
  have within_eq (q : Nat) : s.Within dir q = within q := by
    rw [State.Within, front_eq]; rfl
  have distance_eq (q : Nat) : distance q front = away q := rfl
  have full (h : ¬degraded) : ¬s.degraded = true := mt s.degraded_iff.mp h
  have result (h : ¬degraded) : s.fullResult dir = r := (State.dirResult_full (full h) dir).symm
  have beyond_iff (h : ¬degraded) (up : dir = .up) :
      s.beyondLineEnd = true ↔ ∃ e, beyond e := by
    rw [State.beyondLineEnd_iff (full h)]
    simp only [beyond, front, up, if_true, true_and]
    rfl
  have served {e : Nat} (h : ¬degraded) (closed : s.profile.lineEnd = some e) :
      s.profile.servedLineEnd.getD 0 = e := by
    rw [Profile.servedLineEnd_of_valid (s.not_degraded_iff.mp (full h)).2, closed]; rfl
  have overrunBy (q : Record) : s.overrunBy dir q = true ↔ passed q := by
    rw [State.overrunBy_iff, front_eq]
  refine ⟨fun x => ?_, fun k q => ?_, s.dirResult_permitted_le_ceiling dir,
    fun h => State.dirResult_degraded (s.degraded_iff.mpr h) dir, fun h slot q overrun => ?_,
    fun h clear => ⟨?_, fun e past => ?_, fun inside => ?_⟩⟩
  · have boundaries : x ∈ s.boundaryTargets dir ↔ boundary x := by
      simp only [State.mem_boundaryTargets, within_eq, distance_eq, front_eq, boundary]
    have recorded : x ∈ s.table.live.filterMap (fun y => s.recordTarget dir y.1 y.2)
        ↔ speed x ∨ stop x := by
      simp only [State.mem_recordTargets, State.recordTarget_eq_some, within_eq, distance_eq, front_eq,
        and_or_left, exists_or, ← exists_and_left, speed, stop, p]
    have ends : x ∈ s.lineEndTargets dir ↔ lineEnd x := by
      simp only [State.mem_lineEndTargets, within_eq, distance_eq, front_eq, lineEnd]
    rw [State.targets, List.mem_append, List.mem_append, boundaries, recorded, ends, or_assoc, or_assoc]
  · simp only [State.overrun_eq_some, overrunBy]
  · obtain ⟨zero, governing⟩ := State.fullResult_overrun overrun
    rw [result h] at zero governing
    refine ⟨zero, by rw [← result h, State.fullResult_finding, overrun]; rfl, governing.imp_right ?_⟩
    rintro ⟨⟨up, past⟩, governing⟩
    obtain ⟨e, isBeyond⟩ := (beyond_iff h up).mp past
    obtain ⟨-, closed, -⟩ := id isBeyond
    exact ⟨e, isBeyond, by rw [governing, served h closed]; rfl⟩
  · rw [← result h, State.fullResult_finding, clear]
    rfl
  · obtain ⟨up, closed, -⟩ := id past
    have ended : s.beyondLineEnd = true := (beyond_iff h up).mpr ⟨e, past⟩
    rw [← result h]
    subst up
    rw [State.fullResult_beyond clear ended, served h closed]
    exact ⟨rfl, rfl⟩
  · obtain ⟨lowest, governing⟩ := State.fullResult_lowest clear fun ⟨up, past⟩ =>
      let ⟨e, isBeyond⟩ := (beyond_iff h up).mp past
      inside e isBeyond
    rw [result h] at lowest governing
    refine ⟨lowest, governing.imp_right ?_⟩
    rintro ⟨x, governs, same, governing⟩
    refine ⟨x, governs.target, same, governs.below, governing, fun y hy => ?_⟩
    have first := orderKey_le_iff.mp (governs.first y hy)
    simp only [sourceRank_eq] at first
    exact first

end Sys2Proof.Machine
end

section
/-! One evaluation against the steps of R101, as the statement writes them out: the causes, the state by
R102's table, the demand, the hand-over to the brake output unit, the ALARM and the flags (R92, R99,
R101 to R104, R112, R113, R118, R119, R129). -/

namespace Sys2Proof.Machine

/-! ### The causes, the state and the demand (R101, R102, R112) -/

theorem Causes.any_eq (c : Causes) : c.any = (c.overspeed || c.overrun || c.rollback || c.pinionSlip
    || c.pinionSensor || c.bandFault || c.loopFault || c.reset || c.doorOpenMoving
    || c.emergencyLine) := by
  simp only [Causes.any, Causes.anyLatched, Causes.anyLive, Bool.or_assoc]

/-- R102's table as one chain of conditions. -/
theorem SupState.next_eq (cause : Bool) (x : Int) (v permitted mi me h : Nat) (st : SupState) :
    st.next cause x v permitted mi me h =
      if st = .emergency then .emergency
      else if cause = true ∨ (me : Int) < x then .emergency
      else if st = .intervention then if v ≤ permitted - h then .normal else .intervention
      else if (mi : Int) < x then .intervention
      else if 0 < x then .warning
      else .normal := by
  cases st <;> simp [SupState.next]

theorem SupState.demand_eq (st : SupState) : st.demand =
    if st = .emergency then ⟨100, true, true⟩
    else if st = .intervention then ⟨100, false, false⟩
    else ⟨0, false, false⟩ := by
  cases st <;> rfl

/-! ### The hand-over to the brake output unit (R118, R119, R129) -/

theorem Brake.takeSupervisor_eq (t : Nat) (st : SupState) (d : Demand) (b : Brake) :
    b.takeSupervisor t st d = Brake.reform t (if st = .emergency
      then { b with supState := st, supDemand := d, lineHold := false, overlap := none, floor := 0 }
      else { b with supState := st, supDemand := d }) := rfl

theorem State.evaluate_brake (s : State) : s.evaluate.brake =
    if s.nextSupState s.judge = s.sup.state then s.brake
    else s.brake.takeSupervisor (s.param 27) (s.nextSupState s.judge) (s.nextSupState s.judge).demand :=
  congrArg State.brake s.evaluate_eq

/-! ### The ALARM (R104, R113) -/

/-- EMERGENCY is not left by an evaluation (R104). -/
theorem State.nextSupState_emergency {s : State} (h : s.sup.state = .emergency) :
    s.nextSupState s.judge = .emergency := by
  have state : s.judge.state = .emergency := h
  rw [State.nextSupState, state, SupState.next_of_emergency]

/-- So the change that hands an ALARM is the entry to EMERGENCY (R113). -/
theorem State.alarms_nextSupState (s : State) : alarms s.sup.state (s.nextSupState s.judge) = true
    ↔ s.nextSupState s.judge ≠ s.sup.state ∧ s.nextSupState s.judge = .emergency := by
  by_cases held : s.sup.state = .emergency
  · simp [State.nextSupState_emergency held, held, alarms]
  · have before : (s.sup.state == .emergency) = false := beq_eq_false_iff_ne.mpr held
    simp only [alarms, before, Bool.false_bne, beq_iff_eq]
    exact ⟨fun enters => ⟨enters ▸ Ne.symm held, enters⟩, And.right⟩

/-- The radio after an evaluation: it has taken the ALARM, with the new state and causes (R113, R186). -/
theorem State.evaluate_radio (s : State) : s.evaluate.radio =
    if s.nextSupState s.judge ≠ s.sup.state ∧ s.nextSupState s.judge = .emergency then
      (State.handAlarm { s with sup := s.evaluate.sup }).radio
    else s.radio := by
  simp only [← State.alarms_nextSupState, State.handAlarm_eq, State.evaluate_eq]
  rfl

/-! ### The flags (R92, R101) -/

theorem State.evaluate_hasFlag_supervision (s : State) : hasFlag s.evaluate.port.flags .supervision
    = (hasFlag s.port.flags .supervision || decide (s.nextSupState s.judge ≠ s.sup.state)) := by
  rw [State.evaluate_eq]
  unfold State.evaluatedFlags
  by_cases kept : s.nextSupState s.judge = s.sup.state <;> dsimp only
  · rw [if_pos kept]
    split <;> simp [hasFlag_setBit, kept]
  · rw [if_neg kept]
    split <;> simp [hasFlag_setBit, kept]

theorem State.evaluate_hasFlag_shortfall (s : State) : hasFlag s.evaluate.port.flags .shortfall
    = (hasFlag s.port.flags .shortfall || (s.judge.shortfall && !s.sup.shortfall)) := by
  have later : hasFlag s.evaluate.port.flags .shortfall = hasFlag (if s.judge.shortfall
      && !s.sup.shortfall then setBit s.port.flags .shortfall else s.port.flags) .shortfall := by
    rw [State.evaluate_eq]
    unfold State.evaluatedFlags
    dsimp only
    split
    · rfl
    · split <;> simp [hasFlag_setBit]
  rw [later]
  split <;> simp_all [hasFlag_setBit]

/-! ### The evaluation timer (R99; log entry 23) -/

theorem exec_evaluationTimerExpiry {s : State} (h : s.resetHeld = false) :
    exec .evaluationTimerExpiry s = .next (if s.sup.evalTimer = none then s else s.evaluate) := by
  refine (State.unlessReset_released _ _ h).trans ?_
  cases s.sup.evalTimer <;> rfl

/-- Settles O42: the steps of `State.evaluate_eq`, each in the form of the statement. -/
theorem evaluationTakesItsSteps : Obligations.EvaluationTakesItsSteps := by
  intro s p r x emergencyMargin interventionMargin causes present next demand handed t
  have any : s.judge.causes.any = present := Causes.any_eq _
  have moves : s.nextSupState s.judge = next := by
    rw [State.nextSupState, SupState.next_eq, any]
    rfl
  have demanded : (if next = p.state then p.demand else next.demand) = demand := by
    rw [SupState.demand_eq]
  refine ⟨exec_evaluationTimerExpiry, ?_, ?_, ?_, ?_, s.evaluate_hasFlag_shortfall,
    fun f h k l => s.evaluate_hasFlag ⟨h, k, l⟩, evaluate_reach s⟩
  · rw [← demanded, ← moves]
    exact congrArg State.sup s.evaluate_eq
  · have unit : t.brake = _ := s.evaluate_brake
    rw [unit, moves]
    by_cases kept : next = p.state
    · rw [if_pos kept, if_pos kept]
    · rw [if_neg kept] at demanded
      rw [if_neg kept, if_neg kept, Brake.takeSupervisor_eq, demanded]
  · rw [← moves]; exact s.evaluate_radio
  · rw [← moves]; exact s.evaluate_hasFlag_supervision

end Sys2Proof.Machine
end

section
/-! EMERGENCY at every command: evaluations never leave it, a reset takes it, and so it ends only where an
EMERGENCY_ACK passes its checks (R102, R104, R109, R115). -/

namespace Sys2Proof.Machine

/-! ### The operations that keep EMERGENCY -/

@[simp] theorem State.setFlagIf_sup (c : Bool) (f : Flag) (s : State) :
    (s.setFlagIf c f).sup = s.sup := by
  cases c <;> rfl

theorem ReachRadio.sup {s t : State} (h : ReachRadio s t) : t.sup = s.sup := by
  unfold ReachRadio at h; rw [h]

@[simp] theorem State.judgeStart_sup (s : State) : s.judgeStart.sup = s.sup := (judgeStart_reach s).sup
@[simp] theorem State.startFrame_sup (s : State) : s.startFrame.sup = s.sup := (startFrame_reach s).sup
@[simp] theorem State.makeReport_sup (s : State) : s.makeReport.sup = s.sup := (makeReport_reach s).sup
@[simp] theorem State.removeFirst_sup (test : QueueEntry → Bool) (r : TxResult) (s : State) :
    (s.removeFirst test r).sup = s.sup := (removeFirst_reach test r s).sup
@[simp] theorem State.removeEntries_sup (test : QueueEntry → Bool) (r : TxResult) (s : State) :
    (s.removeEntries test r).sup = s.sup := (removeEntries_reach test r s).sup

@[simp] theorem State.afterSection_sup (sect : Nat) (s : State) : (s.afterSection sect).sup = s.sup := by
  unfold State.afterSection; split <;> rfl

@[simp] theorem State.enterStandstill_sup (s : State) : s.enterStandstill.sup = s.sup := by
  rw [State.enterStandstill_eq]

@[simp] theorem State.edgeTaken_sup (dir : Dir) (now : Micros) (s : State) :
    (s.edgeTaken dir now).sup = s.sup := rfl

/-- No evaluation leaves EMERGENCY (R104). -/
@[simp] theorem State.evaluate_emergency {s : State} (h : s.sup.state = .emergency) :
    s.evaluate.sup.state = .emergency := by
  rw [State.evaluate_eq]; exact State.nextSupState_emergency h

/-- So what the table engine and the radio do leaves EMERGENCY as it is. -/
theorem Evaluates.emergency {s t : State} (e : Evaluates s t) (h : s.sup.state = .emergency) :
    t.sup.state = .emergency :=
  e.keeps (P := fun u => u.sup.state = .emergency)
    (fun t u (rest : u = _) (k : t.sup.state = .emergency) => by rw [rest]; exact k)
    (fun _ k => State.evaluate_emergency k) h

section
variable {s : State} (h : s.sup.state = .emergency)
include h

@[simp] theorem State.evaluateIf_emergency (c : Bool) : (s.evaluateIf c).sup.state = .emergency :=
  (evaluateIf_evaluates c s).emergency h
@[simp] theorem State.issueRecord_emergency (src : IssueSource) (o : Origin) (b : IssueBody) :
    (s.issueRecord src o b).1.sup.state = .emergency := (issueRecord_evaluates src o b s).emergency h
@[simp] theorem State.revokeSlot_emergency (slot : Nat) : (s.revokeSlot slot).sup.state = .emergency :=
  (revokeSlot_evaluates slot s).emergency h
@[simp] theorem State.minuteExpiry_emergency : s.minuteExpiry.sup.state = .emergency :=
  (minuteExpiry_evaluates s).emergency h
@[simp] theorem State.setLink_emergency (l : LinkStatus) : (s.setLink l).sup.state = .emergency :=
  (setLink_evaluates l s).emergency h
@[simp] theorem State.placeWaiting_emergency : s.placeWaiting.sup.state = .emergency :=
  (placeWaiting_evaluates s).emergency h
@[simp] theorem State.judgeMode_emergency : s.judgeMode.sup.state = .emergency :=
  (judgeMode_evaluates s).emergency h
@[simp] theorem State.lineEvent_emergency : s.lineEvent.sup.state = .emergency :=
  (lineEvent_evaluates s).emergency h
@[simp] theorem State.takeByte_emergency (b : Byte) (e : Bool) :
    (s.takeByte b e).sup.state = .emergency := (takeByte_evaluates b e s).emergency h
@[simp] theorem State.takeLooped_emergency : s.takeLooped.sup.state = .emergency :=
  (takeLooped_evaluates s).emergency h
@[simp] theorem State.loopRest_emergency : s.loopRest.sup.state = .emergency :=
  (loopRest_evaluates s).emergency h
@[simp] theorem State.frameArrives_emergency (d src k : Byte) (body : List Byte) :
    (s.frameArrives d src k body).sup.state = .emergency :=
  (frameArrives_evaluates d src k body s).emergency h
@[simp] theorem State.endTransmission_emergency : s.endTransmission.sup.state = .emergency :=
  (endTransmission_evaluates s).emergency h

@[simp] theorem State.odoFault_emergency (f : OdoFault) : (s.odoFault f).sup.state = .emergency := by
  cases latched : s.odo.latched f with
  | true => rwa [State.odoFault_latched latched]
  | false => rw [State.odoFault_clear latched]; exact State.evaluate_emergency h

@[simp] theorem State.countedEdge_emergency (dir : Dir) (now : Micros) :
    (s.countedEdge dir now).sup.state = .emergency := by
  rw [State.countedEdge_eq]
  dsimp only
  split <;> simp [h]

@[simp] theorem State.pinionStep_emergency (a b : Bool) (now : Micros) :
    (s.pinionStep a b now).sup.state = .emergency := by
  unfold State.pinionStep State.illegalStep
  dsimp only
  split <;> simp [h]

@[simp] theorem State.wheelChange_emergency (level : Bool) :
    (s.wheelChange level).sup.state = .emergency := by
  unfold State.wheelChange State.wheelTurn
  dsimp only
  (repeat' split) <;> simp [h]

@[simp] theorem State.markerChange_emergency (level : Bool) :
    (s.markerChange level).sup.state = .emergency := by
  unfold State.markerChange State.markerPass
  dsimp only
  (repeat' split) <;> simp [h]

@[simp] theorem State.handEmergIn_emergency (asserted : Bool) :
    (s.handEmergIn asserted).sup.state = .emergency := State.evaluate_emergency h

@[simp] theorem State.bandApplyExpiry_emergency : s.bandApplyExpiry.sup.state = .emergency := by
  unfold State.bandApplyExpiry
  dsimp only
  split
  · exact h
  · exact State.evaluate_emergency h

@[simp] theorem State.loopAgreementExpiry_emergency : s.loopAgreementExpiry.sup.state = .emergency := by
  unfold State.loopAgreementExpiry
  dsimp only
  split
  · exact h
  · exact State.evaluate_emergency h

@[simp] theorem State.commitDoors_emergency (x : Doors × Bool) :
    (s.commitDoors x).sup.state = .emergency := by
  unfold State.commitDoors
  dsimp only
  split
  · simp [h]
  · exact State.evaluate_emergency (by simp [h])

@[simp] theorem State.doorEvent_emergency (f : DoorTimes → Door → DoorStep) (id : DoorId) :
    (s.doorEvent f id).sup.state = .emergency := State.commitDoors_emergency h _

@[simp] theorem State.grant_emergency (side : Side) (override : Bool) :
    (s.grant side override).sup.state = .emergency := by
  cases override
  · exact State.commitDoors_emergency h _
  · exact State.commitDoors_emergency (s := s.noteOverride side) h _

end

/-! ### The outcomes of the commands -/

/-- Every next state of an outcome is in EMERGENCY. -/
def StaysInEmergency (r : Result) : Prop := ∀ t, r = .next t → t.sup.state = .emergency

theorem staysInEmergency_next {t : State} (h : t.sup.state = .emergency) : StaysInEmergency (.next t) := by
  rintro _ ⟨⟩; exact h

theorem staysInEmergency_unlessReset {s held : State} {r : Result} (kept : held.sup.state = .emergency)
    (k : s.resetHeld = false → StaysInEmergency r) : StaysInEmergency (s.unlessReset held r) := by
  unfold State.unlessReset
  split
  · exact staysInEmergency_next kept
  · next released => exact k (Bool.eq_false_iff.mpr released)

theorem staysInEmergency_takeSelection {frame : List Byte} {whole : Bool} {s : State} {taken : Result}
    (h : s.sup.state = .emergency) (k : s.resetHeld = false → StaysInEmergency taken) :
    StaysInEmergency (takeSelection frame whole s taken) := by
  refine staysInEmergency_unlessReset h fun released => ?_
  split
  · exact k released
  · exact staysInEmergency_next h

theorem staysInEmergency_hostRequest {code : Byte} {params : List Byte} {s : State} {taken : Result}
    (h : s.sup.state = .emergency) (k : s.resetHeld = false → StaysInEmergency taken) :
    StaysInEmergency (hostRequest code params s taken) :=
  staysInEmergency_takeSelection h k

/-- A command that acts only while RESET is released. -/
theorem staysInEmergency_event {s t : State} (h : s.sup.state = .emergency)
    (k : t.sup.state = .emergency) : StaysInEmergency (s.unlessReset s (.next t)) :=
  staysInEmergency_unlessReset h fun _ => staysInEmergency_next k

theorem execFrameError_staysInEmergency {s : State} (h : s.sup.state = .emergency) (bytes : List Byte)
    (whole : Bool) : StaysInEmergency (execFrameError bytes whole s) := by
  refine staysInEmergency_takeSelection h fun _ => ?_
  (repeat' split) <;> exact staysInEmergency_next h

/-- Of the requests an EMERGENCY_ACK that passes its checks leaves EMERGENCY, and no other (R104). -/
theorem takeRequest_staysInEmergency {s : State} {request : Instr} (h : s.sup.state = .emergency)
    (refused : s.resetHeld = false → request = .emergencyAck → s.ackRefusal ≠ none) :
    StaysInEmergency (s.takeRequest request) := by
  cases request with
  | emergencyAck =>
    refine staysInEmergency_hostRequest h fun released => ?_
    split
    · exact staysInEmergency_next h
    · next accepted => exact absurd accepted (refused released rfl)
  | softReset =>
    refine staysInEmergency_hostRequest h fun _ => ?_
    split
    · exact staysInEmergency_next h
    · exact staysInEmergency_next rfl
  | profileWrite | profileClose | profileClear | profileRead | lockRaise | configRead | recordRead
  | recordFind | tableList | mailboxRead | mailboxRelease | brakeDemand | flagsReadClear | flagsEnable =>
    refine staysInEmergency_hostRequest h fun _ => ?_
    (repeat' split) <;> exact staysInEmergency_next h
  | recordIssue =>
    refine staysInEmergency_hostRequest h fun _ => ?_
    split
    · exact staysInEmergency_next h
    · exact staysInEmergency_next (State.issueRecord_emergency h _ _ _)
  | positionSet | directionSelect | recordRevoke | lossAck | doorRelease | doorOpen
  | doorClose | radioMode | radioSend | radioAbortAll | statusRead =>
    refine staysInEmergency_hostRequest h fun _ => ?_
    (repeat' split) <;> exact staysInEmergency_next (by simp [h])
  | configWrite | doorReset | radioAbort =>
    refine staysInEmergency_hostRequest h fun _ => ?_
    dsimp only
    (repeat' split) <;> exact staysInEmergency_next (by simp [h])
  | _ => exact staysInEmergency_next h

/-- A change of an input leaves EMERGENCY only as the deselection of an EMERGENCY_ACK. -/
theorem execRawInputChange_staysInEmergency {s : State} {input : InputId} {level : Bool} {now : Micros}
    (h : s.sup.state = .emergency)
    (refused : s.Brings (.rawInputChange input level now) .emergencyAck → s.ackRefusal ≠ none) :
    StaysInEmergency (execRawInputChange input level now s) := by
  refine staysInEmergency_unlessReset rfl fun released => ?_
  cases input with
  | pinA | pinB | wheel | marker =>
    dsimp only
    split <;> exact staysInEmergency_next (by simp [h])
  | emergIn | loopSense | bandSense | door | sclk | sdi => exact staysInEmergency_next h
  | select =>
    dsimp only
    unfold State.selectChange State.takeBuffer
    split
    · exact staysInEmergency_next h
    · next low =>
      obtain rfl := Bool.eq_false_iff.mpr low
      split
      · next ready =>
        have receiving : s.port.state = .receiving := by simpa [State.readyHigh] using ready
        split
        · next request read =>
          refine takeRequest_staysInEmergency h fun _ ack => refused ?_
          exact ⟨released, .inr ⟨⟨now, rfl⟩, receiving, ack ▸ read⟩⟩
        · exact execFrameError_staysInEmergency h _ _
      · exact staysInEmergency_next h
  | reset =>
    dsimp only
    split
    · exact staysInEmergency_next rfl
    · exact staysInEmergency_next h

/-- A change of an input of one door. -/
theorem staysInEmergency_doorInput {c : Prop} [Decidable c] {f : DoorTimes → Door → DoorStep}
    {id : DoorId} {s : State} (h : s.sup.state = .emergency) :
    StaysInEmergency (s.unlessReset s (if c then .next s else .next (s.doorEvent f id))) := by
  refine staysInEmergency_unlessReset h fun _ => ?_
  split <;> exact staysInEmergency_next (by simp [h])

/-- Every command but an EMERGENCY_ACK that passes its checks keeps EMERGENCY (R104). -/
theorem exec_staysInEmergency {i : Instr} {s : State} (h : s.sup.state = .emergency)
    (refused : s.Brings i .emergencyAck → s.ackRefusal ≠ none) : StaysInEmergency (exec i s) := by
  cases i with
  | powerOnReset => exact staysInEmergency_next rfl
  | rawInputChange => exact execRawInputChange_staysInEmergency h refused
  | frameError bytes whole => exact execFrameError_staysInEmergency h bytes whole
  | receivedByte source =>
    cases source with
    | modem => exact staysInEmergency_event h (by split <;> simp [h])
    | looped => exact staysInEmergency_event h (by simp [h])
    | sdi => exact staysInEmergency_unlessReset h fun _ => staysInEmergency_next h
  | silenceTimerExpiry =>
    refine staysInEmergency_unlessReset h fun _ => ?_
    split
    · exact staysInEmergency_next (State.lineEvent_emergency (s := s.abortFrame .silence _) h)
    · exact staysInEmergency_next h
  | responseReadout | requestSelectionFirstClock | carrierChange =>
    exact staysInEmergency_unlessReset h fun _ => staysInEmergency_next (by simp [h])
  | doorButtonPress | doorObstruction | doorOpenEnd | doorClosedChange | doorLockedChange =>
    exact staysInEmergency_doorInput h
  | acceptedStep | modeChange | transmissionStart | waitingItemsPlaced | issue | revoke | poll
  | tableQuery | text | linkCheck | frameNotUsed => exact staysInEmergency_event h (by simp [h])
  | protocolBytesIgnored | standstillTimerExpiry | wheelPulse | markerPulse | minuteTimerExpiry
  | evaluationTimerExpiry | emergInAsserted | emergInReleased | loopSenseChange | bandSenseChange
  | rampTimerExpiry | overlapTimerExpiry | bandApplyTimerExpiry | loopAgreementTimerExpiry
  | doorMotionTimerExpiry | doorLockTimerExpiry | linkTimerExpiry | endOfTransmission | loopedFrame
  | reportTimerExpiry => exact staysInEmergency_event h (by split <;> simp [h])
  | _ =>
    rw [← State.takeRequest_eq_exec rfl]
    exact takeRequest_staysInEmergency h fun released ack => refused ⟨released, .inl ack⟩

/-! ### The acknowledgment (R109) -/

/-- What passes the checks of R109, at standstill and without the emergency line. -/
theorem State.ackRefusal_none_iff {s : State} : s.ackRefusal = none ↔
    s.sup.state = .emergency ∧ s.brake.unit = .armed ∧ s.odo.motion = false ∧ s.sup.emergIn = false := by
  unfold State.ackRefusal State.liveCause
  by_cases emergency : s.sup.state = .emergency
  · by_cases armed : s.brake.unit = .armed
    · cases s.odo.motion <;> simp [emergency, armed]
    · simp [armed]
  · simp [emergency]

/-- Settles O13: EMERGENCY stays at every command unless an EMERGENCY_ACK is brought that passes its
checks. -/
theorem emergencyEndsOnlyByAcknowledgment : Obligations.EmergencyEndsOnlyByAcknowledgment := by
  intro i s t he emergency left
  have ⟨brings, accepted⟩ : s.Brings i .emergencyAck ∧ s.ackRefusal = none := by
    by_contra unacknowledged
    exact left (exec_staysInEmergency emergency (not_and.mp unacknowledged) t he)
  obtain ⟨-, armed, still, line⟩ := State.ackRefusal_none_iff.mp accepted
  exact ⟨brings, armed, still, line⟩

end Sys2Proof.Machine
end

section
/-! What follows at the brake output unit from a cause of EMERGENCY: EMERG_IN acts at its assertion and a
supervision at its expiry, each leaving loop and band open with SERVICE at 100 % (R104, R107, R108, R119,
R120, R122, R124, R129 to R132). -/

namespace Sys2Proof.Machine

/-! ### Open loop and band with full SERVICE -/

/-- LOOP and BAND are open, and SERVICE stands at 100 % with no ramp (R119, R123, R125). -/
structure Brake.Opened (b : Brake) : Prop where
  loop : b.loop = false
  band : b.band = false
  service : b.service = 100
  ramp : b.ramp = none

theorem Brake.unwanted_of_emergency {b : Brake} (h : b.supState = .emergency) :
    b.loopWanted = false ∧ b.bandWanted = false := by
  simp [Brake.loopWanted, Brake.bandWanted, h]

theorem Brake.unwanted_of_line {b : Brake} (h : b.emergAsserted = true) :
    b.loopWanted = false ∧ b.bandWanted = false := by
  simp [Brake.loopWanted, Brake.bandWanted, h]

/-- An asserted emergency line makes the merged demand full, whatever the other terms are (R122). -/
theorem Brake.merged_of_line {b : Brake} (line : b.emergAsserted = true) (host : b.hostLevel ≤ 100)
    (level : b.supDemand.level ≤ 100) (floor : b.floor ≤ 100) : b.merged = 100 := by
  have hostTerm : b.hostTerm ≤ 100 := by unfold Brake.hostTerm; split <;> omega
  have lineTerm : b.lineTerm = 100 := by simp [Brake.lineTerm, line]
  have floorTerm : b.floorTerm ≤ 100 := by unfold Brake.floorTerm; split <;> omega
  unfold Brake.merged
  omega

theorem SupState.demand_level_le (st : SupState) : st.demand.level ≤ 100 := by
  cases st <;> decide

/-- A full merged demand with neither output wanted is formed to an opened unit. -/
theorem Brake.reform_opened {b : Brake} (t : Nat) (unwanted : b.loopWanted = false ∧ b.bandWanted = false)
    (merged : b.merged = 100) (service : b.service ≤ 100) : (b.reform t).Opened := by
  obtain ⟨loop, band⟩ := unwanted
  rw [Brake.reform_eq]
  refine ⟨loop, band, ?_, ?_⟩
  · dsimp only
    split
    · rfl
    · rw [merged, max_eq_right service]
  · exact if_neg fun above => by omega

/-- In EMERGENCY a good unit is opened. -/
theorem Brake.Good.opened {b : Brake} (good : b.Good) (h : b.supState = .emergency) : b.Opened := by
  obtain ⟨⟨loop, band⟩, ⟨bound, safe, armed⟩, host, demand, floor, -⟩ := good
  obtain ⟨loopOff, bandOff⟩ := Brake.unwanted_of_emergency h
  have merged : b.merged = 100 := Brake.merged_of_full (by rw [demand, h]; rfl) host floor
  have full : b.service = 100 ∧ b.ramp = none := by
    cases unit : b.unit with
    | safe => exact safe unit
    | armed =>
      obtain ⟨least, ramp⟩ := armed unit
      have service : b.service = 100 := by omega
      exact ⟨service, by simpa [merged, service] using ramp⟩
  obtain ⟨service, ramp⟩ := full
  exact ⟨loop.trans loopOff, band.trans bandOff, service, ramp⟩

/-! ### An evaluation that ends in EMERGENCY (R101, R102, R118) -/

/-- A cause moves an evaluation to EMERGENCY (R102). -/
theorem State.nextSupState_of_cause {s : State} (cause : s.judge.causes.any = true) :
    s.nextSupState s.judge = .emergency := by
  rw [State.nextSupState, cause, SupState.next_of_cause]

/-- A cause that is present when an evaluation begins and is no finding of its own moves it to
EMERGENCY. -/
theorem State.nextSupState_of_handed {s : State} (handed : (s.sup.causes.emergencyLine
      || s.sup.causes.bandFault || s.sup.causes.loopFault) = true) :
    s.nextSupState s.judge = .emergency := by
  refine State.nextSupState_of_cause ?_
  simp only [Bool.or_eq_true] at handed
  obtain (line | band) | loop := handed <;> simp [State.judge, Causes.any_eq, *]

theorem State.evaluate_sup_state (s : State) : s.evaluate.sup.state = s.nextSupState s.judge := by
  rw [State.evaluate_eq]

/-- An evaluation leaves the emergency line as it was handed (R108). -/
theorem State.evaluate_emergencyLine (s : State) :
    s.evaluate.sup.causes.emergencyLine = s.sup.causes.emergencyLine := by
  rw [State.evaluate_eq]; rfl

/-- The unit is handed EMERGENCY where it was not in EMERGENCY before (R118). -/
theorem State.evaluate_brake_emergency {s : State} (next : s.nextSupState s.judge = .emergency) :
    s.evaluate.brake = if s.sup.state = .emergency then s.brake
      else s.brake.takeSupervisor (s.param 27) .emergency .emergency := by
  rw [State.evaluate_brake, next]
  simp only [eq_comm (a := SupState.emergency)]
  rfl

/-- It then opens its outputs, or has them open already (R112, R119, R129). -/
theorem State.evaluate_opened {s : State} (next : s.nextSupState s.judge = .emergency)
    (host : s.brake.hostLevel ≤ 100) (service : s.brake.service ≤ 100)
    (held : s.sup.state = .emergency → s.brake.Opened) : s.evaluate.brake.Opened := by
  rw [State.evaluate_brake_emergency next]
  split
  · next emergency => exact held emergency
  · exact Brake.reform_opened _ (Brake.unwanted_of_emergency rfl)
      (Brake.merged_of_full rfl host (Nat.zero_le _)) service

/-! ### EMERG_IN (R104, R108, R119, R120, R129) -/

/-- The unit at the assertion is opened at once (R119, R120, R122, R129). -/
theorem Brake.Good.takeEmergAsserted_opened {b : Brake} (good : b.Good) (t : Nat) :
    (b.takeEmergAsserted t).Opened := by
  obtain ⟨-, ⟨service, -⟩, host, demand, -⟩ := good
  have level : b.supDemand.level ≤ 100 := demand ▸ SupState.demand_level_le _
  exact Brake.reform_opened t (Brake.unwanted_of_line rfl)
    (Brake.merged_of_line rfl host level (Nat.zero_le _)) service

/-- The release of the line in EMERGENCY closes nothing (R104, R120). -/
theorem Brake.Good.takeEmergReleased_opened {b : Brake} (good : b.Good) (h : b.supState = .emergency)
    (t : Nat) : (b.takeEmergReleased t).Opened := by
  obtain ⟨-, ⟨service, -⟩, host, demand, floor, -⟩ := good
  have level : b.supDemand.level = 100 := by rw [demand, h]; rfl
  exact Brake.reform_opened t (Brake.unwanted_of_emergency h) (Brake.merged_of_full level host floor)
    service

@[simp] theorem Brake.reform_hostLevel (t : Nat) (b : Brake) : (b.reform t).hostLevel = b.hostLevel := by
  rw [Brake.reform_eq]

@[simp] theorem Brake.reform_lineHold (t : Nat) (b : Brake) : (b.reform t).lineHold = b.lineHold := by
  rw [Brake.reform_eq]

/-- The part when the unit has taken a level of EMERG_IN and the supervisor has been handed it, before the
evaluation (R108, R120). -/
def State.emergInTaken (asserted : Bool) (f : Nat → Brake → Brake) (s : State) : State :=
  { s.onBrake f with sup := { s.sup with
      emergIn := asserted, causes := { s.sup.causes with emergencyLine := asserted } } }

theorem exec_emergInAsserted {s : State} (hr : s.resetHeld = false) :
    exec .emergInAsserted s = .next (if s.brake.emergIn.level = true then
      (s.emergInTaken true Brake.takeEmergAsserted).evaluate else s) := by
  refine (State.unlessReset_released _ _ hr).trans ?_
  unfold Brake.emergAsserted
  cases s.brake.emergIn.level <;> rfl

theorem exec_emergInReleased {s : State} (hr : s.resetHeld = false) :
    exec .emergInReleased s = .next (if s.brake.emergIn.level = true then s else
      (s.emergInTaken false Brake.takeEmergReleased).evaluate) := by
  refine (State.unlessReset_released _ _ hr).trans ?_
  unfold Brake.emergAsserted
  cases s.brake.emergIn.level <;> rfl

/-- Settles O46: the assertion opens the outputs before its evaluation, which hands EMERGENCY on where it
enters it; the release finds EMERGENCY, which it does not end. -/
theorem emergencyLineActsAtOnce : Obligations.EmergencyLineActsAtOnce := by
  intro s hr b taken opened assertion release
  have formed {t : State} (outputs : t.brake.Opened) (state : t.sup.state = .emergency) : opened t :=
    ⟨outputs.loop, outputs.band, outputs.service, outputs.ramp, state⟩
  refine ⟨exec_emergInAsserted hr, exec_emergInReleased hr, fun _ good => ?_, fun low good => ?_⟩
  · have next := State.nextSupState_of_handed (s := s.emergInTaken true Brake.takeEmergAsserted) rfl
    have unit := good.takeEmergAsserted_opened s.bandApplyTime
    obtain ⟨-, -, host, -⟩ := good
    refine ⟨formed ?_ ((State.evaluate_sup_state _).trans next), State.evaluate_emergencyLine _, ?_⟩
    · exact State.evaluate_opened next ((Brake.reform_hostLevel _ _).trans_le host) unit.service.le
        fun _ => unit
    · refine (congrArg Brake.lineHold (State.evaluate_brake_emergency next)).trans ?_
      change (if s.sup.state = .emergency then _ else _ : Brake).lineHold = _
      by_cases before : s.sup.state = .emergency
      · rw [if_pos before, decide_eq_true before]; exact Brake.reform_lineHold _ _
      · rw [if_neg before, decide_eq_false before]; exact Brake.reform_lineHold _ _
  · obtain ⟨-, supState, -, -, -, -, -, -, emergIn, line, -⟩ := good.agree
    obtain ⟨-, -, -, -, -, caused⟩ := good.sup
    have present : s.sup.causes.emergencyLine = true := by
      rw [line, emergIn, Brake.emergAsserted, low]; rfl
    have before : s.sup.state = .emergency := caused (by simp [Causes.any_eq, present])
    have next := State.nextSupState_emergency (s := s.emergInTaken false Brake.takeEmergReleased) before
    have unit := good.brake.takeEmergReleased_opened (supState.trans before) s.bandApplyTime
    obtain ⟨-, -, host, -⟩ := good.brake
    refine ⟨formed ?_ ((State.evaluate_sup_state _).trans next), State.evaluate_emergencyLine _⟩
    exact State.evaluate_opened next ((Brake.reform_hostLevel _ _).trans_le host) unit.service.le
      fun _ => unit

/-! ### The two supervisions (R107, R124, R130 to R132) -/

theorem exec_loopSenseChange {s : State} (hr : s.resetHeld = false) (level : Bool) :
    exec (.loopSenseChange level) s = .next (if level = s.brake.loopSense.level then s
      else { s with brake := { s.brake with
        loopSense := .steady level
        loopTimer := if s.brake.loop = level then none else some (s.brake.loopTimer.getD 100) } }) := by
  refine (State.unlessReset_released _ _ hr).trans ?_
  have judged : s.brake.takeLoopSense level = { s.brake with
      loopSense := .steady level
      loopTimer := if s.brake.loop = level then none else some (s.brake.loopTimer.getD 100) } := by
    simp only [Brake.takeLoopSense, Brake.judgeLoop, Brake.loopAgrees, InputLine.accept,
      InputLine.steady, beq_iff_eq]
    split <;> rfl
  rw [← judged]
  rfl

theorem exec_bandSenseChange {s : State} (hr : s.resetHeld = false) (level : Bool) :
    exec (.bandSenseChange level) s = .next (if level = s.brake.bandSense.level then s
      else { s with brake := { s.brake with
        bandSense := .steady level
        bandTimer := if level = true then none else if s.brake.band = true then s.brake.bandTimer
          else some (s.brake.bandTimer.getD (s.param 27)) } }) := by
  refine (State.unlessReset_released _ _ hr).trans ?_
  have driven : s.brake.takeBandSense (s.param 27) level = { s.brake with
      bandSense := .steady level
      bandTimer := if level = true then none else if s.brake.band = true then s.brake.bandTimer
        else some (s.brake.bandTimer.getD (s.param 27)) } := by
    unfold Brake.takeBandSense
    dsimp only
    (repeat' split) <;> rfl
  rw [← driven]
  rfl

/-- The part with BAND_FAULT latched, BRAKE_FAULT set and the cause handed, before the evaluation (R107,
R131). -/
def State.bandFaulted (s : State) : State := { s with
  brake := { s.brake with bandTimer := none, bandFault := true }
  port := { s.port with flags := setBit s.port.flags .brakeFault }
  sup := { s.sup with causes := { s.sup.causes with bandFault := true } } }

/-- The part with LOOP_FAULT latched, BRAKE_FAULT set and the cause handed, before the evaluation (R107,
R132). -/
def State.loopFaulted (s : State) : State := { s with
  brake := { s.brake with loopTimer := none, loopFault := true }
  port := { s.port with flags := setBit s.port.flags .brakeFault }
  sup := { s.sup with causes := { s.sup.causes with loopFault := true } } }

theorem exec_bandApplyTimerExpiry {s : State} (hr : s.resetHeld = false) :
    exec .bandApplyTimerExpiry s = .next (if s.brake.bandTimer = none then s
      else if s.brake.bandFault = true then { s with brake := { s.brake with bandTimer := none } }
      else s.bandFaulted.evaluate) := by
  refine (State.unlessReset_released _ _ hr).trans ?_
  cases s.brake.bandTimer <;> rfl

theorem exec_loopAgreementTimerExpiry {s : State} (hr : s.resetHeld = false) :
    exec .loopAgreementTimerExpiry s = .next (if s.brake.loopTimer = none then s
      else if s.brake.loopFault = true then { s with brake := { s.brake with loopTimer := none } }
      else s.loopFaulted.evaluate) := by
  refine (State.unlessReset_released _ _ hr).trans ?_
  cases s.brake.loopTimer <;> rfl

/-- Settles O47: the operations of the senses and the timers, and the evaluation of a latched fault, which
finds the outputs of a good unit open in EMERGENCY or opens them as it enters it. -/
theorem brakeFeedbackIsSupervised : Obligations.BrakeFeedbackIsSupervised := by
  intro level s hr b opened flagged bandFault loopFault
  refine ⟨exec_loopSenseChange hr level, exec_bandSenseChange hr level, exec_bandApplyTimerExpiry hr,
    exec_loopAgreementTimerExpiry hr, fun good => ?_⟩
  obtain ⟨-, supState, -⟩ := good.agree
  have held (before : s.sup.state = .emergency) : s.brake.Opened :=
    good.brake.opened (supState.trans before)
  obtain ⟨-, ⟨service, -⟩, host, -⟩ := good.brake
  have opens (t : State) (handed : (t.sup.causes.emergencyLine || t.sup.causes.bandFault
      || t.sup.causes.loopFault) = true) (host : t.brake.hostLevel ≤ 100)
      (service : t.brake.service ≤ 100) (held : t.sup.state = .emergency → t.brake.Opened)
      (set : t.port = flagged) : opened t.evaluate := by
    have next := State.nextSupState_of_handed handed
    obtain ⟨loop, band, full, -⟩ := State.evaluate_opened next host service held
    refine ⟨loop, band, full, t.evaluate_sup_state.trans next, ?_⟩
    rw [t.evaluate_hasFlag (by decide), set, hasFlag_setBit]; simp
  exact ⟨opens s.bandFaulted (by simp [State.bandFaulted]) host service
      (fun before => { held before with }) rfl,
    opens s.loopFaulted (by simp [State.loopFaulted]) host service
      (fun before => { held before with }) rfl⟩

end Sys2Proof.Machine
end

section
/-! The ALARM and the spontaneous report at the transmit queue: where each takes its slot, and what an ALARM
displaces (R113, R182, R183, R186, R187, R190, R207). -/

namespace Sys2Proof.Machine

/-! ### The newest entry that meets a test -/

/-- The newest element that meets a test is the first one from the end. -/
theorem reverse_find?_eraseP_of_newest {α : Type} {p : α → Bool} {l : List α} {k : Nat} {a : α}
    (place : l[k]? = some a) (meets : p a = true)
    (newest : ∀ j b, l[j]? = some b → k < j → p b = false) :
    l.reverse.find? p = some a ∧ (l.reverse.eraseP p).reverse = l.eraseIdx k := by
  obtain ⟨inside, rfl⟩ := List.getElem?_eq_some_iff.mp place
  have later : ∀ b ∈ (l.drop (k + 1)).reverse, ¬p b = true := by
    intro b hb
    obtain ⟨j, hj, rfl⟩ := List.mem_drop_iff_getElem.mp (List.mem_reverse.mp hb)
    simp [newest _ _ (List.getElem?_eq_getElem (by omega)) (by omega : k < k + 1 + j)]
  have parts : l.reverse = (l.drop (k + 1)).reverse ++ l[k] :: (l.take k).reverse := by
    conv_lhs => rw [← List.take_append_drop k l, List.drop_eq_getElem_cons inside]
    simp
  constructor
  · rw [parts, List.find?_append, List.find?_eq_none.mpr later, Option.none_or,
      List.find?_cons_of_pos meets]
  · rw [parts, List.eraseP_append_right _ later, List.eraseP_cons_of_pos meets,
      List.eraseIdx_eq_take_drop_succ]
    simp

theorem State.removeNewest_eq {s : State} {test : QueueEntry → Bool} {k : Nat} {e : QueueEntry}
    (result : TxResult) (place : s.radio.queue[k]? = some e) (meets : test e = true)
    (newest : ∀ j q, s.radio.queue[j]? = some q → k < j → test q = false) :
    s.removeNewest test result
      = (s.onRadio fun r => { r with queue := r.queue.eraseIdx k }).reportLeaving result e := by
  obtain ⟨found, left⟩ := reverse_find?_eraseP_of_newest place meets newest
  rw [State.removeNewest, found]
  simp only [State.onRadio, left]

/-! ### The ALARM (R186) -/

theorem LinkMode.places_iff {m : LinkMode} : m.places = true ↔ m = .normal ∨ m = .selftest := by
  cases m <;> simp [LinkMode.places]

theorem Radio.hasRoom_iff {r : Radio} : r.hasRoom = true ↔ r.queue.length < 6 :=
  decide_eq_true_iff

theorem QueueEntry.displaceable_iff {e : QueueEntry} :
    e.displaceable = true ↔ e.started = false ∧ e.priority ≤ 1 := by
  simp [QueueEntry.displaceable]

theorem QueueEntry.displaceable_eq_false_iff {e : QueueEntry} :
    e.displaceable = false ↔ e.started = true ∨ 1 < e.priority := by
  rw [← Bool.not_eq_true, QueueEntry.displaceable_iff, not_and_or, Bool.not_eq_false, Nat.not_le]

theorem State.handAlarm_dropped {s : State} (places : ¬s.radio.current.places = true) :
    s.handAlarm = s := by
  simp [State.handAlarm, places]

theorem State.handAlarm_placed {s : State} (places : s.radio.current.places = true)
    (room : s.radio.hasRoom = true) :
    s.handAlarm = (s.onRadio (Radio.placeAlarm s.alarmBody)).judgeStart := by
  simp [State.handAlarm, places, room]

/-- Without a free slot the newest unsent entry of priority 0 or 1 gives way, with its report (R190). -/
theorem State.handAlarm_displacing {s : State} {k : Nat} {e : QueueEntry}
    (places : s.radio.current.places = true) (full : ¬s.radio.hasRoom = true)
    (place : s.radio.queue[k]? = some e) (gives : e.displaceable = true)
    (newest : ∀ j q, s.radio.queue[j]? = some q → k < j → q.displaceable = false) :
    s.handAlarm = (((s.onRadio fun r => { r with queue := r.queue.eraseIdx k }).reportLeaving
      .displaced e).onRadio (Radio.placeAlarm s.alarmBody)).judgeStart := by
  have any : s.radio.queue.any QueueEntry.displaceable = true :=
    List.any_eq_true.mpr ⟨e, List.mem_of_getElem? place, gives⟩
  simp [State.handAlarm, places, full, any, State.removeNewest_eq _ place gives newest]

theorem State.handAlarm_latched {s : State} (places : s.radio.current.places = true)
    (full : ¬s.radio.hasRoom = true) (none_gives : ∀ e ∈ s.radio.queue, e.displaceable = false) :
    s.handAlarm = s.onRadio fun r => { r with pendingAlarm := some s.alarmBody } := by
  have any : s.radio.queue.any QueueEntry.displaceable = false :=
    List.any_eq_false.mpr fun e he => by simp [none_gives e he]
  simp [State.handAlarm, places, full, any]

/-! ### The report timer (R187; log entry 23) -/

/-- A report refreshes the one that waits, or takes a free slot; without one it is dropped (R187). -/
theorem State.makeReport_eq (s : State) : s.makeReport =
    if ¬(s.radio.current = .normal ∨ s.radio.current = .selftest) then s
    else if s.radio.queue.any QueueEntry.unsentReport = true then
      s.onRadio fun r => { r with queue := r.queue.map fun e =>
        if e.unsentReport = true then { e with body := s.positionReport } else e }
    else if s.radio.queue.length < 6 then
      (s.onRadio (Radio.place kindPositionReport 1 .part 0 s.positionReport true)).judgeStart
    else s := by
  simp only [← LinkMode.places_iff, ← Radio.hasRoom_iff, Bool.not_eq_true, ← Bool.not_eq_true']
  rfl

theorem exec_reportTimerExpiry {s : State} (hr : s.resetHeld = false) :
    exec .reportTimerExpiry s = .next (if s.radio.reportTimer = none then s
      else (s.onRadio fun r => { r with reportTimer := reportTimerOf (s.param 32) }).makeReport) := by
  refine (State.unlessReset_released _ _ hr).trans ?_
  cases s.radio.reportTimer <;> rfl

/-- Settles O54: the cases of the ALARM exclude each other, and the report is refreshed where one waits. -/
theorem alarmsAndReportsTakeTheirSlots : Obligations.AlarmsAndReportsTakeTheirSlots := by
  intro s r places begin room c body alarm report timer waits next
  have mode : r.current.places = true ↔ places := LinkMode.places_iff
  have free : r.hasRoom = true ↔ room := Radio.hasRoom_iff
  refine ⟨fun silent => ?_, fun sends fits => ?_, fun k e sends full place unsent low newest => ?_,
    fun sends full kept => ?_, fun hr => ?_⟩
  · exact State.handAlarm_dropped (mode.not.mpr silent)
  · exact (State.handAlarm_placed (mode.mpr sends) (free.mpr fits)).trans (State.judgeStart_eq_ite _)
  · refine (State.handAlarm_displacing (mode.mpr sends) (free.not.mpr full) place
      (QueueEntry.displaceable_iff.mpr ⟨unsent, low⟩) fun j q at_j after =>
        QueueEntry.displaceable_eq_false_iff.mpr (newest j q at_j after)).trans ?_
    rw [State.judgeStart_eq_ite, State.reportLeaving]
    cases e.origin <;> rfl
  · exact State.handAlarm_latched (mode.mpr sends) (free.not.mpr full) fun e he =>
      QueueEntry.displaceable_eq_false_iff.mpr (kept e he)
  · have carried : s.positionReport = report := by rw [State.positionReport, Table.count_eq]
    rw [exec_reportTimerExpiry hr, State.makeReport_eq, State.judgeStart_eq_ite, ← carried]
    rfl

end Sys2Proof.Machine
end

section
/-! BRAKE_DEMAND, the ramp, the overlap and the handover (R116, R118, R119, R121 to R123, R125 to R128, R130,
R132). -/

namespace Sys2Proof.Machine

/-! ### BRAKE_DEMAND (R121) -/

/-- A release code is refused above 1, and otherwise says whether the host releases the band (R121). -/
theorem yesNoOfCode_eq (b : Byte) :
    yesNoOfCode b = if 1 < b.toNat then none else some (decide (b.toNat = 1)) := by
  unfold yesNoOfCode
  split
  · next zero => simp [zero]
  · next one => simp [one]
  · next zero one =>
    simp only [imp_false] at zero one
    rw [if_pos (by omega)]

/-- A release that is not refused is shown by its own code. -/
theorem bool_of_release {release : Byte} (allowed : ¬1 < release.toNat) :
    Machine.bool (decide (release.toNat = 1)) = [release] := by
  obtain zero | one : release.toNat = 0 ∨ release.toNat = 1 := by omega
  · rw [BitVec.eq_of_toNat_eq (x := release) (y := 0#8) zero]; rfl
  · rw [BitVec.eq_of_toNat_eq (x := release) (y := 1#8) one]; rfl

/-- The demand that an accepted BRAKE_DEMAND has stored. -/
theorem Brake.takeDemand_stored (t level : Nat) (release : Bool) (b : Brake) :
    (b.takeDemand t level release).stored = u8 level ++ Machine.bool release := by
  rw [Brake.takeDemand, Brake.reform_eq]; rfl

theorem exec_brakeDemand {level release : Byte} {s : State} (h : s.Takes (.brakeDemand level release)) :
    exec (.brakeDemand level release) s = .next (
      if 1 < release.toNat then
        s.answers (.brakeDemand level release) .badValue
          (u8 s.brake.hostLevel ++ Machine.bool s.brake.hostRelease)
      else (s.onBrake fun t b => b.takeDemand t (min level.toNat 100)
          (decide (release.toNat = 1))).answers (.brakeDemand level release)
        (if 100 < level.toNat then .okClamped else .ok) (u8 (min level.toNat 100) ++ [release])) := by
  refine (hostRequest_taken _ h).trans ?_
  by_cases refused : 1 < release.toNat
  · rw [yesNoOfCode_eq, if_pos refused, if_pos refused]; rfl
  · rw [yesNoOfCode_eq, if_neg refused, if_neg refused]
    simp only [State.onBrake, Brake.takeDemand_stored, bool_of_release refused]
    rfl

/-- Settles O44: the command, and then `Brake.reform_eq` with the conditions written out. -/
theorem brakeDemandFormsTheOutputs : Obligations.BrakeDemandFormsTheOutputs := by
  refine ⟨?_, ?_⟩
  · intro level release s i h b stored
    rw [exec_brakeDemand h]
    rfl
  · intro t b line merged loop band
    have lineTerm : b.lineTerm = if line ∨ b.lineHold = true then 100 else 0 := by
      simp [Brake.lineTerm, Brake.emergAsserted, line]
    have mergedEq : b.merged = merged := by rw [Brake.merged, lineTerm]; rfl
    have loopEq : b.loopWanted = loop := by
      rw [Bool.eq_iff_iff]
      simp [Brake.loopWanted, Brake.emergAsserted, loop, line, and_assoc]
    have bandEq : b.bandWanted = band := by
      rw [Bool.eq_iff_iff]
      simp [Brake.bandWanted, Brake.emergAsserted, band, line, and_assoc]
    rw [Brake.reform_eq, mergedEq, loopEq, bandEq]
    cases b.unit <;> rfl

/-! ### The ramp and the overlap (R123, R127, R128) -/

theorem exec_rampTimerExpiry {s : State} (hr : s.resetHeld = false) :
    exec .rampTimerExpiry s = .next (if s.brake.ramp.isSome then
      s.onBrake fun _ b => b.rampStep (s.param 26) else s) :=
  State.unlessReset_released _ _ hr

theorem exec_overlapTimerExpiry {s : State} (hr : s.resetHeld = false) :
    exec .overlapTimerExpiry s = .next (if s.brake.overlap.isSome then
      s.onBrake fun t b => b.endOverlap.reform t else s) :=
  State.unlessReset_released _ _ hr

/-- A ramp step goes on above the merged demand, and ends there (R123). -/
theorem Brake.rampStep_eq (rate : Nat) (b : Brake) : b.rampStep rate =
    if b.merged < b.service - rate then { b with service := b.service - rate, ramp := some 100 }
    else { b with service := b.merged, ramp := none } := by
  by_cases above : b.merged < b.service - rate
  · simp [Brake.rampStep, above, max_eq_right above.le, Config.rampPeriod]
  · simp [Brake.rampStep, above, max_eq_left (not_lt.mp above)]

/-! ### The handover (R126, R127) -/

/-- The overlap time of a code: three ranges of it, each with its own step (R127). -/
theorem overlapTime_eq (code : Nat) : overlapTime code = if code < 100 then 20 * code
    else if code < 180 then 2000 + 50 * (code - 100) else 6000 + 100 * (code - 180) := by
  unfold overlapTime
  simp only [Nat.mul_comm]

theorem overlapTime_eq_zero {code : Nat} : overlapTime code = 0 ↔ code = 0 := by
  unfold overlapTime
  split
  · omega
  · split <;> omega

theorem Brake.handoverStarts_iff {fade v : Nat} {b : Brake} : b.handoverStarts fade v = true ↔
    v < fade ∧ fade ≤ b.speed ∧ b.motion = true ∧ 0 < b.service ∧ b.band = true := by
  simp only [Brake.handoverStarts, Bool.and_eq_true, decide_eq_true_iff, and_assoc]

/-- The unit that takes a speed: the handover, with an overlap unless its time is 0, and the outputs
formed after it. -/
theorem Brake.takeSpeed_eq (t fade code v : Nat) (b : Brake) :
    b.takeSpeed t fade (overlapTime code) v = Brake.reform t (
      if v < fade ∧ fade ≤ b.speed ∧ b.motion = true ∧ 0 < b.service ∧ b.band = true then
        if code = 0 then { b with speed := v, hold := true, overlap := none, floor := 0 }
        else { b with
          speed := v, hold := true, overlap := some (overlapTime code), floor := b.service }
      else { b with speed := v }) := by
  simp only [Brake.takeSpeed, Brake.handoverStarts_iff, overlapTime_eq_zero]
  split
  · split <;> rfl
  · rfl

/-- Settles O45: the ramp step in its two cases, the end of the overlap, and the handover. -/
theorem handoverAndRampMoveTheService : Obligations.HandoverAndRampMoveTheService := by
  refine ⟨?_, ?_, ?_⟩
  · intro s hr b lower
    rw [exec_rampTimerExpiry hr]
    simp only [State.onBrake, Brake.rampStep_eq]
    by_cases above : s.brake.merged < s.brake.service - s.param 26
    · rw [if_pos above, if_pos above]
      cases b.ramp <;> rfl
    · rw [if_neg above, if_neg above]
      cases b.ramp <;> rfl
  · intro s hr
    rw [exec_overlapTimerExpiry hr]
    cases s.brake.overlap <;> rfl
  · intro v s b fade code time
    have span : overlapTime code = time := overlapTime_eq code
    rw [State.handSpeed, State.onBrake, Brake.takeSpeed_eq, ← span]
    rfl

end Sys2Proof.Machine
end

section
/-! The brake output unit stays good at every one of its operations: whatever an operation changes, the
outputs are formed anew after it, and the forming makes a good unit of one that is ready for it (R116,
R119 to R123, R125, R127 to R130, R132, R133, R135). -/

namespace Sys2Proof.Machine

/-! ### The forming of the outputs -/

/-- A unit whose outputs are to be formed: what `Brake.Good` says of it beside the forms of the outputs. -/
structure Brake.Formable (b : Brake) : Prop where
  service : b.service ≤ 100
  host : b.hostLevel ≤ 100
  demand : b.supDemand = b.supState.demand
  floor : b.floor ≤ 100
  floorStops : b.overlap = none → b.floor = 0
  overlapHolds : b.overlap.isSome → b.hold = true
  holdMoves : b.hold = true → b.motion = true
  bandTimer : b.bandTimer.isSome → b.band = false ∧ b.bandSense.level = false
  loopTimer : b.loopTimer.isSome → b.loopAgrees = false

theorem Brake.Good.formable {b : Brake} (h : b.Good) : b.Formable := by
  obtain ⟨-, ⟨service, -⟩, host, demand, floor, floorStops, overlapHolds, holdMoves, band, loop⟩ := h
  exact ⟨service, host, demand, floor, floorStops, overlapHolds, holdMoves, band, loop⟩

/-- No term of the merged demand is above 100 % (R122). -/
theorem Brake.Formable.merged_le {b : Brake} (h : b.Formable) : b.merged ≤ 100 := by
  have host := h.host
  have floor := h.floor
  have level : b.supDemand.level ≤ 100 := h.demand ▸ SupState.demand_level_le _
  have hostTerm : b.hostTerm ≤ 100 := by unfold Brake.hostTerm; split <;> omega
  have lineTerm : b.lineTerm ≤ 100 := by unfold Brake.lineTerm; split <;> omega
  have floorTerm : b.floorTerm ≤ 100 := by unfold Brake.floorTerm; split <;> omega
  unfold Brake.merged
  omega

theorem Brake.reform_merged (t : Nat) (b : Brake) : (b.reform t).merged = b.merged := by
  rw [Brake.reform_eq]; rfl

/-- The forming brings SERVICE to its place above the merged demand, with the ramp (R116, R123). -/
theorem Brake.Formable.reform_service {b : Brake} (h : b.Formable) (t : Nat) :
    (b.reform t).ServiceFormed := by
  have service := h.service
  have merged := h.merged_le
  rw [Brake.ServiceFormed, Brake.reform_merged, Brake.reform_eq]
  cases unit : b.unit with
  | safe => simp
  | armed =>
    refine ⟨?_, by simp, fun _ => ⟨?_, ?_⟩⟩ <;> dsimp only
    · simp; omega
    · simp
    · by_cases above : b.merged < b.service <;> simp [above]

/-- A band apply time runs after the forming only with the band de-energized and not yet felt (R130). -/
theorem Brake.Formable.reform_bandTimer {b : Brake} (h : b.Formable) (t : Nat)
    (running : (b.reform t).bandTimer.isSome) :
    (b.reform t).band = false ∧ (b.reform t).bandSense.level = false := by
  have before := h.bandTimer
  rw [Brake.reform_eq] at running ⊢
  dsimp only at running ⊢
  split at running
  · next kept => rw [kept]; exact before running
  · split at running
    · simp at running
    · next off =>
      refine ⟨Bool.eq_false_iff.mpr off, ?_⟩
      split at running
      · exact (before running).2
      · next unfelt => exact Bool.eq_false_iff.mpr unfelt

/-- A loop agreement time runs after the forming only with a loop that disagrees (R132). -/
theorem Brake.Formable.reform_loopTimer {b : Brake} (h : b.Formable) (t : Nat)
    (running : (b.reform t).loopTimer.isSome) : (b.reform t).loopAgrees = false := by
  have before := h.loopTimer
  rw [Brake.loopAgrees] at before ⊢
  rw [Brake.reform_eq] at running ⊢
  dsimp only at running ⊢
  split at running
  · next kept => rw [kept]; exact before running
  · split at running
    · simp at running
    · next apart => exact beq_eq_false_iff_ne.mpr apart

/-- The forming makes a good unit. -/
theorem Brake.Formable.reform {b : Brake} (h : b.Formable) (t : Nat) : (b.reform t).Good := by
  refine ⟨b.reform_switches t, h.reform_service t, ?_, ?_, ?_, ?_, ?_, ?_, h.reform_bandTimer t,
    h.reform_loopTimer t⟩
  all_goals rw [Brake.reform_eq]
  · exact h.host
  · exact h.demand
  · exact h.floor
  · exact h.floorStops
  · exact h.overlapHolds
  · exact h.holdMoves

/-! ### What is handed to the unit -/

section
variable {b : Brake} (h : b.Good)
include h

/-- The end of an overlap leaves a unit to be formed (R128, R129). -/
theorem Brake.Good.endOverlap : b.endOverlap.Formable :=
  { h.formable with
    floor := Nat.zero_le _, floorStops := fun _ => rfl, overlapHolds := fun running => by cases running }

/-- A supervisor hands its state with that state's demand (R112, R118). -/
theorem Brake.Good.takeSupervisor (t : Nat) (st : SupState) : (b.takeSupervisor t st st.demand).Good := by
  rw [Brake.takeSupervisor_eq]
  refine Brake.Formable.reform ?_ t
  split
  · exact { h.endOverlap with demand := rfl }
  · exact { h.formable with demand := rfl }

theorem Brake.Good.takeSecure (t : Nat) (secure : Bool) : (b.takeSecure t secure).Good := by
  refine Brake.Formable.reform ?_ t
  exact { h.formable with }

theorem Brake.Good.takeMotion (t : Nat) (motion : Bool) : (b.takeMotion t motion).Good := by
  cases motion <;> refine Brake.Formable.reform ?_ t
  · exact { h.endOverlap with
      overlapHolds := fun running => by cases running
      holdMoves := fun holds => by cases holds }
  · exact { h.formable with holdMoves := fun _ => rfl }

/-- A handed speed starts a handover only in MOTION, with SERVICE as the floor (R126, R127). -/
theorem Brake.Good.takeSpeed (t fade overlapMs v : Nat) : (b.takeSpeed t fade overlapMs v).Good := by
  unfold Brake.takeSpeed
  split
  · next starts =>
    obtain ⟨-, -, motion, -⟩ := Brake.handoverStarts_iff.mp starts
    split <;> refine Brake.Formable.reform ?_ t
    · exact { h.endOverlap with overlapHolds := fun _ => rfl, holdMoves := fun _ => motion }
    · exact { h.formable with
        floor := h.formable.service, floorStops := fun stopped => by cases stopped
        overlapHolds := fun _ => rfl, holdMoves := fun _ => motion }
  · refine Brake.Formable.reform ?_ t
    exact { h.formable with }

theorem Brake.Good.takeEmergAsserted (t : Nat) : (b.takeEmergAsserted t).Good := by
  refine Brake.Formable.reform ?_ t
  exact { h.endOverlap with }

theorem Brake.Good.takeEmergReleased (t : Nat) : (b.takeEmergReleased t).Good := by
  refine Brake.Formable.reform ?_ t
  exact { h.formable with }

theorem Brake.Good.takeDemand (t : Nat) {level : Nat} (bound : level ≤ 100) (release : Bool) :
    (b.takeDemand t level release).Good := by
  refine Brake.Formable.reform ?_ t
  exact { h.formable with host := bound }

/-- The acknowledgment judges both supervisions afresh (R133). -/
theorem Brake.Good.takeAck (t : Nat) : (b.takeAck t).Good := by
  have before := h.formable
  rw [Brake.takeAck_eq]
  refine Brake.Formable.reform ?_ t
  refine { before with bandTimer := ?_, loopTimer := ?_ }
  · dsimp only
    split
    · next applying => exact fun _ => applying
    · exact before.bandTimer
  · dsimp only
    split
    · exact before.loopTimer
    · next apart => exact fun _ => beq_eq_false_iff_ne.mpr apart

theorem Brake.Good.arm (t : Nat) : (b.arm t).Good := by
  refine Brake.Formable.reform ?_ t
  exact { h.formable with }

theorem Brake.Good.overlapEnds (t : Nat) : (b.endOverlap.reform t).Good := h.endOverlap.reform t

/-! ### The ramp, the senses and the timers -/

/-- A ramp runs only in an ARMED unit, and its steps stop at the merged demand (R116, R123). -/
theorem Brake.Good.rampStep (rate : Nat) (running : b.ramp.isSome) : (b.rampStep rate).Good := by
  have least := h.formable.merged_le
  obtain ⟨switches, ⟨service, safe, armed⟩, rest⟩ := h
  have unit : b.unit = .armed := by
    cases unit : b.unit with
    | safe => rw [(safe unit).2] at running; cases running
    | armed => rfl
  have never {p : Prop} (other : b.unit = .safe) : p := UnitState.noConfusion (unit.symm.trans other)
  rw [Brake.rampStep_eq]
  split
  · next above =>
    refine ⟨switches, ⟨?_, fun other => never other, fun _ => ⟨above.le, iff_of_true rfl above⟩⟩, rest⟩
    dsimp only
    omega
  · exact ⟨switches, ⟨least, fun other => never other,
      fun _ => ⟨le_refl _, iff_of_false (by simp) (lt_irrefl _)⟩⟩, rest⟩

theorem Brake.Good.takeBandSense (t : Nat) (level : Bool) : (b.takeBandSense t level).Good := by
  obtain ⟨switches, service, host, demand, floor, floorStops, overlapHolds, holdMoves, band, loop⟩ := h
  unfold Brake.takeBandSense
  dsimp only
  split
  · exact ⟨switches, service, host, demand, floor, floorStops, overlapHolds, holdMoves, by simp, loop⟩
  · next low =>
    have unfelt : level = false := Bool.eq_false_iff.mpr low
    split
    · next released =>
      refine ⟨switches, service, host, demand, floor, floorStops, overlapHolds, holdMoves, ?_, loop⟩
      exact fun running => ⟨(band running).1, unfelt⟩
    · next off =>
      refine ⟨switches, service, host, demand, floor, floorStops, overlapHolds, holdMoves, ?_, loop⟩
      exact fun _ => ⟨Bool.eq_false_iff.mpr off, unfelt⟩

theorem Brake.Good.takeLoopSense (level : Bool) : (b.takeLoopSense level).Good := by
  obtain ⟨switches, service, host, demand, floor, floorStops, overlapHolds, holdMoves, band, -⟩ := h
  unfold Brake.takeLoopSense Brake.judgeLoop
  split
  · exact ⟨switches, service, host, demand, floor, floorStops, overlapHolds, holdMoves, band, by simp⟩
  · next apart =>
    exact ⟨switches, service, host, demand, floor, floorStops, overlapHolds, holdMoves, band,
      fun _ => Bool.eq_false_iff.mpr apart⟩

/-- A band apply timer that has expired, with or without its fault (R131). -/
theorem Brake.Good.bandTimerStopped (fault : Bool) :
    ({ b with bandTimer := none, bandFault := fault } : Brake).Good := by
  obtain ⟨switches, service, host, demand, floor, floorStops, overlapHolds, holdMoves, -, loop⟩ := h
  exact ⟨switches, service, host, demand, floor, floorStops, overlapHolds, holdMoves, by simp, loop⟩

/-- A loop agreement timer that has expired, with or without its fault (R132). -/
theorem Brake.Good.loopTimerStopped (fault : Bool) :
    ({ b with loopTimer := none, loopFault := fault } : Brake).Good := by
  obtain ⟨switches, service, host, demand, floor, floorStops, overlapHolds, holdMoves, band, -⟩ := h
  exact ⟨switches, service, host, demand, floor, floorStops, overlapHolds, holdMoves, band, by simp⟩

end

/-- The unit after either reset is good (R135). -/
theorem Brake.afterReset_good (t : Nat) (unit : UnitState) (secure : Bool)
    (emergIn loopSense bandSense : InputLine) :
    (Brake.afterReset t unit secure emergIn loopSense bandSense).Good := by
  have merged : (Brake.afterReset t unit secure emergIn loopSense bandSense).merged = 100 :=
    Brake.merged_of_full rfl (le_refl _) (Nat.zero_le _)
  obtain ⟨loop, band⟩ := Brake.unwanted_of_emergency
    (b := Brake.afterReset t unit secure emergIn loopSense bandSense) rfl
  refine ⟨⟨loop.symm, band.symm⟩, ⟨le_refl _, fun _ => ⟨rfl, rfl⟩, fun _ => ?_⟩, le_refl _, rfl,
    Nat.zero_le _, fun _ => rfl, fun running => (by cases running), fun holds => (by cases holds), ?_, ?_⟩
  · rw [merged]; exact ⟨le_refl _, iff_of_false (by simp [Brake.afterReset]) (lt_irrefl _)⟩
  · cases level : bandSense.level <;> simp [Brake.afterReset, level]
  · cases level : loopSense.level <;> simp [Brake.afterReset, Brake.loopAgrees, level]

/-- A raw change of a line leaves its filtered level, which is all that the unit reads (R117). -/
theorem Brake.Good.withLines {b : Brake} (h : b.Good) {emergIn loopSense bandSense : InputLine}
    (emergInLevel : emergIn.level = b.emergIn.level) (loopLevel : loopSense.level = b.loopSense.level)
    (bandLevel : bandSense.level = b.bandSense.level) :
    ({ b with emergIn := emergIn, loopSense := loopSense, bandSense := bandSense } : Brake).Good := by
  obtain ⟨⟨loop, band⟩, ⟨full, safe, armed⟩, host, demand, floor, floorStops, overlapHolds, holdMoves,
    bandTimer, loopTimer⟩ := h
  have merged : ({ b with emergIn := emergIn, loopSense := loopSense, bandSense := bandSense } : Brake).merged
      = b.merged := by
    have line : ({ b with
        emergIn := emergIn, loopSense := loopSense, bandSense := bandSense } : Brake).lineTerm
        = b.lineTerm := by
      have asserted : ({ b with emergIn := emergIn, loopSense := loopSense, bandSense := bandSense } :
          Brake).emergAsserted = b.emergAsserted := congrArg not emergInLevel
      unfold Brake.lineTerm
      rw [asserted]
    unfold Brake.merged
    rw [line]
    rfl
  refine ⟨⟨?_, ?_⟩, ⟨full, safe, ?_⟩, host, demand, floor, floorStops, overlapHolds, holdMoves, ?_, ?_⟩
  · simpa only [Brake.loopWanted, Brake.emergAsserted, emergInLevel] using loop
  · simpa only [Brake.bandWanted, Brake.emergAsserted, emergInLevel] using band
  · rw [merged]; exact armed
  · simpa only [bandLevel] using bandTimer
  · simpa only [Brake.loopAgrees, loopLevel] using loopTimer

end Sys2Proof.Machine
end

section
/-! The host port stays good at every one of its operations: the response stands with its states, the bits of
a byte in progress stay below eight, and SDO shows the next bit of a readout (R193, R194, R196). -/

namespace Sys2Proof.Machine

/-! ### What a good port is in each of its states -/

theorem Port.good_idle {p : Port} (state : p.state = .idle) :
    p.Good ↔ p.response = none ∧ p.closed = false ∧ (p.ignoring = true → p.selected = true)
      ∧ p.bits = [] := by
  unfold Port.Good
  rw [state]
  constructor
  · rintro ⟨response, closed, ignoring, -, -, -, bits, -⟩
    simp_all
  · rintro ⟨response, closed, ignoring, bits⟩
    simp_all

theorem Port.good_receiving {p : Port} (state : p.state = .receiving) :
    p.Good ↔ p.response = none ∧ p.ignoring = false ∧ p.selected = true ∧ p.bits.length < 8 := by
  unfold Port.Good
  rw [state]
  constructor
  · rintro ⟨response, -, ignoring, selected, -, bits, -⟩
    simp_all
  · rintro ⟨response, ignoring, selected, bits⟩
    simp_all

theorem Port.good_responseReady {p : Port} (state : p.state = .responseReady) :
    p.Good ↔ (∃ r, p.response = some r ∧ r.data.length ≤ 250) ∧ p.closed = false ∧ p.ignoring = false
      ∧ p.selected = false ∧ p.bits = [] := by
  unfold Port.Good
  rw [state]
  constructor
  · rintro ⟨response, closed, ignoring, -, selected, -, bits, -, data⟩
    obtain ⟨r, held⟩ := Option.isSome_iff_exists.mp (response.mpr (.inl rfl))
    simp_all
  · rintro ⟨⟨r, held, data⟩, closed, ignoring, selected, bits⟩
    simp_all

theorem Port.good_readout {p : Port} (state : p.state = .readout) :
    p.Good ↔ (∃ r, p.response = some r ∧ r.data.length ≤ 250
        ∧ (p.sclk = false → p.sdo = frameBit r.frame (8 * p.shifted.length + p.bits.length)))
      ∧ p.closed = false ∧ p.ignoring = false ∧ p.selected = true ∧ p.bits.length < 8 := by
  unfold Port.Good
  rw [state]
  constructor
  · rintro ⟨response, closed, ignoring, selected, -, bits, -, sdo, data⟩
    obtain ⟨r, held⟩ := Option.isSome_iff_exists.mp (response.mpr (.inr rfl))
    simp_all [Port.sdoBit]
  · rintro ⟨⟨r, held, data, sdo⟩, closed, ignoring, selected, bits⟩
    simp_all [Port.sdoBit]

/-! ### The operations -/

/-- A selection that the port takes is no rest of a cut one (R194). -/
theorem Port.Good.listens {p : Port} (h : p.Good) {frame : List Byte} {whole : Bool}
    (takes : p.Takes frame whole) : p.ignoring = false := by
  obtain ⟨-, listens⟩ | ⟨state, -⟩ | ⟨state, -⟩ := takes
  · exact listens
  · exact ((Port.good_receiving state).mp h).2.1
  · exact ((Port.good_receiving state).mp h).2.1

/-- The port holds a response (R193). -/
theorem Port.respond_good {p : Port} (listens : p.ignoring = false) (frame : List Byte) {r : Response}
    (fits : r.data.length ≤ 250) : ({ p with
      state := .responseReady, request := frame, bits := [], closed := false, response := some r
      selected := false } : Port).Good :=
  Iff.mpr (Port.good_responseReady rfl) ⟨⟨r, rfl, fits⟩, rfl, listens, rfl, rfl⟩

section
variable {p : Port} (h : p.Good)
include h

/-- Without SELECT there is no cut selection whose rest would be ignored (R194). -/
theorem Port.Good.endIgnored (apart : p.state = .idle) : p.endIgnored.Good := by
  obtain ⟨response, closed, -, bits⟩ := (Port.good_idle apart).mp h
  exact Iff.mpr (Port.good_idle apart) ⟨response, closed, fun ignoring => (by cases ignoring), bits⟩

theorem Port.Good.select : p.select.Good := by
  unfold Port.select
  split
  · next state =>
    obtain ⟨response, closed, -, bits⟩ := (Port.good_idle state).mp h
    exact Iff.mpr (Port.good_idle state) ⟨response, closed, fun _ => rfl, bits⟩
  · next state => exact Iff.mpr (Port.good_receiving state) ((Port.good_receiving state).mp h)
  · next state =>
    obtain ⟨⟨r, held, fits⟩, closed, ignoring, -⟩ := (Port.good_responseReady state).mp h
    refine Iff.mpr (Port.good_readout rfl) ⟨⟨r, held, fits, fun _ => ?_⟩, closed, ignoring, rfl, by simp⟩
    simp [Port.sdoBit, held]
  · exact h

theorem Port.Good.deselect : p.deselect.Good := by
  unfold Port.deselect
  split
  · next state => exact h.endIgnored state
  · exact h
  · next state =>
    obtain ⟨held, closed, ignoring, -, bits⟩ := (Port.good_responseReady state).mp h
    exact Iff.mpr (Port.good_responseReady state) ⟨held, closed, ignoring, rfl, bits⟩
  · next state =>
    obtain ⟨-, closed, ignoring, -⟩ := (Port.good_readout state).mp h
    exact Iff.mpr (Port.good_idle rfl)
      ⟨rfl, closed, fun cut => absurd (ignoring.symm.trans cut) (by decide), rfl⟩

theorem Port.Good.shiftOut (n : Nat) : (p.shiftOut n).Good := by
  unfold Port.shiftOut
  split
  · next r state held =>
    split
    · exact h
    · obtain ⟨⟨r', held', fits, -⟩, closed, ignoring, selected, -⟩ := (Port.good_readout state).mp h
      cases held.symm.trans held'
      refine Iff.mpr (Port.good_readout state)
        ⟨⟨r, held, fits, fun low => ?_⟩, closed, ignoring, selected, by simp⟩
      simp [readoutBytes, show p.sclk = false from low]
  · exact h

theorem Port.Good.endSelection (n : Nat) : (p.endSelection n).Good := by
  unfold Port.endSelection
  refine Port.Good.deselect (Port.Good.shiftOut ?_ n)
  split
  · exact h.select
  · exact h

theorem Port.Good.beginRequest (state : p.state = .idle) (listens : p.ignoring = false) :
    p.beginRequest.Good := by
  obtain ⟨response, -⟩ := (Port.good_idle state).mp h
  exact Iff.mpr (Port.good_receiving rfl) ⟨response, listens, rfl, by simp [Port.beginRequest]⟩

theorem Port.Good.firstClock : p.firstClock.Good := by
  unfold Port.firstClock
  split
  · next state =>
    split
    · exact h
    · next listens => exact h.beginRequest state (Bool.eq_false_iff.mpr listens)
  · exact h.select
  · exact h
  · exact h

theorem Port.Good.takeBit (state : p.state = .receiving) : p.takeBit.Good := by
  obtain ⟨response, ignoring, selected, bits⟩ := (Port.good_receiving state).mp h
  unfold Port.takeBit
  dsimp only
  split
  · exact Iff.mpr (Port.good_receiving state) ⟨response, ignoring, selected, by simp⟩
  · next short =>
    refine Iff.mpr (Port.good_receiving state) ⟨response, ignoring, selected, ?_⟩
    simp only [List.length_append, List.length_singleton] at short ⊢
    omega

/-- A rising edge leaves SDO, which shows the next bit again after the falling edge (R193). -/
theorem Port.Good.giveBit (state : p.state = .readout) (high : p.sclk = true) : p.giveBit.Good := by
  obtain ⟨⟨r, held, fits, -⟩, closed, ignoring, selected, bits⟩ := (Port.good_readout state).mp h
  unfold Port.giveBit
  dsimp only
  split
  · exact Iff.mpr (Port.good_readout state)
      ⟨⟨r, held, fits, fun low => absurd (high.symm.trans low) (by decide)⟩, closed, ignoring,
        selected, by simp⟩
  · next short =>
    refine Iff.mpr (Port.good_readout state)
      ⟨⟨r, held, fits, fun low => absurd (high.symm.trans low) (by decide)⟩, closed, ignoring, selected, ?_⟩
    simp only [List.length_append, List.length_singleton] at short ⊢
    omega

end

/-- With SCLK high, SDO may still show the bit before (R193). -/
theorem Port.Good.rise {p : Port} (h : p.Good) : ({ p with sclk := true } : Port).Good := by
  obtain ⟨response, closed, ignoring, selected, apart, short, bits, -, data⟩ := h
  exact ⟨response, closed, ignoring, selected, apart, short, bits, fun low => by simp at low, data⟩

/-- Outside READOUT, SCLK is of no consequence for SDO (R193). -/
theorem Port.Good.low {p : Port} (h : p.Good) (apart : p.state ≠ .readout) :
    ({ p with sclk := false } : Port).Good := by
  obtain ⟨response, closed, ignoring, selected, ready, short, bits, -, data⟩ := h
  exact ⟨response, closed, ignoring, selected, ready, short, bits, fun low => absurd low.1 apart, data⟩

theorem Port.Good.sample {p : Port} (h : p.Good) (high : p.sclk = true) : p.sample.Good := by
  unfold Port.sample
  split
  · split
    · next state =>
      split
      · exact h
      · next listens => exact (h.beginRequest state (Bool.eq_false_iff.mpr listens)).takeBit rfl
    · next state =>
      split
      · exact h
      · exact h.takeBit state
    · exact h
    · next state => exact h.giveBit state high
  · exact h

/-- A falling edge brings the next bit of a readout to SDO (R193). -/
theorem Port.Good.fall {p : Port} (h : p.Good) : ({ p with sclk := false } : Port).change.Good := by
  unfold Port.change
  by_cases state : p.state = .readout
  · obtain ⟨⟨r, held, fits, -⟩, closed, ignoring, selected, bits⟩ := (Port.good_readout state).mp h
    rw [if_pos selected]
    dsimp only
    rw [state]
    refine Iff.mpr (Port.good_readout rfl) ⟨⟨r, held, fits, fun _ => ?_⟩, closed, ignoring, selected, bits⟩
    simp [Port.sdoBit, held]
  · have low := h.low state
    split
    · split
      · next idle =>
        split
        · exact low
        · next listens => exact low.beginRequest idle (Bool.eq_false_iff.mpr listens)
      · exact low
      · exact low
      · next readout => exact absurd readout state
    · exact low

theorem Port.Good.clock {p : Port} (h : p.Good) (level : Bool) : (p.clock level).Good := by
  unfold Port.clock
  split
  · exact h
  · cases level
    · exact h.fall
    · exact h.rise.sample rfl

theorem Port.Good.takeByte {p : Port} (h : p.Good) (value : Byte) : (p.takeByte value).Good := by
  unfold Port.takeByte
  refine List.foldlRecOn (bitsMsbFirst value) _ (motive := Port.Good) h fun q good bit _ => ?_
  exact Port.Good.clock (Port.Good.clock (p := { q with sdi := bit }) good _) _

end Sys2Proof.Machine
end

section
/-! The door controller stays good at every event: the timers run exactly in the states that use them, the
reopen count is at most 5, and only a grant makes a door UNLOCKED, on its RELEASED side (R138, R141, R143,
R147, R148). -/

namespace Sys2Proof.Machine

/-! ### The entries to the states -/

/-- A good door in a state other than UNLOCKED. -/
def Door.Moved (d : Door) : Prop := d.Good ∧ d.state ≠ .unlocked

/-- A door after an event that is no grant: good, and UNLOCKED only if it was. -/
def Door.Stays (d e : Door) : Prop := e.Good ∧ (e.state = .unlocked → d.state = .unlocked)

theorem Door.Moved.stays {d e : Door} (h : e.Moved) : d.Stays e :=
  ⟨h.1, fun unlocked => absurd unlocked h.2⟩

theorem Door.enterFault_moved {d : Door} (count : d.reopen ≤ 5) (cause : DoorCause) :
    (d.enterFault cause).1.Moved := by
  simp [Door.Moved, Door.enterFault, Door.Good, count]

theorem Door.enterLocking_moved {d : Door} (count : d.reopen ≤ 5) (t : DoorTimes) :
    (d.enterLocking t).Moved := by
  unfold Door.enterLocking
  split <;> simp [Door.Moved, Door.Good, count]

theorem Door.enterOpening_moved {d : Door} (count : d.reopen ≤ 5) (t : DoorTimes) :
    (d.enterOpening t).Moved := by
  unfold Door.enterOpening
  split <;> simp [Door.Moved, Door.Good, count]

/-- Each reopening uses one of those that are left (R147). -/
theorem Door.closeWith_moved {t : DoorTimes} {left : Nat} {d : Door} (count : d.reopen + left ≤ 5) :
    (d.closeWith t left).1.Moved := by
  induction left generalizing d with
  | zero =>
    have count : d.reopen ≤ 5 := count
    unfold Door.closeWith
    split
    · exact Door.enterLocking_moved count t
    · split <;> simp [Door.Moved, Door.Good, count]
  | succ left ih =>
    have room : d.reopen ≤ 5 := by omega
    have raised : d.reopen + 1 ≤ 5 := by omega
    unfold Door.closeWith
    split
    · exact Door.enterLocking_moved room t
    · split
      · dsimp only
        split
        · exact ih (by dsimp only; omega)
        · simp [Door.Moved, Door.Good, raised]
      · simp [Door.Moved, Door.Good, room]

theorem Door.enterClosing_moved {t : DoorTimes} (limit : t.limit ≤ 5) {d : Door} (count : d.reopen ≤ 5) :
    (d.enterClosing t).1.Moved := Door.closeWith_moved (by omega)

theorem Door.obstructed_moved {t : DoorTimes} (limit : t.limit ≤ 5) {d : Door} (count : d.reopen ≤ 5) :
    (d.obstructed t).1.Moved := by
  unfold Door.obstructed
  split
  · have raised : d.reopen + 1 ≤ 5 := by omega
    dsimp only
    split
    · exact Door.enterClosing_moved limit raised
    · simp [Door.Moved, Door.Good, raised]
  · simp [Door.Moved, Door.Good, count]

/-! ### One door's answers to its events -/

/-- No event at all. -/
theorem Door.Good.stays {d : Door} (h : d.Good) : d.Stays d := ⟨h, id⟩

section
variable {d : Door} (h : d.Good)
include h

theorem Door.Good.startOpening (t : DoorTimes) : d.Stays (d.startOpening t) := by
  have same := h.stays
  obtain ⟨-, -, count⟩ := h
  unfold Door.startOpening
  split
  · exact (Door.enterOpening_moved (d := { d with reclose := false }) count t).stays
  · exact same

/-- A closing from any state but those in which DOOR_CLOSE does nothing (R145). -/
theorem Door.Good.close {t : DoorTimes} (limit : t.limit ≤ 5) : (d.close t).1.Moved := by
  obtain ⟨motion, lock, -⟩ := h
  have closing := Door.enterClosing_moved limit (d := { d with reopen := 0, reclose := false })
      (Nat.zero_le _)
  unfold Door.close
  cases state : d.state with
  | opened | opening | held => simpa only [state] using closing
  | unlocked =>
    dsimp only
    split
    · exact Door.enterLocking_moved (d := { d with reopen := 0, reclose := false }) (Nat.zero_le _) t
    · simpa only [state] using closing
  | closing | locking | locked | fault => simp [Door.Moved, Door.Good, motion, lock, state]

theorem Door.Good.openEndReached {t : DoorTimes} (limit : t.limit ≤ 5) : d.Stays (d.openEndReached t).1 := by
  have same := h.stays
  obtain ⟨motion, lock, count⟩ := h
  unfold Door.openEndReached
  split
  · next opening =>
    split
    · exact (Door.enterClosing_moved (d := { d with reclose := false }) limit count).stays
    · refine Door.Moved.stays ⟨⟨by simp, ?_, count⟩, by simp⟩
      simp [lock, opening]
  · exact same

theorem Door.Good.obstructSeen {t : DoorTimes} (limit : t.limit ≤ 5) : d.Stays (d.obstructSeen t).1 := by
  have same := h.stays
  obtain ⟨-, -, count⟩ := h
  unfold Door.obstructSeen
  split
  · exact (Door.obstructed_moved limit count).stays
  · exact same

theorem Door.Good.closedChanged (t : DoorTimes) (value : Bool) : d.Stays (d.closedChanged t value).1 := by
  have same := h.stays
  obtain ⟨-, -, count⟩ := h
  unfold Door.closedChanged
  split
  · exact (Door.enterLocking_moved count t).stays
  · exact (Door.enterFault_moved count _).stays
  · exact (Door.enterFault_moved count _).stays
  · exact same

theorem Door.Good.lockedChanged (value : Bool) : d.Stays (d.lockedChanged value).1 := by
  have same := h.stays
  obtain ⟨motion, -, count⟩ := h
  unfold Door.lockedChanged
  split
  · next locking =>
    refine Door.Moved.stays ⟨⟨?_, by simp, count⟩, by simp⟩
    simp [motion, locking]
  · exact (Door.enterFault_moved count _).stays
  · exact same

/-- The motion timer runs in OPENING and CLOSING only, so that its expiry is a fault (R148). -/
theorem Door.Good.motionExpired (running : d.motionTimer.isSome) :
    d.Stays (Door.motionExpired { d with motionTimer := none }).1 := by
  obtain ⟨motion, -, count⟩ := h
  have moved (cause : DoorCause) : d.Stays ({ d with motionTimer := none }.enterFault cause).1 :=
    (Door.enterFault_moved (d := { d with motionTimer := none }) count cause).stays
  obtain opening | closing := motion.mp running
  · simpa only [Door.motionExpired, opening] using moved .openTime
  · simpa only [Door.motionExpired, closing] using moved .closeTime

theorem Door.Good.lockExpired (running : d.lockTimer.isSome) :
    d.Stays (Door.lockExpired { d with lockTimer := none }).1 := by
  obtain ⟨-, lock, count⟩ := h
  simpa only [Door.lockExpired, lock.mp running] using
    (Door.enterFault_moved (d := { d with lockTimer := none }) count .lockTime).stays (d := d)

theorem Door.Good.unlock : d.unlock.Good := by
  have same := h
  obtain ⟨motion, lock, count⟩ := h
  unfold Door.unlock
  split
  · next locked => simp [Door.Good, motion, lock, count, locked]
  · exact same

theorem Door.Good.setLine (x : InputLine) (line : DoorInput) : d.Stays (d.setLine x line) := by
  have same := h.stays
  cases line <;> exact same

end

theorem Door.reset_stays (d : Door) (t : DoorTimes) : d.Stays (d.reset t) :=
  (Door.enterLocking_moved (d := { d with reopen := 0, reclose := false }) (Nat.zero_le _) t).stays

theorem Door.powerOn_good (d : Door) : d.powerOn.Good := by
  unfold Door.powerOn Door.Good
  dsimp only
  split <;> simp

/-! ### The four doors -/

theorem Doors.good_iff {ds : Doors} : ds.Good ↔ ∀ id, (ds.get id).Good
    ∧ ((ds.get id).state = .unlocked → ds.released (doorSide id) = true) :=
  ⟨fun h id => h id (by cases id <;> simp [allDoors]), fun h id _ => h id⟩

/-- Doors whose release states are those of others and each of which stays. -/
theorem Doors.Good.of_stays {ds es : Doors} (h : ds.Good) (left : es.leftReleased = ds.leftReleased)
    (right : es.rightReleased = ds.rightReleased) (stays : ∀ id, (ds.get id).Stays (es.get id)) :
      es.Good := by
  refine Doors.good_iff.mpr fun id => ?_
  obtain ⟨-, released⟩ := Doors.good_iff.mp h id
  obtain ⟨good, unlocked⟩ := stays id
  refine ⟨good, fun now => ?_⟩
  rw [← released (unlocked now)]
  cases id <;> assumption

theorem Doors.Good.step {ds : Doors} (h : ds.Good) {f : Door → DoorStep} {id : DoorId}
    (stays : (ds.get id).Stays (f (ds.get id)).1) : (ds.step f id).1.Good := by
  obtain ⟨left, right, -⟩ := Doors.step_rest f id ds
  refine h.of_stays left right fun j => ?_
  rw [Doors.step_get]
  split
  · next same => subst same; exact stays
  · exact Door.Good.stays (Doors.good_iff.mp h j).1

theorem Doors.Good.stepSides {ds : Doors} (h : ds.Good) {sides : List Side} {f : Door → DoorStep}
    (stays : ∀ d : Door, d.Good → d.Stays (f d).1) : (ds.stepSides sides f).1.Good := by
  obtain ⟨left, right, -⟩ := Doors.stepSides_rest sides f ds
  refine h.of_stays left right fun j => ?_
  have good : (ds.get j).Good := (Doors.good_iff.mp h j).1
  rw [Doors.stepSides_get]
  split
  · exact stays _ good
  · exact good.stays

@[simp] theorem Doors.setReleased_get (b : Bool) (ds : Doors) (side : Side) (id : DoorId) :
    (ds.setReleased b side).get id = ds.get id := by cases side <;> cases id <;> rfl

theorem Doors.setReleased_released (b : Bool) (ds : Doors) (side other : Side) :
    (ds.setReleased b side).released other = if other = side then b else ds.released other := by
  cases side <;> cases other <;> rfl

/-- A grant releases the side whose LOCKED doors it unlocks (R141). -/
theorem Doors.Good.grant {ds : Doors} (h : ds.Good) (side : Side) :
    ((ds.setReleased true side).stepSides [side] (Door.quietly Door.unlock)).1.Good := by
  obtain ⟨left, right, -⟩ := Doors.stepSides_rest [side] (Door.quietly Door.unlock) (ds.setReleased true side)
  refine Doors.good_iff.mpr fun id => ?_
  have released : ((ds.setReleased true side).stepSides [side] (Door.quietly Door.unlock)).1.released
      (doorSide id) = if doorSide id = side then true else ds.released (doorSide id) := by
    rw [← Doors.setReleased_released]
    cases id <;> assumption
  obtain ⟨good, unlocked⟩ := Doors.good_iff.mp h id
  rw [released, Doors.stepSides_get, Doors.setReleased_get]
  by_cases granted : doorSide id = side
  · rw [if_pos (List.mem_singleton.mpr granted), if_pos granted]
    exact ⟨good.unlock, fun _ => rfl⟩
  · rw [if_neg (mt List.mem_singleton.mp granted), if_neg granted]
    exact ⟨good, unlocked⟩

/-- Taking back the release of some sides leaves the doors and the other sides. -/
theorem Doors.unrelease_others (sides : List Side) (ds : Doors) (id : DoorId) :
    (sides.foldl (Doors.setReleased false) ds).get id = ds.get id
      ∧ (doorSide id ∉ sides →
          (sides.foldl (Doors.setReleased false) ds).released (doorSide id) = ds.released (doorSide id)) := by
  induction sides generalizing ds with
  | nil => exact ⟨rfl, fun _ => rfl⟩
  | cons side sides ih =>
    obtain ⟨same, stays⟩ := ih (Doors.setReleased false ds side)
    refine ⟨same.trans (Doors.setReleased_get _ _ _ _), fun apart => ?_⟩
    obtain ⟨other, apart⟩ := not_or.mp (mt List.mem_cons.mpr apart)
    exact (stays apart).trans ((Doors.setReleased_released _ _ _ _).trans (if_neg other))

/-- No door of a side that a closing names is UNLOCKED afterwards (R145). -/
theorem Doors.Good.closeSides {ds : Doors} (h : ds.Good) {t : DoorTimes} (limit : t.limit ≤ 5)
    (sides : List Side) : (ds.closeSides t sides).1.Good := by
  obtain ⟨left, right, -⟩ := Doors.stepSides_rest sides (Door.close t)
      (sides.foldl (Doors.setReleased false) ds)
  refine Doors.good_iff.mpr fun id => ?_
  have released : (ds.closeSides t sides).1.released (doorSide id)
      = (sides.foldl (Doors.setReleased false) ds).released (doorSide id) := by
    cases id <;> assumption
  obtain ⟨same, others⟩ := Doors.unrelease_others sides ds id
  obtain ⟨good, unlocked⟩ := Doors.good_iff.mp h id
  have door := Doors.stepSides_get sides (Door.close t) (sides.foldl (Doors.setReleased false) ds) id
  rw [same] at door
  rw [released, Doors.closeSides, door]
  by_cases named : doorSide id ∈ sides
  · obtain ⟨good, apart⟩ := Door.Good.close good limit
    rw [if_pos named]
    exact ⟨good, fun unlocked => absurd unlocked apart⟩
  · rw [if_neg named, others named]
    exact ⟨good, unlocked⟩

theorem Doors.Good.softReset {ds : Doors} (h : ds.Good) {t : DoorTimes} (limit : t.limit ≤ 5) :
    (ds.softReset t).Good := by
  obtain ⟨-, -, closed⟩ := Doors.softReset_eq t ds
  refine Doors.good_iff.mpr fun id => ?_
  obtain ⟨good, apart⟩ := Door.Good.close (Doors.good_iff.mp h id).1 limit
  rw [closed]
  exact ⟨good, fun unlocked => absurd unlocked apart⟩

theorem Doors.powerOn_good (ds : Doors) : ds.powerOn.Good := by
  refine Doors.good_iff.mpr fun id => ?_
  have powered : ds.powerOn.get id = (ds.get id).powerOn := by cases id <;> rfl
  rw [powered]
  refine ⟨Door.powerOn_good _, fun unlocked => ?_⟩
  unfold Door.powerOn at unlocked
  dsimp only at unlocked
  split at unlocked <;> cases unlocked

end Sys2Proof.Machine
end

section
/-! The sending side of the radio: the queue, the frame in flight and KEY, and the reports. `Radio.Sending` is
what a good radio has of it, and each operation that places, starts, removes or reports entries keeps it
(R173, R174, R183, R184, R186, R187, R190). -/

namespace Sys2Proof.Machine

/-! ### The invariant -/

/-- An entry of the queue within its bounds (R161, R183). -/
def QueueEntry.Fits (e : QueueEntry) : Prop := e.handle < 256 ∧ e.priority ≤ 3 ∧ e.body.length ≤ 56

/-- The sending side of a good radio: the queue's bounds, the started entry in flight, KEY with the frame
in flight, and the numbers that wrap (R167, R173, R174, R183, R187, R190). -/
structure Radio.Sending (r : Radio) : Prop where
  length : r.queue.length ≤ 6
  handle : r.nextHandle < 256
  single : (r.queue.filter QueueEntry.unsentReport).length ≤ 1
  inFlight : (r.queue.filter QueueEntry.started).map QueueEntry.handle = r.tx.toList.map InFlight.handle
  entries : ∀ e ∈ r.queue, e.Fits
  pending : ∀ b ∈ r.pendingAlarm, b.length ≤ 56
  key : r.key = true ↔ r.tx.isSome ∧ r.current = .normal
  mode : r.tx.isSome → r.current = .normal ∨ r.current = .selftest
  sequence : r.txSeq < 256

/-! ### Lists of entries -/

theorem selectEntry_eq_some {queue : List QueueEntry} {e : QueueEntry} (h : selectEntry queue = some e) :
    e ∈ queue ∧ e.started = false := by
  induction queue with
  | nil => cases h
  | cons q rest ih =>
    unfold selectEntry at h
    split at h
    · split at h
      · cases h
      · next unsent => cases h; exact ⟨List.mem_cons_self, Bool.eq_false_iff.mpr unsent⟩
    · next b _ =>
      split at h
      · next better =>
        cases h
        rw [Bool.and_eq_true, Bool.not_eq_true'] at better
        exact ⟨List.mem_cons_self, better.1⟩
      · cases h
        obtain ⟨member, unsent⟩ := ih ‹_›
        exact ⟨List.mem_cons_of_mem _ member, unsent⟩

/-- The marking changes one entry, which was not started, to a started one. -/
theorem markStarted_split {queue : List QueueEntry} {e : QueueEntry} (h : e ∈ queue) :
    ∃ before after, queue = before ++ e :: after
      ∧ markStarted e queue = before ++ { e with started := true } :: after := by
  induction queue with
  | nil => cases h
  | cons q rest ih =>
    unfold markStarted
    split
    · next same => subst same; exact ⟨[], rest, rfl, rfl⟩
    · next other =>
      obtain ⟨before, after, split, marked⟩ := ih ((List.mem_cons.mp h).resolve_left (Ne.symm other))
      exact ⟨q :: before, after, by rw [split]; rfl, by rw [marked]; rfl⟩

/-- The marking leaves no more unsent reports than there were. -/
theorem markStarted_unsent {queue : List QueueEntry} {e : QueueEntry} (h : e ∈ queue) :
    ((markStarted e queue).filter QueueEntry.unsentReport).Sublist
      (queue.filter QueueEntry.unsentReport) := by
  obtain ⟨before, after, rfl, marked⟩ := markStarted_split h
  have sent : QueueEntry.unsentReport { e with started := true } = false := by simp [QueueEntry.unsentReport]
  rw [marked, List.filter_append, List.filter_append, List.filter_cons_of_neg (by simp [sent])]
  refine List.Sublist.append (List.Sublist.refl _) ?_
  rw [List.filter_cons]
  split
  · exact List.sublist_cons_self _ _
  · exact List.Sublist.refl _

/-- Where none was started, the marked entry is the one that is. -/
theorem markStarted_started {queue : List QueueEntry} {e : QueueEntry} (h : e ∈ queue)
    (idle : queue.filter QueueEntry.started = []) :
    (markStarted e queue).filter QueueEntry.started = [{ e with started := true }] := by
  obtain ⟨before, after, rfl, marked⟩ := markStarted_split h
  have unsent := List.filter_eq_nil_iff.mp idle
  have noneBefore : before.filter QueueEntry.started = [] :=
    List.filter_eq_nil_iff.mpr fun q member => unsent q (by simp [member])
  have noneAfter : after.filter QueueEntry.started = [] :=
    List.filter_eq_nil_iff.mpr fun q member => unsent q (by simp [member])
  rw [marked, List.filter_append, List.filter_cons_of_pos rfl, noneBefore, noneAfter]
  rfl

theorem mem_markStarted {queue : List QueueEntry} {e q : QueueEntry} (h : e ∈ queue)
    (member : q ∈ markStarted e queue) : q ∈ queue ∨ q = { e with started := true } := by
  obtain ⟨before, after, rfl, marked⟩ := markStarted_split h
  rw [marked] at member
  simp only [List.mem_append, List.mem_cons] at member ⊢
  tauto

theorem markStarted_length (e : QueueEntry) (queue : List QueueEntry) :
    (markStarted e queue).length = queue.length := by
  induction queue with
  | nil => rfl
  | cons q rest ih =>
    unfold markStarted
    split
    · rfl
    · rw [List.length_cons, List.length_cons, ih]

/-- The first entry that meets a test leaves the others in their order. -/
theorem filter_eraseP {p q : QueueEntry → Bool} {e : QueueEntry} {queue : List QueueEntry}
    (found : queue.find? p = some e) (apart : q e = false) : (queue.eraseP p).filter q = queue.filter q := by
  induction queue with
  | nil => cases found
  | cons a rest ih =>
    by_cases meets : p a = true
    · rw [List.find?_cons_of_pos meets] at found
      cases found
      rw [List.eraseP_cons_of_pos meets, List.filter_cons_of_neg (by simp [apart])]
    · rw [List.find?_cons_of_neg meets] at found
      rw [List.eraseP_cons_of_neg meets, List.filter_cons, List.filter_cons, ih found]

/-- Where at most one entry meets a test, none does once the first has left. -/
theorem filter_eraseP_self {p : QueueEntry → Bool} {queue : List QueueEntry}
    (one : (queue.filter p).length ≤ 1) : (queue.eraseP p).filter p = [] := by
  induction queue with
  | nil => rfl
  | cons a rest ih =>
    by_cases meets : p a = true
    · rw [List.filter_cons_of_pos meets, List.length_cons] at one
      rw [List.eraseP_cons_of_pos meets]
      exact List.length_eq_zero_iff.mp (by omega)
    · rw [List.filter_cons_of_neg meets] at one
      rw [List.eraseP_cons_of_neg meets, List.filter_cons_of_neg meets, ih one]

/-! ### The operations -/

section
variable {r : Radio} (h : r.Sending)
include h

/-- A placed entry is unsent, and a spontaneous one is placed where no other waits (R183, R187). -/
theorem Radio.Sending.place (room : r.hasRoom = true) {priority : Nat} (low : priority ≤ 3)
    {body : List Byte} (fits : body.length ≤ 56) {spontaneous : Bool}
    (first : spontaneous = true → r.queue.any QueueEntry.unsentReport = false)
    (kind : Byte) (origin : QueueOrigin) (destination : Byte) :
    (r.place kind priority origin destination body spontaneous).Sending := by
  have room : r.queue.length < 6 := of_decide_eq_true room
  refine { h with
    length := ?_, handle := Nat.mod_lt _ (by decide), single := ?_, inFlight := ?_, entries := ?_ }
  · simp only [Radio.place, List.length_append, List.length_singleton]; omega
  · simp only [Radio.place, List.filter_append, List.length_append]
    cases spontaneous with
    | false => simpa [QueueEntry.unsentReport] using h.single
    | true =>
      have missing : r.queue.filter QueueEntry.unsentReport = [] := by simpa using first rfl
      simp [missing, QueueEntry.unsentReport]
  · simpa [Radio.place] using h.inFlight
  · intro e member
    obtain old | new := List.mem_append.mp member
    · exact h.entries e old
    · cases List.mem_singleton.mp new; exact ⟨h.handle, low, fits⟩

theorem Radio.Sending.placeAlarm (room : r.hasRoom = true) {body : List Byte} (fits : body.length ≤ 56) :
    (r.placeAlarm body).Sending := h.place room (by decide)
      fits (fun spontaneous => by cases spontaneous) _ _ _

/-- The started entry goes in flight, with KEY in NORMAL only (R173, R174). -/
theorem Radio.Sending.startSelected (parity : Nat) (address : Byte) :
    (r.startSelected parity address).Sending := by
  unfold Radio.startSelected
  split
  · next e able selected =>
    obtain ⟨member, unsent⟩ := selectEntry_eq_some selected
    simp only [Radio.canStart, Bool.and_eq_true, Option.isNone_iff_eq_none] at able
    obtain ⟨⟨⟨idle, -⟩, -⟩, mode⟩ := able
    have noneStarted : r.queue.filter QueueEntry.started = [] := by simpa [idle] using h.inFlight
    have started := markStarted_started member noneStarted
    refine { h with
      length := ?_, single := ?_, inFlight := ?_, entries := ?_, key := ?_, mode := fun _ => ?_ }
    · exact (markStarted_length e r.queue).trans_le h.length
    · exact (markStarted_unsent member).length_le.trans h.single
    · exact congrArg (List.map QueueEntry.handle) started
    · intro q listed
      obtain old | rfl := mem_markStarted member listed
      · exact h.entries q old
      · exact h.entries e member
    · simp [Radio.start]
    · show r.current = .normal ∨ r.current = .selftest
      split at mode
      · next normal => exact .inl normal
      · next selftest => exact .inr selftest
      · cases mode
  · exact h

theorem Radio.Sending.startIfQuiet (parity : Nat) (address : Byte) :
    (r.startIfQuiet parity address).Sending := by
  unfold Radio.startIfQuiet
  split
  · exact h
  · exact h.startSelected parity address

theorem Radio.Sending.reportTx (handle : Nat) (result : TxResult) : (r.reportTx handle result).Sending :=
  { h with sequence := Nat.mod_lt _ (by decide) }

/-- Entries that are not started leave the queue (R189, R190). -/
theorem Radio.Sending.leave {queue : List QueueEntry} (less : queue.Sublist r.queue)
    (same : queue.filter QueueEntry.started = r.queue.filter QueueEntry.started) :
    ({ r with queue := queue } : Radio).Sending where
  length := less.length_le.trans h.length
  handle := h.handle
  single := (less.filter _).length_le.trans h.single
  inFlight := same ▸ h.inFlight
  entries e member := h.entries e (less.subset member)
  pending := h.pending
  key := h.key
  mode := h.mode
  sequence := h.sequence

/-- An ALARM displaces an unsent entry (R186). -/
theorem Radio.Sending.displace : r.displace.Sending := by
  unfold Radio.displace Radio.displacedEntry
  split
  · next e found =>
    have unsent : e.started = false := by
      have meets := List.find?_some found
      simp only [QueueEntry.displaceable, Bool.and_eq_true, Bool.not_eq_true'] at meets
      exact meets.1
    have left : ({ r with queue := (r.queue.reverse.eraseP QueueEntry.displaceable).reverse } : Radio).Sending := by
      refine h.leave ?_ ?_
      · simpa using List.Sublist.reverse
            (List.eraseP_sublist (p := QueueEntry.displaceable) (l := r.queue.reverse))
      · rw [List.filter_reverse, filter_eraseP found unsent, List.filter_reverse, List.reverse_reverse]
    dsimp only
    split
    · exact left
    · exact left.reportTx _ _
  · exact h

/-- A displaced entry makes room (R186). -/
theorem Radio.Sending.displace_hasRoom (displaces : r.queue.any QueueEntry.displaceable = true) :
    r.displace.hasRoom = true := by
  have full := h.length
  obtain ⟨e, member, meets⟩ := List.any_eq_true.mp displaces
  have shorter := List.length_eraseP_of_mem (List.mem_reverse.mpr member) meets
  have nonempty := List.length_pos_of_mem member
  have left : r.displace.queue = (r.queue.reverse.eraseP QueueEntry.displaceable).reverse := by
    have found := r.displacedEntry_isSome.trans displaces
    obtain ⟨d, found⟩ := Option.isSome_iff_exists.mp found
    unfold Radio.displace
    rw [found]
    dsimp only
    split <;> rfl
  refine decide_eq_true ?_
  rw [left, List.length_reverse, shorter, List.length_reverse]
  show r.queue.length - 1 < 6
  omega

theorem Radio.Sending.alarmed (parity : Nat) (address : Byte) {body : List Byte} (fits : body.length ≤ 56) :
    (r.alarmed parity address body).Sending := by
  unfold Radio.alarmed
  split
  · exact h
  · split
    · next room => exact (h.placeAlarm room fits).startIfQuiet parity address
    · split
      · next displaces =>
        exact (h.displace.placeAlarm (h.displace_hasRoom displaces) fits).startIfQuiet parity address
      · refine { h with pending := fun b kept => ?_ }
        cases Option.mem_some_iff.mp kept
        exact fits

/-- The frame in flight ends, and its entry leaves the queue (R174). -/
theorem Radio.Sending.finish : ({ r with
    queue := r.queue.eraseP QueueEntry.started, tx := none, key := false } : Radio).Sending := by
  have less : (r.queue.eraseP QueueEntry.started).Sublist r.queue := List.eraseP_sublist
  have one : (r.queue.filter QueueEntry.started).length ≤ 1 := by
    have inFlight := congrArg List.length h.inFlight
    simp only [List.length_map] at inFlight
    rw [inFlight]
    cases r.tx <;> simp
  refine { h with
    length := less.length_le.trans h.length, single := ((less.filter _).length_le).trans h.single
    inFlight := ?_, entries := fun e member => h.entries e (less.subset member)
    key := by simp, mode := by simp }
  exact congrArg (List.map QueueEntry.handle) (filter_eraseP_self one)

/-- The unsent report is refreshed in its place (R187). -/
theorem Radio.Sending.refresh {body : List Byte} (fits : body.length ≤ 56) : ({ r with
    queue := r.queue.map fun e => if e.unsentReport then { e with body := body } else e } :
      Radio).Sending := by
  have same (p : QueueEntry → Bool) (ofRest : ∀ e : QueueEntry, p { e with body := body } = p e) :
      (r.queue.map fun e => if e.unsentReport then { e with body := body } else e).filter p
        = (r.queue.filter p).map fun e => if e.unsentReport then { e with body := body } else e := by
    rw [List.filter_map]
    congr 1
    refine List.filter_congr fun e _ => ?_
    dsimp only [Function.comp]
    split
    · exact ofRest e
    · rfl
  refine { h with length := ?_, single := ?_, inFlight := ?_, entries := fun e member => ?_ }
  · exact (List.length_map _).trans_le h.length
  · rw [same _ fun _ => rfl, List.length_map]; exact h.single
  · rw [same _ fun _ => rfl, List.map_map, ← h.inFlight]
    refine List.map_congr_left fun e _ => ?_
    dsimp only [Function.comp]
    split <;> rfl
  · obtain ⟨old, listed, rfl⟩ := List.mem_map.mp member
    obtain ⟨handle, priority, body⟩ := h.entries old listed
    split
    · exact ⟨handle, priority, fits⟩
    · exact ⟨handle, priority, body⟩

end

end Sys2Proof.Machine
end

section
/-! The operations that leave the receiving side of the radio alone. `Radio.Sends` says so of a radio and the
one after it: the sending side, the mailbox and the link stay good, and the transmitter does not fall idle. -/

namespace Sys2Proof.Machine

/-! ### The relation -/

/-- Only what is of no frame buffer, of no mode and of no waiting answer differs. -/
def Radio.Outbound (r q : Radio) : Prop := q = { r with
  markLatch := q.markLatch, lastError := q.lastError, link := q.link, linkTimer := q.linkTimer
  linkLost := q.linkLost, tx := q.tx, key := q.key, carrier := q.carrier, queue := q.queue
  nextHandle := q.nextHandle, pendingAlarm := q.pendingAlarm, reportTimer := q.reportTimer
  mailbox := q.mailbox, lastTx := q.lastTx, txSeq := q.txSeq }

theorem Radio.Outbound.refl (r : Radio) : r.Outbound r := rfl

theorem Radio.Outbound.trans {r q p : Radio} (h : r.Outbound q) (k : q.Outbound p) : r.Outbound p := by
  unfold Radio.Outbound at *; rw [h] at k; exact k

/-- What every operation outside the assembler and the mode change keeps: the assembler with its timer and
the modes, a good sending side, a good mailbox, a good link, and a transmitter that is not idle. -/
structure Radio.Carries (r q : Radio) : Prop where
  assembler : q.assembler = r.assembler := by rfl
  silence : q.silence = r.silence := by rfl
  requested : q.requested = r.requested := by rfl
  current : q.current = r.current := by rfl
  sending : r.Sending → q.Sending := by exact fun h => { h with }
  mailed : r.MailboxGood → q.MailboxGood := by exact id
  linked : r.LinkGood → q.LinkGood := by exact id
  louder : r.tx.isSome = true → q.tx.isSome = true := by exact id

theorem Radio.Carries.trans {r q p : Radio} (h : r.Carries q) (k : q.Carries p) : r.Carries p where
  assembler := k.assembler.trans h.assembler
  silence := k.silence.trans h.silence
  requested := k.requested.trans h.requested
  current := k.current.trans h.current
  sending good := k.sending (h.sending good)
  mailed good := k.mailed (h.mailed good)
  linked good := k.linked (h.linked good)
  louder on := k.louder (h.louder on)

/-- The operation carries what `Carries` says, and leaves the frame buffers and the processor alone. -/
structure Radio.Sends (r q : Radio) : Prop where
  rest : r.Outbound q := by rfl
  sending : r.Sending → q.Sending := by exact fun h => { h with }
  mailed : r.MailboxGood → q.MailboxGood := by exact id
  linked : r.LinkGood → q.LinkGood := by exact id
  louder : r.tx.isSome = true → q.tx.isSome = true := by exact id

theorem Radio.Sends.refl (r : Radio) : r.Sends r := {}

theorem Radio.Sends.trans {r q p : Radio} (h : r.Sends q) (k : q.Sends p) : r.Sends p where
  rest := h.rest.trans k.rest
  sending good := k.sending (h.sending good)
  mailed good := k.mailed (h.mailed good)
  linked good := k.linked (h.linked good)
  louder on := k.louder (h.louder on)

section
variable {r q : Radio} (h : r.Outbound q)
include h

theorem Radio.Outbound.assembler : q.assembler = r.assembler := by unfold Radio.Outbound at h; rw [h]
theorem Radio.Outbound.silence : q.silence = r.silence := by unfold Radio.Outbound at h; rw [h]
theorem Radio.Outbound.requested : q.requested = r.requested := by unfold Radio.Outbound at h; rw [h]
theorem Radio.Outbound.current : q.current = r.current := by unfold Radio.Outbound at h; rw [h]
theorem Radio.Outbound.busy : q.busy = r.busy := by unfold Radio.Outbound at h; rw [h]
theorem Radio.Outbound.waiting : q.waiting = r.waiting := by unfold Radio.Outbound at h; rw [h]
theorem Radio.Outbound.buf (i : BufId) : q.buf i = r.buf i := by
  unfold Radio.Outbound at h; rw [h]; cases i <;> rfl

end

theorem Radio.Sends.carries {r q : Radio} (h : r.Sends q) : r.Carries q where
  assembler := h.rest.assembler
  silence := h.rest.silence
  requested := h.rest.requested
  current := h.rest.current
  sending := h.sending
  mailed := h.mailed
  linked := h.linked
  louder := h.louder

/-! ### The transmitter and the queue -/

theorem Radio.startSelected_sends (parity : Nat) (address : Byte) (r : Radio) :
    r.Sends (r.startSelected parity address) := by
  have sending : r.Sending → (r.startSelected parity address).Sending := fun h => h.startSelected _ _
  revert sending
  unfold Radio.startSelected
  split
  · exact fun sending => { sending := sending, louder := fun _ => rfl }
  · exact fun _ => .refl r

theorem Radio.startIfQuiet_sends (parity : Nat) (address : Byte) (r : Radio) :
    r.Sends (r.startIfQuiet parity address) := by
  unfold Radio.startIfQuiet
  split
  · exact .refl r
  · exact r.startSelected_sends parity address

theorem Radio.displace_sends (r : Radio) : r.Sends r.displace := by
  have sending : r.Sending → r.displace.Sending := fun h => h.displace
  revert sending
  unfold Radio.displace
  split
  · dsimp only
    split <;> exact fun sending => { sending := sending }
  · exact fun _ => .refl r

theorem Radio.alarmed_sends (parity : Nat) (address : Byte) {body : List Byte} (fits : body.length ≤ 56)
    (r : Radio) : r.Sends (r.alarmed parity address body) := by
  have sending : r.Sending → (r.alarmed parity address body).Sending := fun h => h.alarmed parity address fits
  have displaced := r.displace_sends
  revert sending
  unfold Radio.alarmed
  split
  · exact fun _ => .refl r
  · split
    · obtain ⟨rest, -, mailed, linked, louder⟩ := (r.placeAlarm body).startIfQuiet_sends parity address
      exact fun sending => {
        rest := rest, sending := sending, mailed := mailed, linked := linked, louder := louder }
    · split
      · obtain ⟨rest, -, mailed, linked, louder⟩ :=
            (r.displace.placeAlarm body).startIfQuiet_sends parity address
        exact fun sending => {
          rest := displaced.rest.trans rest, sending := sending
          mailed := fun good => mailed (displaced.mailed good)
          linked := fun good => linked (displaced.linked good)
          louder := fun on => louder (displaced.louder on) }
      · exact fun sending => { sending := sending }

/-! ### The operations of the part

Each is stated as a step that comes after others, so that they chain. -/

section
variable {r : Radio} {s : State} (h : r.Sends s.radio)
include h

theorem Radio.Sends.startFrame : r.Sends s.startFrame.radio := by
  rw [State.startFrame_eq]; exact h.trans (Radio.startSelected_sends _ _ _)

theorem Radio.Sends.judgeStart : r.Sends s.judgeStart.radio := by
  rw [State.judgeStart_eq]; exact h.trans (Radio.startIfQuiet_sends _ _ _)

/-- The body of an ALARM is three bytes (R207). -/
theorem Radio.Sends.evaluate : r.Sends s.evaluate.radio := by
  rw [State.evaluate_eq]
  dsimp only
  split
  · exact h.trans (Radio.alarmed_sends _ _ (by simp [u8, u16]) _)
  · exact h

theorem Radio.Sends.evaluateIf (c : Bool) : r.Sends (s.evaluateIf c).radio := by
  cases c
  · exact h
  · exact h.evaluate

theorem Radio.Sends.setFlagIf (c : Bool) (f : Flag) : r.Sends (s.setFlagIf c f).radio := by
  rw [State.setFlagIf_radio]; exact h

/-- A change of the supervision state hands an ALARM of three bytes (R113, R186, R207). -/
theorem Radio.Sends.changeSupState (new : SupState) : r.Sends (s.changeSupState new).radio := by
  rw [State.changeSupState_eq]
  dsimp only
  split
  · exact h.trans (Radio.alarmed_sends _ _ (by simp [u8, u16]) _)
  · exact h

/-! ### Entries that are placed and that leave -/

theorem Radio.Sends.place (room : s.radio.hasRoom = true) {priority : Nat} (low : priority ≤ 3)
    {body : List Byte} (fits : body.length ≤ 56) {spontaneous : Bool}
    (first : spontaneous = true → s.radio.queue.any QueueEntry.unsentReport = false)
    (kind : Byte) (origin : QueueOrigin) (destination : Byte) :
    r.Sends (s.onRadio (Radio.place kind priority origin destination body spontaneous)).radio :=
  h.trans { sending := fun good => good.place room low fits first kind origin destination }

theorem Radio.Sends.reportLeaving (result : TxResult) (e : QueueEntry) :
    r.Sends (s.reportLeaving result e).radio := by
  unfold State.reportLeaving
  split
  · exact h
  · exact h.trans { sending := fun good => good.reportTx _ _ }

/-- Unsent entries leave the queue (R189, R190). -/
theorem Radio.Sends.removeEntries {test : QueueEntry → Bool} (unsent : ∀ e, test e = true → e.started = false)
    (result : TxResult) : r.Sends (s.removeEntries test result).radio := by
  have left : r.Sends (s.onRadio fun r => { r with queue := r.queue.filter fun e => !test e }).radio := by
    refine h.trans { sending := fun good => good.leave List.filter_sublist ?_ }
    rw [List.filter_filter]
    refine List.filter_congr fun e _ => ?_
    cases meets : test e with
    | false => simp
    | true => simp [unsent e meets]
  unfold State.removeEntries
  exact List.foldlRecOn _ _ (motive := fun t : State => r.Sends t.radio) left
    fun t kept e _ => kept.reportLeaving result e

/-- An unsent entry leaves the queue (R189, R190). -/
theorem Radio.Sends.removeFirst {test : QueueEntry → Bool} {e : QueueEntry}
    (found : s.radio.queue.find? test = some e) (unsent : e.started = false) (result : TxResult) :
    r.Sends (s.removeFirst test result).radio := by
  unfold State.removeFirst
  rw [found]
  refine Radio.Sends.reportLeaving ?_ result e
  exact h.trans { sending := fun good => good.leave List.eraseP_sublist (filter_eraseP found unsent) }

/-! ### The table engine and the mailbox -/

theorem Radio.Sends.issueRecord (source : IssueSource) (o : Origin) (b : IssueBody) :
    r.Sends (s.issueRecord source o b).1.radio := by
  unfold State.issueRecord
  split
  · exact h
  · refine Radio.Sends.evaluateIf ?_ _
    rw [State.setFlagIf_radio, State.setFlagIf_radio]
    exact h

theorem Radio.Sends.revokeSlot (slot : Nat) : r.Sends (s.revokeSlot slot).radio := by
  unfold State.revokeSlot
  exact Radio.Sends.evaluate h

theorem Radio.Sends.minuteExpiry : r.Sends s.minuteExpiry.radio := by
  unfold State.minuteExpiry
  refine Radio.Sends.evaluateIf ?_ _
  rw [State.setFlagIf_radio]
  exact h

/-- A delivered frame is the youngest of at most four (R191). -/
theorem Radio.Sends.deliver {f : Frame} (fits : f.body.length ≤ 56) : r.Sends (s.deliver f).1.radio := by
  unfold State.deliver
  split
  · next room =>
    have room : s.radio.mailbox.length < 4 := room
    refine h.trans { mailed := fun ⟨_, bodies⟩ => ⟨?_, fun m member => ?_⟩ }
    · show (s.radio.mailbox ++ [_]).length ≤ 4
      rw [List.length_append, List.length_singleton]
      omega
    · obtain old | new := List.mem_append.mp member
      · exact bodies m old
      · cases List.mem_singleton.mp new; exact fits
  · exact h

/-- The refreshed report, or a new one where none is unsent (R187). -/
theorem Radio.Sends.makeReport : r.Sends s.makeReport.radio := by
  have fits : s.positionReport.length ≤ 56 := by simp [State.positionReport, u24, u16, u8]
  unfold State.makeReport
  split
  · exact h
  · dsimp only
    split
    · exact h.trans { sending := fun good => good.refresh fits }
    · next noneWaits =>
      split
      · next room =>
        exact (h.place room (by decide) fits (fun _ => Bool.eq_false_iff.mpr noneWaits) _ _ _).judgeStart
      · exact h

end

/-! ### The link (R171, R172) -/

theorem Radio.Sends.setLink {r : Radio} {s : State} {l : LinkStatus}
    (same : s.radio.link = l → r.Sends s.radio)
    (changed : r.Sends { s.radio with link := l, linkLost := s.radio.linkLost || l == .lost }) :
    r.Sends (s.setLink l).radio := by
  unfold State.setLink
  split
  · next stays => exact same stays
  · exact Radio.Sends.evaluate changed

/-- A complete frame makes the link OK, with the link timer running (R171). -/
theorem State.linkHeard_sends {s : State} (mode : s.radio.current = .normal ∨ s.radio.current = .listen) :
    s.radio.Sends s.linkHeard.radio := by
  unfold State.linkHeard
  refine Radio.Sends.setLink (fun ok => ?_) ?_
  · exact { linked := fun _ => ⟨iff_of_true rfl ok, fun _ => mode⟩ }
  · exact { linked := fun _ => ⟨iff_of_true rfl rfl, fun _ => mode⟩ }

/-- The link timer's expiry loses the link (R171, R172). -/
theorem State.linkExpiry_sends (s : State) :
    s.radio.Sends ((s.onRadio fun r => { r with linkTimer := none }).setLink .lost).radio := by
  have stopped {r : Radio} (timer : r.linkTimer = none) (lost : r.link = .lost) : r.LinkGood :=
    ⟨iff_of_false (by simp [timer]) (by simp [lost]), fun ok => by cases lost.symm.trans ok⟩
  refine Radio.Sends.setLink (fun lost => ?_) ?_
  · exact { linked := fun _ => stopped rfl lost }
  · exact { linked := fun _ => stopped rfl rfl }

end Sys2Proof.Machine
end

section
/-! The receiving side of a good radio: at most one frame is being processed, the other buffer rests, and the
processor that waits has its answer. The processor keeps it so when it takes frames (R159, R163, R164, R176). -/

namespace Sys2Proof.Machine

/-! ### The invariant -/

/-- A good buffer whose frame is not being processed: it is ASSEMBLING while the assembler is INSIDE it, and
what it HOLDS comes from a station. -/
structure Radio.Rests (r : Radio) (i : BufId) : Prop where
  good : (r.buf i).Good
  unprocessed : (r.buf i).state ≠ .processing
  inside : (r.buf i).state = .assembling ↔ r.assembler = some i
  station : (r.buf i).state = .held → r.FromStation i

/-- The two ways in which the processor and the buffers stand between events: idle with nothing HELD, or with
one frame whose answer waits for a slot (R163, R164, R176). -/
inductive Radio.Arranged (r : Radio) : Prop where
  | idle (busy : r.busy = false) (waiting : r.waiting = none) (rests : ∀ i, r.Rests i)
      (unheld : ∀ i, (r.buf i).state ≠ .held)
  | working (i : BufId) (a : Answer) (busy : r.busy = true) (waiting : r.waiting = some a)
      (fits : a.body.length ≤ 56) (good : (r.buf i).Good) (processing : (r.buf i).state = .processing)
      (outside : r.assembler ≠ some i) (rests : r.Rests i.other)

theorem BufId.forall_iff {P : BufId → Prop} (i : BufId) : (∀ k, P k) ↔ P i ∧ P i.other :=
  ⟨fun h => ⟨h i, h i.other⟩, fun ⟨same, other⟩ k => by
    obtain rfl | rfl := BufId.eq_or_other i k
    · exact same
    · exact other⟩

/-- What rests does so wherever its buffer, the assembler's place and the mode are the same. -/
theorem Radio.Rests.congr {r q : Radio} {i : BufId} (h : r.Rests i) (buf : q.buf i = r.buf i)
    (assembler : q.assembler = some i ↔ r.assembler = some i) (current : q.current = r.current) :
    q.Rests i where
  good := buf ▸ h.good
  unprocessed := buf ▸ h.unprocessed
  inside := by rw [buf, assembler]; exact h.inside
  station := by unfold Radio.FromStation; rw [buf, current]; exact h.station

theorem Radio.Rests.outbound {r q : Radio} {i : BufId} (h : r.Rests i) (k : r.Outbound q) : q.Rests i :=
  h.congr (k.buf i) (by rw [k.assembler]) k.current

theorem Radio.Arranged.congr {r q : Radio} (h : r.Arranged) (busy : q.busy = r.busy)
    (waiting : q.waiting = r.waiting) (assembler : q.assembler = r.assembler) (buf : ∀ i, q.buf i = r.buf i)
    (current : q.current = r.current) : q.Arranged := by
  have rests (i : BufId) (h : r.Rests i) : q.Rests i := h.congr (buf i) (by rw [assembler]) current
  cases h with
  | idle off noAnswer all unheld =>
    exact .idle (busy.trans off) (waiting.trans noAnswer) (fun i => rests i (all i))
      fun i => by rw [buf]; exact unheld i
  | working i a on answer fits good processing outside other =>
    exact .working i a (busy.trans on) (waiting.trans answer) fits (by rw [buf]; exact good)
      (by rw [buf]; exact processing) (by rw [assembler]; exact outside) (rests _ other)

theorem Radio.Arranged.outbound {r q : Radio} (h : r.Arranged) (k : r.Outbound q) : q.Arranged :=
  h.congr k.busy k.waiting k.assembler k.buf k.current

/-! ### A good radio is arranged, and an arranged one has good buffers -/

theorem mem_bothBuffers (i : BufId) : i ∈ [BufId.buf0, .buf1] := by cases i <;> simp

theorem Radio.Arranged.of_good {r : Radio} (buffers : r.BuffersGood) (held : r.HeldGood)
    (waits : ∀ a ∈ r.waiting, a.body.length ≤ 56) : r.Arranged := by
  obtain ⟨good0, good1, each, busy, waiting, -⟩ := buffers
  have good (i : BufId) : (r.buf i).Good := by cases i <;> assumption
  have rests (i : BufId) (unprocessed : (r.buf i).state ≠ .processing) : r.Rests i :=
    ⟨good i, unprocessed, (each i (mem_bothBuffers i)).1, fun holds mode =>
      held mode i (mem_bothBuffers i) holds⟩
  cases working : r.busy with
  | false =>
    have none_ : ∀ i, (r.buf i).state ≠ .processing := fun i processing => by
      have on := busy.mpr (by cases i <;> simp_all [Radio.buf])
      cases working.symm.trans on
    refine .idle working ?_ (fun i => rests i (none_ i)) fun i holds => ?_
    · cases found : r.waiting with
      | none => rfl
      | some a => cases working.symm.trans (waiting.mp (by rw [found]; rfl))
    · exact none_ _ ((each i (mem_bothBuffers i)).2.1 holds)
  | true =>
    obtain ⟨i, processing⟩ : ∃ i, (r.buf i).state = .processing := by
      obtain first | second := busy.mp working
      · exact ⟨.buf0, first⟩
      · exact ⟨.buf1, second⟩
    obtain ⟨a, found⟩ := Option.isSome_iff_exists.mp (waiting.mpr working)
    obtain ⟨inside, -, single⟩ := each i (mem_bothBuffers i)
    refine .working i a working found (waits a found) (good i) processing (fun in_ => ?_)
        (rests _ (single processing))
    cases processing.symm.trans (inside.mpr in_)

theorem Radio.Arranged.buffers {r : Radio} (h : r.Arranged)
    (silence : r.silence.isSome ↔ r.assembler.isSome) :
    r.BuffersGood := by
  cases h with
  | idle busy waiting rests unheld =>
    refine ⟨(rests .buf0).good, (rests .buf1).good, fun i _ =>
        ⟨(rests i).inside, fun holds => absurd holds (unheld i),
      fun processing => absurd processing (rests i).unprocessed⟩, ?_, by simp [busy, waiting], silence⟩
    rw [busy]
    refine iff_of_false (by decide) ?_
    rintro (first | second)
    · exact (rests .buf0).unprocessed first
    · exact (rests .buf1).unprocessed second
  | working i a busy waiting fits good processing outside rests =>
    have both : ∀ k, (r.buf k).Good := (BufId.forall_iff i).mpr ⟨good, rests.good⟩
    refine ⟨both .buf0, both .buf1, fun k _ => (BufId.forall_iff (P := fun k =>
      ((r.buf k).state = .assembling ↔ r.assembler = some k)
        ∧ ((r.buf k).state = .held → (r.buf k.other).state = .processing)
        ∧ ((r.buf k).state = .processing → (r.buf k.other).state ≠ .processing)) i).mpr ⟨?_, ?_⟩ k, ?_,
      by simp [busy, waiting], silence⟩
    · exact ⟨iff_of_false (by simp [processing]) outside, fun holds => (by cases processing.symm.trans holds),
        fun _ => rests.unprocessed⟩
    · rw [BufId.other_other]
      exact ⟨rests.inside, fun _ => processing, fun again => absurd again rests.unprocessed⟩
    · rw [busy]
      refine iff_of_true rfl ?_
      cases i
      · exact .inl processing
      · exact .inr processing

theorem Radio.Arranged.held {r : Radio} (h : r.Arranged) : r.HeldGood := by
  intro mode i _ holds
  cases h with
  | idle busy waiting rests unheld => exact absurd holds (unheld i)
  | working j a busy waiting fits good processing outside rests =>
    obtain rfl | rfl := BufId.eq_or_other j i
    · cases processing.symm.trans holds
    · exact rests.station holds mode

theorem Radio.Arranged.waits {r : Radio} (h : r.Arranged) : ∀ a ∈ r.waiting, a.body.length ≤ 56 := by
  intro a found
  cases h with
  | idle busy waiting rests unheld => cases waiting.symm.trans found
  | working i b busy waiting fits good processing outside rests =>
    cases waiting.symm.trans found
    exact fits

end Sys2Proof.Machine
end

section
/-! The processor: taking frames, finishing a processing that waited, and placing waiting items keep the
radio arranged and carry its sending side (R163, R164, R176 to R182, R185). -/

namespace Sys2Proof.Machine

/-! ### Checked frames (R162) -/

/-- A content that passes its checks has a body of at most 56 bytes, and at most 62 bytes in all. -/
theorem checkContent_none {c : List Byte} (h : checkContent c = none) :
    c.length ≤ 62 ∧ (frameOf c).body.length ≤ 56 := by
  unfold checkContent at h
  dsimp only at h
  split at h
  · cases h
  · split at h
    · cases h
    · next short =>
      split at h
      · cases h
      · next whole =>
        have bound : (c.getD 3 0).toNat ≤ 56 := not_lt.mp short
        refine ⟨by omega, ?_⟩
        simp only [frameOf, List.length_take, List.length_drop]
        omega

/-! ### The work on a frame (R176 to R181) -/

/-- An answer's body is 4 bytes, a POSITION_REPORT's 11, and a TABLE_REPORT's at most 56 (R67, R207). -/
theorem State.tableReport_length (n : Nat) (s : State) : (s.tableReport n).length ≤ 56 := by
  have entries (rs : List Record) :
      (rs.flatMap fun r => u16 r.number ++ u8 (kindCode r.imposes.kind)).length = 3 * rs.length := by
    simp [u16, u8, mul_comm]
  have taken : ((s.table.recordsOf (.station n)).take Config.reportEntries).length ≤ 18 :=
    List.length_take_le _ _
  unfold State.tableReport
  simp only [List.length_append, entries]
  simp only [u8, bool, List.length_singleton]
  omega

theorem State.processStation_sends {f : Frame} (fits : f.body.length ≤ 56) (s : State) :
    s.radio.Sends (s.processStation f).1.radio
      ∧ ∀ k body, (s.processStation f).2 = some (k, body) → body.length ≤ 56 := by
  have same := Radio.Sends.refl s.radio
  unfold State.processStation
  split
  · split
    · refine ⟨same.issueRecord _ _ _, ?_⟩
      rintro _ _ ⟨⟩
      simp [answerBody, bytes16, u8]
    · exact ⟨same, fun _ _ reply => by cases reply⟩
  · split
    · split
      · dsimp only [State.processRevoke]
        split
        · refine ⟨same.revokeSlot _, ?_⟩
          rintro _ _ ⟨⟩
          simp [answerBody, bytes16, u8]
        · refine ⟨same, ?_⟩
          rintro _ _ ⟨⟩
          simp [answerBody, bytes16, u8]
      · exact ⟨same, fun _ _ reply => by cases reply⟩
    · split
      · refine ⟨same, ?_⟩
        rintro _ _ ⟨⟩
        simp [State.positionReport, u24, u16, u8]
      · split
        · refine ⟨same, ?_⟩
          rintro _ _ ⟨⟩
          exact s.tableReport_length _
        · split
          · refine ⟨same.deliver fits, ?_⟩
            rintro _ _ ⟨⟩
            simp [answerBody, bytes16, u8]
          · exact ⟨same, fun _ _ reply => by cases reply⟩

/-- What the sending side does is done beside a waiting answer (R176). -/
theorem Radio.Sends.beside {r q : Radio} (h : r.Sends q) (a : Option Answer) :
    Radio.Sends { r with waiting := a } { q with waiting := a } where
  rest := by
    have rest := h.rest
    unfold Radio.Outbound at rest ⊢
    rw [rest]
  sending good := { h.sending { good with } with }
  mailed := h.mailed
  linked := h.linked
  louder := h.louder

/-- The taking of a frame makes the processor BUSY, and it finishes or leaves an answer that waits. -/
theorem State.processFrame_sends {f : Frame} (fits : f.body.length ≤ 56) (s : State) :
    ((s.processFrame f).2 = true ∧ Radio.Sends { s.radio with busy := true } (s.processFrame f).1.radio)
      ∨ ((s.processFrame f).2 = false ∧ ∃ a : Answer, a.body.length ≤ 56
        ∧ Radio.Sends { s.radio with busy := true, waiting := some a } (s.processFrame f).1.radio) := by
  have busy : Radio.Sends { s.radio with busy := true } (s.onRadio fun r => { r with busy := true }).radio :=
    .refl _
  unfold State.processFrame
  dsimp only
  split
  · exact .inl ⟨rfl, busy.deliver fits⟩
  · obtain ⟨work, bodies⟩ := State.processStation_sends fits (s.onRadio fun r => { r with busy := true })
    split
    · next kind body reply =>
      have fits := bodies kind body reply
      split
      · split
        · next room => 
          refine .inl ⟨rfl, ?_⟩
          exact Radio.Sends.judgeStart
              (Radio.Sends.place work room (by decide) fits (fun no => by cases no) _ _ _)
        · exact .inr ⟨rfl, ⟨kind, f.source, body⟩, fits, work.beside _⟩
      · exact .inl ⟨rfl, work⟩
    · exact .inl ⟨rfl, work⟩

/-! ### The processor takes frames (R164, R176) -/

/-- An operation that leaves the radio arranged and carries the rest of it. -/
def Radio.Serves (r q : Radio) : Prop := r.Arranged → r.Carries q ∧ q.Arranged

theorem Radio.Sends.serves {r q : Radio} (h : r.Sends q) : r.Serves q :=
  fun arranged => ⟨h.carries, arranged.outbound h.rest⟩

theorem Radio.Serves.trans {r q p : Radio} (h : r.Serves q) (k : q.Serves p) : r.Serves p :=
    fun arranged => by
  obtain ⟨carries, arranged⟩ := h arranged
  obtain ⟨more, arranged⟩ := k arranged
  exact ⟨carries.trans more, arranged⟩

/-- The frame of a buffer is about to be taken: it has passed its checks, the assembler is elsewhere, the
other buffer rests, and no answer waits. -/
structure Radio.Transit (r : Radio) (i : BufId) : Prop where
  checked : checkContent (r.buf i).content = none
  outside : r.assembler ≠ some i
  rests : r.Rests i.other
  waiting : r.waiting = none

/-- The radio with another content of a buffer, another state of the processor, and another waiting answer. -/
def Radio.process (r : Radio) (i : BufId) (b : FrameBuffer) (busy : Bool) (waiting : Option Answer) : Radio :=
  { r.setBuf b i with busy := busy, waiting := waiting }

section
variable (r : Radio) (i : BufId) (b : FrameBuffer) (busy : Bool) (waiting : Option Answer)

@[simp] theorem Radio.process_same : (r.process i b busy waiting).buf i = b := by cases i <;> rfl

@[simp] theorem Radio.process_other : (r.process i b busy waiting).buf i.other = r.buf i.other := by
  cases i <;> rfl

@[simp] theorem Radio.process_assembler : (r.process i b busy waiting).assembler = r.assembler := by
  cases i <;> rfl

@[simp] theorem Radio.process_waiting : (r.process i b busy waiting).waiting = waiting := rfl

/-- The processor and the buffers are of no sending side. -/
theorem Radio.process_carries : r.Carries (r.process i b busy waiting) := by cases i <;> exact {}

theorem Radio.Rests.process {r : Radio} {i : BufId} (h : r.Rests i.other) (b : FrameBuffer) (busy : Bool)
    (waiting : Option Answer) : (r.process i b busy waiting).Rests i.other :=
  h.congr (by simp) (by simp) (by cases i <;> rfl)

end

theorem Radio.Rests.freed {r : Radio} {i : BufId} (freed : r.buf i = .freed)
    (outside : r.assembler ≠ some i) :
    r.Rests i where
  good := by rw [freed]; exact ⟨Nat.zero_le _, fun _ => rfl, by simp [FrameBuffer.freed]⟩
  unprocessed := by rw [freed]; decide
  inside := by rw [freed]; exact iff_of_false (by decide) outside
  station held := by rw [freed] at held; cases held

/-- The buffer of a frame that is done becomes FREE, beside another buffer that rests. -/
structure Radio.Released (r : Radio) (i : BufId) : Prop where
  freed : r.buf i = .freed
  outside : r.assembler ≠ some i
  rests : r.Rests i.other
  waiting : r.waiting = none

theorem Radio.Rests.release {r : Radio} {i : BufId} (h : r.Rests i.other) (outside : r.assembler ≠ some i)
    (waiting : r.waiting = none) : r.Carries (r.freeBuf i) ∧ (r.freeBuf i).Released i
      ∧ (r.freeBuf i).buf i.other = r.buf i.other := by
  have freeing : r.freeBuf i = r.process i .freed r.busy r.waiting := by cases i <;> rfl
  rw [freeing]
  exact ⟨r.process_carries _ _ _ _, ⟨by simp, by simpa using outside, h.process _ _ _, waiting⟩, by simp⟩

/-- A frame that is HELD can be taken. -/
theorem Radio.Released.transit {r : Radio} {i : BufId} (h : r.Released i)
    (held : (r.buf i.other).state = .held) :
    r.Transit i.other where
  checked := h.rests.good.2.2 (.inl held)
  outside in_ := by cases held.symm.trans (h.rests.inside.mpr in_)
  rests := by rw [BufId.other_other]; exact .freed h.freed h.outside
  waiting := h.waiting

/-- With no frame HELD the processor is idle. -/
theorem Radio.Released.idle {r : Radio} {i : BufId} (h : r.Released i)
    (unheld : (r.buf i.other).state ≠ .held) : ({ r with busy := false } : Radio).Arranged := by
  have buf (k : BufId) : ({ r with busy := false } : Radio).buf k = r.buf k := by cases k <;> rfl
  refine .idle rfl h.waiting ((BufId.forall_iff i).mpr ⟨?_, ?_⟩) ((BufId.forall_iff i).mpr ⟨?_, ?_⟩)
  · exact (Radio.Rests.freed h.freed h.outside).congr (buf _) Iff.rfl rfl
  · exact h.rests.congr (buf _) Iff.rfl rfl
  · rw [buf, h.freed]; decide
  · rw [buf]; exact unheld

/-- Taking the frame of a buffer, and the one that is HELD behind it, leaves the radio arranged; two frames
can be taken, and one where none is HELD. -/
theorem State.takeFrames_arranged (n : Nat) {s : State} {i : BufId} (h : s.radio.Transit i)
    (bound : (s.radio.buf i.other).state = .held → 0 < n) :
    s.radio.Carries (s.takeFrames (n + 1) i).radio ∧ (s.takeFrames (n + 1) i).radio.Arranged := by
  obtain ⟨checked, outside, rests, waiting⟩ := h
  obtain ⟨short, fits⟩ := checkContent_none checked
  have cases_ := State.processFrame_sends fits (s.onRadio (Radio.moveBuf .processing i))
  rw [State.takeFrames_succ]
  generalize (s.onRadio (Radio.moveBuf .processing i)).processFrame (frameOf (s.radio.buf i).content) = w at *
  have good : ({ s.radio.buf i with state := .processing } : FrameBuffer).Good :=
    ⟨short.trans (by decide), by simp, fun _ => checked⟩
  obtain ⟨finished, left⟩ | ⟨waits, a, answer, left⟩ := cases_
  · have begun : ({ s.radio.moveBuf .processing i with busy := true } : Radio)
        = s.radio.process i { s.radio.buf i with state := .processing } true none := by
      rw [← waiting]; cases i <;> rfl
    have left : Radio.Sends _ w.1.radio := begun ▸ left
    obtain ⟨freeing, released, kept⟩ := Radio.Rests.release ((rests.process _ _ _).outbound left.rest)
      (by rw [left.rest.assembler, Radio.process_assembler]; exact outside) left.rest.waiting
    have carries : s.radio.Carries (w.1.radio.freeBuf i) :=
      ((s.radio.process_carries _ _ _ _).trans left.carries).trans freeing
    have other : (w.1.radio.freeBuf i).buf i.other = s.radio.buf i.other := by
      rw [kept, left.rest.buf, Radio.process_other]
    rw [if_neg (by simp [finished])]
    split
    · next held =>
      obtain ⟨m, rfl⟩ := Nat.exists_eq_succ_of_ne_zero (bound held).ne'
      rw [← other] at held
      obtain ⟨more, arranged⟩ := State.takeFrames_arranged m (s := w.1.onRadio (Radio.freeBuf i))
        (released.transit held) fun again => by
          rw [BufId.other_other, State.onRadio_radio, released.freed] at again
          cases again
      exact ⟨carries.trans more, arranged⟩
    · next unheld =>
      rw [← other] at unheld
      exact ⟨carries.trans {}, released.idle unheld⟩
  · have left : Radio.Sends (s.radio.process i { s.radio.buf i with state := .processing } true (some a))
        w.1.radio := left
    have carries := s.radio.process_carries i { s.radio.buf i with state := .processing } true (some a)
    have arranged := Radio.Arranged.working i a rfl rfl answer (by rw [Radio.process_same]; exact good)
      (by rw [Radio.process_same]) (by rw [Radio.process_assembler]; exact outside)
      (rests.process { s.radio.buf i with state := .processing } true (some a))
    rw [if_pos waits]
    exact ⟨carries.trans left.carries, arranged.outbound left.rest⟩
termination_by n

/-- The finish of a processing that waited takes the HELD frame, or leaves the processor idle (R164). -/
theorem State.finishProcessing_arranged {s : State} {i : BufId}
    (processing : (s.radio.buf i).state = .processing)
    (outside : s.radio.assembler ≠ some i) (rests : s.radio.Rests i.other)
      (waiting : s.radio.waiting = none) :
    s.radio.Carries s.finishProcessing.radio ∧ s.finishProcessing.radio.Arranged := by
  have found : s.radio.findBuf .processing = some i := by
    cases found : s.radio.findBuf .processing with
    | none => exact absurd processing (Radio.findBuf_eq_none found i)
    | some j =>
      obtain rfl | rfl := BufId.eq_or_other i j
      · rfl
      · exact absurd (Radio.findBuf_eq_some found) rests.unprocessed
  obtain ⟨carries, released, other⟩ := rests.release outside waiting
  have next := Radio.findBuf_of_not (r := s.radio.freeBuf i) (st := .held) (i := i)
    (by rw [released.freed]; decide)
  unfold State.finishProcessing
  rw [found]
  dsimp only [State.onRadio_radio]
  rw [next]
  by_cases held : ((s.radio.freeBuf i).buf i.other).state = .held
  · rw [if_pos held]
    obtain ⟨more, arranged⟩ := State.takeFrames_arranged 1 (s := s.onRadio (Radio.freeBuf i))
      (released.transit held) fun _ => Nat.one_pos
    exact ⟨carries.trans more, arranged⟩
  · rw [if_neg held]
    exact ⟨carries.trans {}, released.idle held⟩

/-! ### Waiting items (R185) -/

section
variable {r : Radio} {s : State}

theorem Radio.Sends.placePending (h : r.Sends s.radio) : r.Sends s.placePending.radio := by
  unfold State.placePending
  split
  · next body found =>
    split
    · next able =>
      have room : s.radio.hasRoom = true := (Bool.and_eq_true_iff.mp able).2
      refine h.trans { sending := fun good => ?_ }
      exact { good.placeAlarm room (good.pending body found) with pending := fun b none_ => by cases none_ }
    · exact h
  · exact h

/-- The waiting answer takes a slot, and its processing finishes (R176, R185). -/
theorem State.placeWaitingAnswer_serves (s : State) : s.radio.Serves s.placeWaitingAnswer.radio := by
  intro arranged
  unfold State.placeWaitingAnswer
  split
  · next a found =>
    split
    · next able =>
      have room : s.radio.hasRoom = true := (Bool.and_eq_true_iff.mp able).2
      cases arranged with
      | idle busy waiting => cases waiting.symm.trans found
      | working i b busy waiting fits good processing outside rests =>
        cases waiting.symm.trans found
        have placed : Radio.Carries s.radio
            { s.radio.place a.kind 3 .part a.destination a.body false with waiting := none } :=
          { sending := fun h => { h.place room (le_refl 3) fits (fun no => by cases no) _ _ _ with } }
        obtain ⟨carries, arranged⟩ := State.finishProcessing_arranged (i := i) (s := s.onRadio fun r =>
          { r.place a.kind 3 .part a.destination a.body false with waiting := none })
          (by cases i <;> exact processing) outside (rests.congr (by cases i <;> rfl) Iff.rfl rfl) rfl
        exact ⟨placed.trans carries, arranged⟩
    · exact (Radio.Sends.refl _).serves arranged
  · exact (Radio.Sends.refl _).serves arranged

theorem Radio.Serves.placeWaiting (h : r.Serves s.radio) : r.Serves s.placeWaiting.radio :=
  h.trans ((Radio.Sends.placePending (.refl _)).serves.trans (State.placeWaitingAnswer_serves _))

theorem Radio.Serves.judgeStart (h : r.Serves s.radio) : r.Serves s.judgeStart.radio :=
  h.trans (Radio.Sends.judgeStart (.refl _)).serves

theorem Radio.Serves.startFrame (h : r.Serves s.radio) : r.Serves s.startFrame.radio :=
  h.trans (Radio.Sends.startFrame (.refl _)).serves

end

end Sys2Proof.Machine
end

section
/-! A good radio in its parts, and the mode change on a quiet line: what a good radio is but for the silence
timer and a mode change that waits, and how the entry to a mode keeps it (R161, R167, R168, R171). -/

namespace Sys2Proof.Machine

/-! ### A good radio in its parts -/

/-- A good radio but for its silence timer and for a mode change that waits, which an event settles last. -/
structure Radio.Sound (r : Radio) : Prop where
  arranged : r.Arranged
  sending : r.Sending
  mailbox : r.MailboxGood
  link : r.LinkGood
  listens : r.assembler.isSome → r.current ≠ .off ∧ r.current ≠ .config

theorem Radio.Good.sound {r : Radio} (h : r.Good) : r.Sound := by
  obtain ⟨length, handle, single, inFlight, entries, waits, pending⟩ := h.queue
  obtain ⟨key, mode, listens, -⟩ := h.line
  exact ⟨.of_good h.buffers h.held waits,
    ⟨length, handle, single, inFlight, entries, pending, key, mode, h.sequence⟩, h.mailbox, h.link, listens⟩

theorem Radio.Good.silence {r : Radio} (h : r.Good) : r.silence.isSome ↔ r.assembler.isSome := by
  obtain ⟨-, -, -, -, -, silence⟩ := h.buffers
  exact silence

theorem Radio.Good.settled {r : Radio} (h : r.Good) : r.changeWaits = true → r.quiet = false := by
  obtain ⟨-, -, -, settled⟩ := h.line
  exact settled

theorem Radio.Sound.good {r : Radio} (h : r.Sound) (silence : r.silence.isSome ↔ r.assembler.isSome)
    (settled : r.changeWaits = true → r.quiet = false) : r.Good where
  buffers := h.arranged.buffers silence
  held := h.arranged.held
  queue := ⟨h.sending.length, h.sending.handle, h.sending.single, h.sending.inFlight, h.sending.entries,
    h.arranged.waits, h.sending.pending⟩
  mailbox := h.mailbox
  line := ⟨h.sending.key, h.sending.mode, h.listens, settled⟩
  link := h.link
  sequence := h.sending.sequence

theorem Radio.Sound.serves {r q : Radio} (h : r.Sound) (k : r.Serves q) : q.Sound := by
  obtain ⟨carries, arranged⟩ := k h.arranged
  refine ⟨arranged, carries.sending h.sending, carries.mailed h.mailbox, carries.linked h.link, ?_⟩
  rw [carries.assembler, carries.current]
  exact h.listens

/-- A line that is not quiet stays so. -/
theorem Radio.Carries.quiet {r q : Radio} (h : r.Carries q) (loud : r.quiet = false) : q.quiet = false := by
  unfold Radio.quiet at loud ⊢
  rw [h.assembler]
  cases inside : r.assembler with
  | some i => rfl
  | none =>
    rw [inside] at loud
    have on : r.tx.isSome = true := by cases tx : r.tx <;> simp_all
    obtain ⟨t, flight⟩ := Option.isSome_iff_exists.mp (h.louder on)
    rw [flight]
    rfl

/-- What serves a good radio leaves it good. -/
theorem Radio.Good.serves {r q : Radio} (h : r.Good) (k : r.Serves q) : q.Good := by
  obtain ⟨carries, -⟩ := k h.sound.arranged
  refine (h.sound.serves k).good ?_ fun waits => carries.quiet (h.settled ?_)
  · rw [carries.silence, carries.assembler]; exact h.silence
  · rwa [Radio.changeWaits, carries.requested, carries.current] at waits

/-! ### The entry to a mode (R168) -/

/-- The receiving side under another current mode, where what is HELD is still of a station. -/
theorem Radio.Arranged.inMode {r q : Radio} (h : r.Arranged) (busy : q.busy = r.busy)
    (waiting : q.waiting = r.waiting) (assembler : q.assembler = r.assembler) (buf : ∀ i, q.buf i = r.buf i)
    (station : r.current ≠ .selftest ∨ ∀ i, (r.buf i).state ≠ .held) : q.Arranged := by
  have rests (i : BufId) (h : r.Rests i) : q.Rests i := by
    refine ⟨buf i ▸ h.good, buf i ▸ h.unprocessed, by rw [buf, assembler]; exact h.inside, fun held _ => ?_⟩
    rw [buf] at held ⊢
    obtain old | unheld := station
    · exact h.station held old
    · exact absurd held (unheld i)
  cases h with
  | idle off noAnswer all unheld =>
    exact .idle (busy.trans off) (waiting.trans noAnswer) (fun i => rests i (all i)) fun i => by
      rw [buf]; exact unheld i
  | working i a on answer fits good processing outside other =>
    exact .working i a (busy.trans on) (waiting.trans answer) fits (by rw [buf]; exact good)
      (by rw [buf]; exact processing) (by rw [assembler]; exact outside) (rests _ other)

/-- A discarded HELD frame leaves none (R168). -/
theorem Radio.Arranged.discardHeld {r : Radio} (h : r.Arranged) :
    r.discardHeld.Arranged ∧ ∀ i, (r.discardHeld.buf i).state ≠ .held := by
  unfold Radio.discardHeld
  cases found : r.findBuf .held with
  | none => exact ⟨h, Radio.findBuf_eq_none found⟩
  | some j =>
    have held := Radio.findBuf_eq_some found
    cases h with
    | idle busy waiting rests unheld => exact absurd held (unheld j)
    | working i a busy waiting fits good processing outside rests =>
      obtain rfl | rfl := BufId.eq_or_other i j
      · cases processing.symm.trans held
      have freeing : r.freeBuf i.other = r.process i.other .freed r.busy r.waiting := by cases i <;> rfl
      have same : (r.freeBuf i.other).buf i = r.buf i := by cases i <;> rfl
      have freed : (r.freeBuf i.other).buf i.other = .freed := by rw [freeing, Radio.process_same]
      have assembler : (r.freeBuf i.other).assembler = r.assembler := by rw [freeing, Radio.process_assembler]
      have apart : r.assembler ≠ some i.other := fun in_ => by cases held.symm.trans (rests.inside.mpr in_)
      dsimp only
      refine ⟨.working i a (by rw [freeing]; exact busy) (by rw [freeing]; exact waiting)
          fits (by rw [same]; exact good)
        (by rw [same]; exact processing) (by rw [assembler]; exact outside)
          (.freed freed (by rw [assembler]; exact apart)),
        (BufId.forall_iff i).mpr ⟨?_, ?_⟩⟩
      · rw [same, processing]; decide
      · rw [freed]; decide

theorem Radio.discardHeld_inMode (m : LinkMode) (r : Radio) :
    ({ r with current := m, markLatch := false, linkTimer := none } : Radio).discardHeld
      = { r.discardHeld with current := m, markLatch := false, linkTimer := none } := by
  have found : ({ r with current := m, markLatch := false, linkTimer := none } : Radio).findBuf .held
      = r.findBuf .held := rfl
  unfold Radio.discardHeld
  rw [found]
  split
  · next i _ => cases i <;> rfl
  · rfl

/-- With the assembler OUTSIDE no buffer is ASSEMBLING. -/
theorem Radio.Arranged.unassembled {r : Radio} (h : r.Arranged) (outside : r.assembler = none) (i : BufId) :
    (r.buf i).state ≠ .assembling := by
  intro assembling
  cases h with
  | idle busy waiting rests unheld => cases outside.symm.trans ((rests i).inside.mp assembling)
  | working j a busy waiting fits good processing apart rests =>
    obtain rfl | rfl := BufId.eq_or_other j i
    · cases processing.symm.trans assembling
    · cases outside.symm.trans (rests.inside.mp assembling)

/-- The radio as a mode is entered on a quiet line, but for its buffers and its link. -/
structure Radio.Entered (r q : Radio) (m : LinkMode) : Prop where
  sending : q.Sending
  mailbox : q.MailboxGood
  outside : q.assembler = none
  silence : q.silence = r.silence
  requested : q.requested = r.requested
  current : q.current = m
  timer : q.linkTimer = none

theorem State.removeEntries_linkTimer (test : QueueEntry → Bool) (result : TxResult) (s : State) :
    (s.removeEntries test result).radio.linkTimer = s.radio.linkTimer := by
  unfold State.removeEntries
  refine List.foldlRecOn _ _ (motive := fun t : State => t.radio.linkTimer = s.radio.linkTimer) rfl
    fun t same e _ => ?_
  unfold State.reportLeaving
  split <;> exact same

/-- The entry to OFF or CONFIG discards what is unsent and frees the buffers and the processor (R168). -/
theorem Radio.Entered.enterQuietMode {r : Radio} {s : State} {m : LinkMode} (h : r.Entered s.radio m)
    (unassembled : ∀ i, (s.radio.buf i).state ≠ .assembling) :
    r.Entered s.enterQuietMode.radio m ∧ s.enterQuietMode.radio.Arranged := by
  have left : s.radio.Sends (s.removeEntries (fun e => !e.started) .discarded).radio :=
    Radio.Sends.removeEntries (.refl _) (fun e unsent => by simpa using unsent) _
  have freed (i : BufId) : s.enterQuietMode.radio.buf i = .freed := by
    have other := unassembled i
    rw [← left.rest.buf] at other
    unfold State.enterQuietMode
    cases i <;> exact if_neg other
  have outside : s.enterQuietMode.radio.assembler = none := left.rest.assembler.trans h.outside
  have apart (i : BufId) : s.enterQuietMode.radio.assembler ≠ some i := by rw [outside]; simp
  refine ⟨⟨?_, left.mailed h.mailbox, outside, left.rest.silence.trans h.silence,
    left.rest.requested.trans h.requested, left.rest.current.trans h.current,
    (State.removeEntries_linkTimer _ _ s).trans h.timer⟩,
    .idle rfl rfl (fun i => .freed (freed i) (apart i)) fun i => by rw [freed]; decide⟩
  exact { left.sending h.sending with pending := fun b missing => by cases missing }

theorem Radio.Entered.discardHeld {r q : Radio} {m : LinkMode} (h : r.Entered q m) :
    r.Entered q.discardHeld m := by
  unfold Radio.discardHeld
  split
  · next i _ =>
    cases i <;>
      exact ⟨{ h.sending with }, h.mailbox, h.outside, h.silence, h.requested, h.current, h.timer⟩
  · exact h

/-- The entry effects of a mode on a quiet line (R168). -/
theorem State.enterMode_entered {s : State} (h : s.radio.Sound) (idle : s.radio.tx = none)
    (outside : s.radio.assembler = none) (m : LinkMode) :
    let entered := (s.onRadio fun r =>
      { r with current := m, markLatch := false, linkTimer := none }).setFlag .radio
    let t := if m = .off ∨ m = .config then entered.enterQuietMode
      else if discardsHeld s.radio.current m then entered.onRadio Radio.discardHeld
      else entered
    s.radio.Entered t.radio m ∧ t.radio.Arranged := by
  intro entered t
  have noKey : s.radio.key = false := by
    rw [Bool.eq_false_iff, Ne, h.sending.key, idle]
    simp
  have sending : entered.radio.Sending :=
    { h.sending with
      key := by rw [show entered.radio.key = false from noKey, show entered.radio.tx = none from idle]; simp
      mode := fun on => by rw [show entered.radio.tx = none from idle] at on; cases on }
  have base : s.radio.Entered entered.radio m := ⟨sending, h.mailbox, outside, rfl, rfl, rfl, rfl⟩
  have buf (i : BufId) : entered.radio.buf i = s.radio.buf i := by cases i <;> rfl
  show s.radio.Entered t.radio m ∧ t.radio.Arranged
  simp only [t]
  split
  · exact base.enterQuietMode fun i => by rw [buf]; exact h.arranged.unassembled outside i
  · split
    · obtain ⟨arranged, unheld⟩ := h.arranged.discardHeld
      have same : (entered.onRadio Radio.discardHeld).radio
          = { s.radio.discardHeld with current := m, markLatch := false, linkTimer := none } :=
        Radio.discardHeld_inMode m s.radio
      refine ⟨base.discardHeld, ?_⟩
      rw [same]
      exact arranged.inMode rfl rfl rfl (fun i => by cases i <;> rfl) (.inr unheld)
    · next loud kept =>
      refine ⟨base, h.arranged.inMode rfl rfl rfl buf (.inl fun old => kept ?_)⟩
      cases m <;> simp_all [discardsHeld]

/-! ### The mode change and the events of the line (R167) -/

/-- The assembler goes OUTSIDE and stops its timer, no mode change is left, and the radio is sound. -/
structure Radio.Changed (q : Radio) : Prop where
  sound : q.Sound
  silence : q.silence = none
  outside : q.assembler = none
  done : q.changeWaits = false

theorem Radio.Changed.good {q : Radio} (h : q.Changed) : q.Good :=
  h.sound.good (by simp [h.silence, h.outside]) fun waits => by cases h.done.symm.trans waits

/-- A mode change on a quiet line (R167, R168, R171, R185). -/
theorem State.changeMode_changed {s : State} (h : s.radio.Sound) (silence : s.radio.silence = none)
    (quiet : s.radio.quiet = true) : s.changeMode.radio.Changed := by
  obtain ⟨outside, idle⟩ := Bool.and_eq_true_iff.mp quiet
  obtain ⟨entered, arranged⟩ := State.enterMode_entered h (Option.isNone_iff_eq_none.mp idle)
    (Option.isNone_iff_eq_none.mp outside) s.radio.requested
  unfold State.changeMode
  dsimp only at entered arranged ⊢
  generalize (if s.radio.requested = .off ∨ s.radio.requested = .config then _ else _) = u
    at entered arranged ⊢
  generalize lost : (u.onRadio fun r => { r with
      link := .lost, linkLost := r.linkLost || decide (u.radio.link = .ok) }).setFlagIf
        (decide (u.radio.link = .ok)) .link = v
  have radio : v.radio = { u.radio with
      link := .lost, linkLost := u.radio.linkLost || decide (u.radio.link = .ok) } := by
    rw [← lost, State.setFlagIf_radio]; rfl
  have serves : v.radio.Serves ((v.placeWaiting.evaluateIf (decide (u.radio.link = .ok))).startFrame).radio :=
    Radio.Serves.startFrame (((Radio.Sends.refl _).serves.placeWaiting).trans
      (Radio.Sends.evaluateIf (.refl _) _).serves)
  have sound : v.radio.Sound := by
    rw [radio]
    exact ⟨arranged.outbound rfl, { entered.sending with }, entered.mailbox,
      ⟨iff_of_false (by simp [entered.timer]) (by simp), fun ok => by cases ok⟩,
      fun inside => by rw [show _ = none from entered.outside] at inside; cases inside⟩
  obtain ⟨carries, -⟩ := serves sound.arranged
  refine ⟨sound.serves serves, ?_, ?_, ?_⟩
  · rw [carries.silence, radio]; exact entered.silence.trans silence
  · rw [carries.assembler, radio]; exact entered.outside
  · rw [Radio.changeWaits, carries.requested, carries.current, radio]
    simp [entered.requested, entered.current]

theorem State.startFrame_starts {s : State} (able : s.radio.canStart = true) :
    s.startFrame.radio.tx.isSome = true := by
  have selected : (selectEntry s.radio.queue).isSome = true := by
    simp only [Radio.canStart, Bool.and_eq_true] at able
    exact able.1.2
  obtain ⟨e, found⟩ := Option.isSome_iff_exists.mp selected
  unfold State.startFrame
  rw [able, found]
  rfl

section
variable {s : State} (h : s.radio.Sound) (silence : s.radio.silence.isSome ↔ s.radio.assembler.isSome)
include h silence

/-- A change that waits is made when the line is quiet (R167). -/
theorem State.dueChange_changed (due : (s.radio.changeWaits && s.radio.quiet) = true) :
    s.changeMode.radio.Changed := by
  obtain ⟨-, quiet⟩ := Bool.and_eq_true_iff.mp due
  refine State.changeMode_changed h ?_ quiet
  obtain ⟨outside, -⟩ := Bool.and_eq_true_iff.mp quiet
  rw [Option.isNone_iff_eq_none.mp outside] at silence
  simpa using silence

/-- A radio whose change need not be made is good as it is. -/
theorem Radio.Sound.good_of_not_due (stays : ¬(s.radio.changeWaits && s.radio.quiet) = true) : s.radio.Good :=
  h.good silence fun waits => by simpa [waits] using stays

theorem State.judgeMode_good : s.judgeMode.radio.Good := by
  unfold State.judgeMode
  split
  · next due => exact (State.dueChange_changed h silence due).good
  · next stays => exact h.good_of_not_due silence stays

/-- An event that leaves the line quiet, or may: a start or a mode change, whichever is first (R167, R173). -/
theorem State.lineEvent_good : s.lineEvent.radio.Good := by
  unfold State.lineEvent
  split
  · next due =>
    split
    · next able =>
      dsimp only
      split
      · have serves : s.radio.Serves (({ s with free := s.free + 1 } : State).startFrame).radio :=
          Radio.Serves.startFrame (s := { s with free := s.free + 1 }) (Radio.Sends.refl _).serves
        obtain ⟨carries, -⟩ := serves h.arranged
        have started : (({ s with free := s.free + 1 } : State).startFrame).radio.tx.isSome = true :=
          State.startFrame_starts (s := { s with free := s.free + 1 }) able
        refine (h.serves serves).good (by rw [carries.silence, carries.assembler]; exact silence) fun _ => ?_
        obtain ⟨t, flight⟩ := Option.isSome_iff_exists.mp started
        simp [Radio.quiet, flight]
      · exact (State.dueChange_changed (s := { s with free := s.free + 1 }) h silence due).good
    · exact (State.dueChange_changed h silence due).good
  · next stays => exact (h.good_of_not_due silence stays).serves (Radio.Sends.refl _).serves.judgeStart

end

end Sys2Proof.Machine
end

section
/-! The receive assembler and the whole frames: every byte, every looped byte, every frame that arrives and the
end of a transmission leave a good radio good (R156 to R165, R169, R174). -/

namespace Sys2Proof.Machine

/-! ### The buffer that is assembled (R159 to R161) -/

/-- The assembler begins in a FREE buffer, or goes on in its own. -/
theorem Radio.Arranged.assemble {r : Radio} (h : r.Arranged) {i : BufId}
    (here : r.assembler = some i ∨ r.assembler = none ∧ (r.buf i).state = .free) {c : List Byte}
    (fits : c.length ≤ 64) : ({ r.setBuf ⟨.assembling, c⟩ i with assembler := some i } : Radio).Arranged := by
  set q : Radio := { r.setBuf ⟨.assembling, c⟩ i with assembler := some i }
  have same : q.buf i = ⟨.assembling, c⟩ := by cases i <;> rfl
  have other : q.buf i.other = r.buf i.other := by cases i <;> rfl
  have current : q.current = r.current := by cases i <;> rfl
  have busy : q.busy = r.busy := by cases i <;> rfl
  have waiting : q.waiting = r.waiting := by cases i <;> rfl
  have elsewhere : r.assembler ≠ some i.other := by
    obtain inside | ⟨outside, -⟩ := here
    · rw [inside]; cases i <;> decide
    · rw [outside]; simp
  have apart : q.assembler ≠ some i.other := by show some i ≠ some i.other; cases i <;> decide
  have assembled : q.Rests i := by
    refine ⟨?_, by rw [same]; simp, by rw [same]; exact iff_of_true rfl rfl, fun held => ?_⟩
    · rw [same]; exact ⟨fits, by simp, by simp⟩
    · rw [same] at held; cases held
  have kept (rests : r.Rests i.other) : q.Rests i.other :=
    rests.congr other (iff_of_false apart elsewhere) current
  cases h with
  | idle off noAnswer rests unheld =>
    refine .idle (busy.trans off) (waiting.trans noAnswer)
        ((BufId.forall_iff i).mpr ⟨assembled, kept (rests _)⟩)
      ((BufId.forall_iff i).mpr ⟨by rw [same]; simp, by rw [other]; exact unheld _⟩)
  | working j a on answer fits good processing outside rests =>
    obtain rfl | rfl := BufId.eq_or_other i j
    · obtain inside | ⟨-, free⟩ := here
      · exact absurd inside outside
      · cases processing.symm.trans free
    · refine .working i.other a (busy.trans on) (waiting.trans answer) fits (by rw [other]; exact good)
        (by rw [other]; exact processing) apart ?_
      rw [BufId.other_other]
      exact assembled

/-- The frame of a buffer has come to its end: the assembler is OUTSIDE, and the other buffer rests or is being
processed. -/
inductive Radio.Ended (r : Radio) (i : BufId) : Prop where
  | idle (outside : r.assembler = none) (busy : r.busy = false) (waiting : r.waiting = none)
      (rests : r.Rests i.other) (unheld : (r.buf i.other).state ≠ .held)
  | working (a : Answer) (outside : r.assembler = none) (busy : r.busy = true) (waiting : r.waiting = some a)
      (fits : a.body.length ≤ 56) (good : (r.buf i.other).Good)
        (processing : (r.buf i.other).state = .processing)

theorem Radio.Ended.outside {r : Radio} {i : BufId} (h : r.Ended i) : r.assembler = none := by
  cases h <;> assumption

theorem Radio.Arranged.ended {r : Radio} (h : r.Arranged) {i : BufId} (inside : r.assembler = some i) :
    ({ r with assembler := none, silence := none } : Radio).Ended i := by
  have buf (k : BufId) : ({ r with assembler := none, silence := none } : Radio).buf k = r.buf k := by
    cases k <;> rfl
  have elsewhere : r.assembler ≠ some i.other := by rw [inside]; cases i <;> decide
  cases h with
  | idle busy waiting rests unheld =>
    refine .idle rfl busy waiting ((rests i.other).congr (buf _) (iff_of_false (by simp) elsewhere) rfl) ?_
    rw [buf]; exact unheld _
  | working j a busy waiting fits good processing outside rests =>
    obtain rfl | rfl := BufId.eq_or_other i j
    · exact absurd inside outside
    · exact .working a rfl busy waiting fits (by rw [buf]; exact good) (by rw [buf]; exact processing)

theorem Radio.Ended.outbound {r q : Radio} {i : BufId} (h : r.Ended i) (k : r.Outbound q) : q.Ended i := by
  cases h with
  | idle outside busy waiting rests unheld =>
    exact .idle (k.assembler.trans outside) (k.busy.trans busy) (k.waiting.trans waiting) (rests.outbound k)
      (by rw [k.buf]; exact unheld)
  | working a outside busy waiting fits good processing =>
    exact .working a (k.assembler.trans outside) (k.busy.trans busy) (k.waiting.trans waiting) fits
      (by rw [k.buf]; exact good) (by rw [k.buf]; exact processing)

/-- A frame that is not handed on leaves its buffer FREE (R161 to R163). -/
theorem Radio.Ended.drop {r : Radio} {i : BufId} (h : r.Ended i) : (r.freeBuf i).Arranged := by
  have freeing : r.freeBuf i = r.process i .freed r.busy r.waiting := by cases i <;> rfl
  have freed : (r.freeBuf i).buf i = .freed := by rw [freeing, Radio.process_same]
  have other : (r.freeBuf i).buf i.other = r.buf i.other := by rw [freeing, Radio.process_other]
  have outside : (r.freeBuf i).assembler = none := by rw [freeing, Radio.process_assembler]; exact h.outside
  have rests : (r.freeBuf i).Rests i := .freed freed (by rw [outside]; simp)
  cases h with
  | idle _ busy waiting other_ unheld =>
    have kept : (r.freeBuf i).Rests i.other := by rw [freeing]; exact other_.process _ _ _
    exact .idle (by rw [freeing]; exact busy) (by rw [freeing]; exact waiting)
      ((BufId.forall_iff i).mpr ⟨rests, kept⟩)
      ((BufId.forall_iff i).mpr ⟨by rw [freed]; decide, by rw [other]; exact unheld⟩)
  | working a _ busy waiting fits good processing =>
    refine .working i.other a (by rw [freeing]; exact busy) (by rw [freeing]; exact waiting) fits
      (by rw [other]; exact good) (by rw [other]; exact processing) (by rw [outside]; simp) ?_
    rw [BufId.other_other]
    exact rests

/-- A complete frame is handed on: taken by an idle processor, HELD behind a BUSY one (R163). -/
theorem State.handFrame_arranged {s : State} {i : BufId} (h : s.radio.Ended i)
    (checked : checkContent (s.radio.buf i).content = none) (station : s.radio.FromStation i) :
    s.radio.Carries (s.handFrame i).radio ∧ (s.handFrame i).radio.Arranged := by
  unfold State.handFrame
  have outside := h.outside
  cases h with
  | idle _ busy waiting rests unheld =>
    rw [if_neg (by simp [busy])]
    exact State.takeFrames_arranged 1 ⟨checked, by rw [outside]; simp, rests, waiting⟩ fun _ => Nat.one_pos
  | working a _ busy waiting fits good processing =>
    rw [if_pos busy]
    obtain ⟨short, -⟩ := checkContent_none checked
    have moving : (s.onRadio (Radio.moveBuf .held i)).radio
        = s.radio.process i { s.radio.buf i with state := .held } s.radio.busy s.radio.waiting := by
      cases i <;> rfl
    rw [moving]
    refine ⟨s.radio.process_carries _ _ _ _, .working i.other a busy waiting fits
      (by rw [Radio.process_other]; exact good) (by rw [Radio.process_other]; exact processing)
      (by rw [Radio.process_assembler, outside]; simp) ?_⟩
    rw [BufId.other_other]
    refine ⟨?_, by rw [Radio.process_same]; simp, ?_, fun _ => ?_⟩
    · rw [Radio.process_same]
      exact ⟨short.trans (by decide), by simp, fun _ => checked⟩
    · rw [Radio.process_same, Radio.process_assembler, outside]
      exact iff_of_false (by simp) (by simp)
    · have current : (s.radio.process i { s.radio.buf i with state := .held }
          s.radio.busy s.radio.waiting).current
          = s.radio.current := by cases i <;> rfl
      unfold Radio.FromStation
      rw [Radio.process_same, current]
      exact station

/-! ### The symbols at the assembler (R157 to R163) -/

/-- What the assembler does with a byte: the radio stays sound, the modes are as they were, and the transmitter
does not fall idle. -/
structure Radio.Hears (r q : Radio) : Prop where
  sound : q.Sound
  requested : q.requested = r.requested
  current : q.current = r.current
  louder : r.tx.isSome = true → q.tx.isSome = true

/-- The frame has ended: the assembler is OUTSIDE with its timer stopped. -/
structure Radio.Leaves (r q : Radio) : Prop extends r.Hears q where
  outside : q.assembler = none
  silence : q.silence = none

theorem Radio.Hears.of_sends {r q p : Radio} (h : r.Hears q) (k : q.Sends p) : r.Hears p where
  sound := h.sound.serves k.serves
  requested := k.rest.requested.trans h.requested
  current := k.rest.current.trans h.current
  louder on := k.louder (h.louder on)

theorem Radio.Leaves.of_sends {r q p : Radio} (h : r.Leaves q) (k : q.Sends p) : r.Leaves p :=
  ⟨h.toHears.of_sends k, k.rest.assembler.trans h.outside, k.rest.silence.trans h.silence⟩

theorem Radio.Sound.hears {r : Radio} (h : r.Sound) : r.Hears r := ⟨h, rfl, rfl, id⟩

section
variable {s : State} (h : s.radio.Sound)
include h

/-- The assembler's buffer takes a content (R160, R161). -/
theorem State.assemble_hears {i : BufId}
    (here : s.radio.assembler = some i ∨ s.radio.assembler = none ∧ (s.radio.buf i).state = .free)
      {c : List Byte}
    (fits : c.length ≤ 64) (on : s.radio.current ≠ .off ∧ s.radio.current ≠ .config) :
    s.radio.Hears { s.radio.setBuf ⟨.assembling, c⟩ i with assembler := some i } := by
  have arranged := h.arranged.assemble here fits
  cases i <;> exact ⟨⟨arranged, { h.sending with }, h.mailbox, h.link, fun _ => on⟩, rfl, rfl, id⟩

/-- A content in the buffer that the assembler is INSIDE. -/
theorem State.assembled_hears {i : BufId} (inside : s.radio.assembler = some i) {c : List Byte}
    (fits : c.length ≤ 64) : s.radio.Hears (s.onRadio (Radio.setBuf · ⟨.assembling, c⟩ i)).radio := by
  have same : (s.onRadio (Radio.setBuf · ⟨.assembling, c⟩ i)).radio
      = { s.radio.setBuf ⟨.assembling, c⟩ i with assembler := some i } := by
    rw [← inside]; cases i <;> rfl
  rw [same]
  exact State.assemble_hears h (.inl inside) fits (h.listens (by rw [inside]; rfl))

theorem State.takeFrameStart_hears (on : s.radio.current ≠ .off ∧ s.radio.current ≠ .config) :
    s.radio.Hears s.takeFrameStart.radio := by
  unfold State.takeFrameStart
  split
  · next i inside => exact State.assembled_hears h inside (Nat.zero_le _)
  · next outside =>
    split
    · next i free =>
      exact State.assemble_hears h (.inr ⟨outside, Radio.findBuf_eq_some free⟩) (Nat.zero_le _) on
    · exact h.hears.of_sends {}

/-- The frame's buffer becomes FREE, and the error is recorded (R161, R165). -/
theorem State.abortFrame_leaves {i : BufId} (inside : s.radio.assembler = some i) (e : RxError) :
    s.radio.Leaves (s.abortFrame e i).radio := by
  have arranged := (h.arranged.ended inside).drop
  have dropped : ({ s.radio.freeBuf i with assembler := none, silence := none } : Radio).Arranged :=
    arranged.congr (by cases i <;> rfl) (by cases i <;> rfl) (by cases i <;> rfl)
      (fun k => by cases i <;> cases k <;> rfl) (by cases i <;> rfl)
  cases i <;> exact ⟨⟨⟨dropped.outbound rfl, { h.sending with }, h.mailbox, h.link, fun in_ => by cases in_⟩,
    rfl, rfl, id⟩, rfl, rfl⟩

theorem State.takeData_hears (b : Byte) : s.radio.Hears (s.takeData b).radio := by
  unfold State.takeData
  split
  · next i inside =>
    dsimp only
    split
    · next room =>
      refine State.assembled_hears h inside ?_
      rw [List.length_append, List.length_singleton]
      exact room
    · exact (State.abortFrame_leaves h inside _).toHears
  · exact h.hears

/-- The assembler goes OUTSIDE, and the frame is dropped or handed on (R162, R163). -/
theorem State.takeFrameEnd_leaves {i : BufId} (inside : s.radio.assembler = some i) :
    s.radio.Leaves s.takeFrameEnd.radio := by
  have ended := h.arranged.ended inside
  have dropped : s.radio.Leaves
      (({ s.radio with assembler := none, silence := none } : Radio).freeBuf i) := by
    have arranged := ended.drop
    cases i <;> exact ⟨⟨⟨arranged, { h.sending with }, h.mailbox, h.link, fun in_ => by cases in_⟩,
      rfl, rfl, id⟩, rfl, rfl⟩
  have handed {q : Radio} (k : Radio.Carries { s.radio with assembler := none, silence := none } q)
      (arranged : q.Arranged) : s.radio.Leaves q :=
    ⟨⟨⟨arranged, k.sending { h.sending with }, k.mailed h.mailbox, k.linked h.link,
      fun in_ => by rw [k.assembler] at in_; cases in_⟩, k.requested, k.current, k.louder⟩,
        k.assembler, k.silence⟩
  unfold State.takeFrameEnd
  rw [inside]
  dsimp only
  split
  · exact dropped.of_sends {}
  · next checked =>
    unfold State.frameChecked
    split
    · next selftest =>
      obtain ⟨carries, arranged⟩ := State.handFrame_arranged
        (s := s.onRadio fun r => { r with assembler := none, silence := none }) ended checked
        fun mode => absurd selftest mode
      exact handed carries arranged
    · split
      · next loud passes =>
        have mode : s.radio.current = .normal ∨ s.radio.current = .listen := by
          obtain ⟨off, config⟩ := h.listens (by rw [inside]; rfl)
          have loud : s.radio.current ≠ .selftest := loud
          cases current : s.radio.current <;> simp_all
        have heard := State.linkHeard_sends
          (s := s.onRadio fun r => { r with assembler := none, silence := none }) mode
        have buf := heard.rest.buf i
        obtain ⟨carries, arranged⟩ := State.handFrame_arranged (ended.outbound heard.rest)
          (by rw [buf]; exact checked) fun _ => by rw [buf]; exact State.addressingPasses_station passes
        exact handed (heard.carries.trans carries) arranged
      · exact dropped

theorem State.takeSymbol_hears (on : s.radio.current ≠ .off ∧ s.radio.current ≠ .config) (x : Symbol) :
    s.radio.Hears (s.takeSymbol x).radio := by
  unfold State.takeSymbol
  split
  · exact h.hears
  · exact State.takeData_hears h _
  · exact State.takeFrameStart_hears h on
  · cases inside : s.radio.assembler with
    | some i => exact (State.takeFrameEnd_leaves h inside).toHears
    | none =>
      unfold State.takeFrameEnd
      rw [inside]
      exact h.hears
  · split
    · next inside => exact (State.abortFrame_leaves h inside _).toHears
    · exact h.hears

theorem State.takeLineError_hears : s.radio.Hears s.takeLineError.radio := by
  have clear : s.radio.Sends (s.onRadio fun r => { r with markLatch := false }).radio := {}
  have sound := h.serves clear.serves
  unfold State.takeLineError
  dsimp only
  split
  · next inside =>
    obtain ⟨⟨sound, requested, current, louder⟩, -⟩ := State.abortFrame_leaves sound inside .lineError
    exact ⟨sound, requested, current, louder⟩
  · exact h.hears.of_sends clear

end

/-! ### The bytes and the frames of the line (R156, R161, R169) -/

/-- A byte leaves the radio good: the silence timer runs while the assembler is INSIDE, and a frame's end is an
event of the line (R161, R167). -/
theorem State.takeByte_good {s : State} (h : s.radio.Good)
    (on : s.radio.current ≠ .off ∧ s.radio.current ≠ .config)
    (b : Byte) (e : Bool) : (s.takeByte b e).radio.Good := by
  have heard : s.radio.Hears (if e = true then s.takeLineError
      else State.takeSymbol (decodeMark s.radio.markLatch b).1
        (s.onRadio fun r => { r with markLatch := (decodeMark s.radio.markLatch b).2 })).radio := by
    split
    · exact State.takeLineError_hears h.sound
    · have latched : s.radio.Sends
          (s.onRadio fun r => { r with markLatch := (decodeMark s.radio.markLatch b).2 }).radio := {}
      obtain ⟨sound, requested, current, louder⟩ :=
        State.takeSymbol_hears (h.sound.serves latched.serves) on (decodeMark s.radio.markLatch b).1
      exact ⟨sound, requested, current, louder⟩
  unfold State.takeByte
  dsimp only
  generalize (if e = true then s.takeLineError else _) = u at heard ⊢
  have sound : (u.onRadio fun r => { r with
      silence := if r.assembler.isSome then some Config.silenceTime else none }).radio.Sound :=
    ⟨heard.sound.arranged.congr rfl rfl rfl (fun i => by cases i <;> rfl) rfl, { heard.sound.sending with },
      heard.sound.mailbox, heard.sound.link, heard.sound.listens⟩
  have silence : (if u.radio.assembler.isSome then some Config.silenceTime else none).isSome
      ↔ u.radio.assembler.isSome := by split <;> simp_all
  split
  · exact State.lineEvent_good sound silence
  · next stays =>
    refine sound.good silence fun waits => ?_
    show u.radio.quiet = false
    have waits : u.radio.changeWaits = true := waits
    rw [Radio.changeWaits, heard.requested, heard.current] at waits
    have loud := h.settled waits
    unfold Radio.quiet at loud ⊢
    cases inside : u.radio.assembler with
    | some i => rfl
    | none =>
      have before : s.radio.assembler.isSome = false := by
        have stays : ¬(s.radio.assembler.isSome && u.radio.assembler.isNone) = true := stays
        simpa [inside] using stays
      have flight : s.radio.tx.isSome = true := by
        rw [Option.isSome_eq_false_iff.mp before] at loud
        simpa using loud
      obtain ⟨t, flight⟩ := Option.isSome_iff_exists.mp (heard.louder flight)
      rw [flight]
      rfl

/-- A looped byte is one that the receiver takes in SELFTEST (R169). -/
theorem State.takeLooped_good {s : State} (h : s.radio.Good) : s.takeLooped.radio.Good := by
  unfold State.takeLooped
  split
  · next t selftest flight =>
    split
    · next x rest _ =>
      have flight : s.radio.tx = some t := flight
      have next : s.radio.Sends (s.onRadio fun r => { r with tx := some { t with line := rest } }).radio := by
        refine { sending := fun good => ?_, louder := fun _ => rfl }
        have inFlight := good.inFlight
        have key := good.key
        have mode := good.mode
        rw [flight] at inFlight key mode
        exact { good with inFlight := inFlight, key := key, mode := mode }
      have on : s.radio.current ≠ .off ∧ s.radio.current ≠ .config := by
        rw [show s.radio.current = .selftest from selftest]; decide
      exact State.takeByte_good (s := s.onRadio fun r => { r with tx := some { t with line := rest } })
        (h.serves next.serves) on _ _
    · exact h
  · exact h

theorem State.loopRest_good {s : State} (h : s.radio.Good) : s.loopRest.radio.Good := by
  unfold State.loopRest
  split
  · next t _ =>
    exact List.foldlRecOn t.line _ (motive := fun u : State => u.radio.Good) h fun u good _ _ =>
        State.takeLooped_good good
  · exact h

/-- With no FREE buffer a FRAME_START is an overrun (R160). -/
theorem State.takeFrameStart_sends {s : State} (outside : s.takeFrameStart.radio.assembler = none) :
    s.radio.Sends s.takeFrameStart.radio := by
  unfold State.takeFrameStart at outside ⊢
  split at outside
  · next i inside => cases ((Radio.setBuf_assembler _ _ _).trans inside).symm.trans outside
  · split at outside
    · cases outside
    · exact {}

/-- A whole frame is one that the assembler takes at once (R156 to R163). -/
theorem State.frameArrives_good {s : State} (h : s.radio.Good) (d src k : Byte) (body : List Byte) :
    (s.frameArrives d src k body).radio.Good := by
  unfold State.frameArrives
  dsimp only
  split
  · next mode =>
    have clear : s.radio.Sends (s.onRadio fun r => { r with markLatch := false }).radio := {}
    have cleared := h.serves clear.serves
    have on : s.radio.current ≠ .off ∧ s.radio.current ≠ .config := by
      obtain normal | listen := mode
      · rw [normal]; decide
      · rw [listen]; decide
    have started := State.takeFrameStart_hears cleared.sound on
    have ends {r : Radio} {t : State} (leaves : r.Leaves t.radio) : t.lineEvent.radio.Good :=
      State.lineEvent_good leaves.sound (by simp [leaves.outside, leaves.silence])
    split
    · next i inside =>
      split
      · next fits =>
        have whole := State.assembled_hears started.sound inside fits
        exact ends (State.takeFrameEnd_leaves whole.sound ((Radio.setBuf_assembler _ _ _).trans inside))
      · exact ends (State.abortFrame_leaves started.sound inside _)
    · next outside => exact cleared.serves (State.takeFrameStart_sends outside).serves
  · exact h

/-! ### The end of a transmission (R174) -/

/-- The started entry leaves with its report, and the transmitter falls idle (R172, R174, R190). -/
theorem State.finishTransmission_sound {s : State} (h : s.radio.Sound) :
    s.finishTransmission.radio.Sound ∧ s.finishTransmission.radio.assembler = s.radio.assembler
      ∧ s.finishTransmission.radio.silence = s.radio.silence := by
  unfold State.finishTransmission
  split
  · exact ⟨h, rfl, rfl⟩
  · have finished : ({ s.radio with
        queue := s.radio.queue.eraseP QueueEntry.started, tx := none, key := false } : Radio).Sound :=
      ⟨h.arranged.outbound rfl, h.sending.finish, h.mailbox, h.link, h.listens⟩
    have sends : Radio.Sends { s.radio with
        queue := s.radio.queue.eraseP QueueEntry.started, tx := none, key := false }
        (s.onRadio fun r => { r with tx := none, key := false }).endEntry.radio := by
      unfold State.endEntry
      split
      · next e found =>
        have left : Radio.Sends { s.radio with
            queue := s.radio.queue.eraseP QueueEntry.started, tx := none, key := false }
            ((s.onRadio fun r => { r with tx := none, key := false }).removeFirst
              QueueEntry.started .sent).radio := by
          unfold State.removeFirst
          rw [found]
          dsimp only
          refine Radio.Sends.reportLeaving ?_ _ _
          exact .refl _
        dsimp only
        split
        · exact left.trans {}
        · exact left
      · next unsent =>
        have same : s.radio.queue.eraseP QueueEntry.started = s.radio.queue :=
          List.eraseP_of_forall_not (List.find?_eq_none.mp unsent)
        rw [same]
        exact .refl _
    exact ⟨finished.serves sends.serves, sends.rest.assembler, sends.rest.silence⟩

theorem State.endTransmission_good {s : State} (h : s.radio.Good) : s.endTransmission.radio.Good := by
  have looped : (if s.radio.current = .selftest then s.loopRest else s).radio.Good := by
    split
    · exact State.loopRest_good h
    · exact h
  unfold State.endTransmission
  dsimp only
  generalize (if s.radio.current = .selftest then s.loopRest else s) = u at looped ⊢
  obtain ⟨sound, assembler, silence⟩ := State.finishTransmission_sound looped.sound
  have serves := (Radio.Sends.refl u.finishTransmission.radio).serves.placeWaiting
  obtain ⟨carries, -⟩ := serves sound.arranged
  refine State.lineEvent_good (sound.serves serves) ?_
  rw [carries.silence, carries.assembler, silence, assembler]
  exact looped.silence

/-! ### Resets (R175, R192) -/

theorem Radio.afterReset_good (interval : Nat) (carrier : Bool) :
    (Radio.afterReset interval carrier).Good := by
  have free (i : BufId) : (Radio.afterReset interval carrier).buf i = .freed := by cases i <;> rfl
  refine Radio.Sound.good ⟨.idle rfl rfl
      (fun i => .freed (free i) (by simp [Radio.afterReset, State.reset])) fun i => ?_, ?_, ?_, ?_, ?_⟩
    ?_ ?_
  · rw [free]; decide
  · constructor <;> simp [Radio.afterReset, State.reset]
  · exact ⟨Nat.zero_le _, fun m member => by cases member⟩
  · exact ⟨iff_of_false (by simp [Radio.afterReset, State.reset]) (by simp [Radio.afterReset, State.reset]),
      fun ok => by cases ok⟩
  · simp [Radio.afterReset, State.reset]
  · simp [Radio.afterReset, State.reset]
  · simp [Radio.afterReset, State.reset, Radio.changeWaits]

end Sys2Proof.Machine
end

section
/-! The data of every response fits into a response frame: at most 250 bytes, from the sizes of the table, the
queue and the mailbox (R41, R183, R191, R196, R205). -/

namespace Sys2Proof.Machine

/-! ### The items (R204) -/

@[simp] theorem length_u8 (n : Nat) : (u8 n).length = 1 := rfl
@[simp] theorem length_u16 (n : Nat) : (u16 n).length = 2 := rfl
@[simp] theorem length_u24 (n : Nat) : (u24 n).length = 3 := rfl
@[simp] theorem length_s16 (i : Int) : (s16 i).length = 2 := rfl
@[simp] theorem length_bool (b : Bool) : (bool b).length = 1 := rfl
@[simp] theorem length_bytes16 (w : BitVec 16) : (bytes16 w).length = 2 := rfl

/-! ### The lists that a response can carry -/

/-- The sizes on which the length of a response depends (R41, R183, R191). -/
structure State.Readable (s : State) : Prop where
  slots : s.table.slots.length = 32
  queue : s.radio.queue.length ≤ 6
  mailbox : ∀ m ∈ s.radio.mailbox, m.body.length ≤ 56

theorem State.Readable.of_good {s : State} (table : s.table.Good) (radio : s.radio.Good) : s.Readable :=
  ⟨table.1, radio.queue.1, radio.mailbox.2⟩

/-- At most 205 bytes (R66). -/
theorem State.Readable.listing {s : State} (h : s.Readable) : s.table.listing.length ≤ 250 := by
  have slots := h.slots
  have entries : s.table.live.length ≤ s.table.slots.length := by
    refine (List.length_filterMap_le _ _).trans ?_
    rw [List.length_zipIdx]
  have item (x : Nat × Record) : (x.2.listItem x.1).length = 6 := rfl
  have items : (s.table.live.flatMap fun x => x.2.listItem x.1).length = 6 * s.table.live.length := by
    simp [item, mul_comm]
  simp only [Table.listing, Notice.item, replacedBytes, List.length_append, items, length_u8,
      length_u16, length_bool]
  omega

theorem State.Readable.messages {s : State} (h : s.Readable) : s.messageSection.length ≤ 250 := by
  have queue := h.queue
  have item (e : QueueEntry) : e.item.length = 5 := rfl
  have items : (s.radio.queue.flatMap QueueEntry.item).length = 5 * s.radio.queue.length := by
    simp [item, mul_comm]
  have last (t : Option LastTx) : (lastTxBytes t).length = 3 := by cases t <;> rfl
  simp only [State.messageSection, Radio.messageStatus, List.length_append, items, last, length_u8,
      length_bool,
    length_bytes16]
  omega

/-- The six sections (R201). -/
theorem State.Readable.sectionBytes {s : State} (h : s.Readable) {n : Nat} {data : List Byte}
    (found : s.sectionBytes n = some data) : data.length ≤ 250 := by
  unfold State.sectionBytes at found
  split at found
  · cases found; simp [Odometry.status]
  · cases found
    have governing (g : Option Governing) : (governingBytes g).length = 11 := by cases g <;> rfl
    simp [Supervisor.status, governing]
  · cases found; simp [Brake.status, Brake.stored]
  · cases found
    have door (d : Door) : d.status.length = 5 := rfl
    have event (e : DoorEvent) : e.item.length = 4 := by cases e <;> rfl
    simp [Doors.status, door, event]
  · cases found; simp [Radio.lineStatus]
  · cases found; exact h.messages
  · cases found

theorem length_recordItem (slot : Nat) (r : Record) (s : State) : (s.recordItem slot r).length = 19 := rfl

theorem length_doorsAnswer (ds : Doors) : ds.answer.length = 6 := rfl

theorem length_profileRead (p : Profile) (index : Byte) (found : Option Segment) :
    (p.summary ++ match found with | some g => g.item index | none => []).length ≤ 250 := by
  cases found <;> simp [Profile.summary, Segment.item]

theorem length_issueAnswer (clamped : Bool) (result : IssueResult) :
    (issueAnswer clamped result).2.length ≤ 250 := by
  cases result <;> simp [issueAnswer, replacedBytes]

theorem length_mailItem {m : MailEntry} (fits : m.body.length ≤ 56) : m.item.length ≤ 61 := by
  simp only [MailEntry.item, List.length_append, List.length_cons, List.length_nil, length_bool, length_u8]
  omega

end Sys2Proof.Machine
end

section
/-! What every command keeps good. `Keeps s t` says of two states that the blocks that are good in the first
are good in the second, and that the host port differs in its flags at most; the operations that the commands
are made of keep them so. -/

namespace Sys2Proof.Machine

/-- The brake output unit, the parameters, the doors and the radio of `t` are good where those of `s` are, and
no operation but the port's own touches the selection (R194). -/
structure Keeps (s t : State) : Prop where
  brake : s.brake.Good → t.brake.Good := by exact id
  params : s.profile.ParamsGood → t.profile.ParamsGood := by exact id
  doors : s.profile.ParamsGood → s.doors.Good → t.doors.Good := by exact fun _ => id
  radio : s.radio.Good → t.radio.Good := by exact id
  port : t.port = { s.port with flags := t.port.flags, enables := t.port.enables } := by rfl

theorem Keeps.refl (s : State) : Keeps s s := {}

theorem Keeps.trans {s t u : State} (h : Keeps s t) (k : Keeps t u) : Keeps s u where
  brake good := k.brake (h.brake good)
  params good := k.params (h.params good)
  doors params good := k.doors (h.params params) (h.doors params good)
  radio good := k.radio (h.radio good)
  port := by
    have after := k.port
    rw [h.port] at after
    exact after

/-- An operation after changes that no block here sees. -/
theorem Keeps.after {s t u : State} (k : Keeps t u) (h : Keeps s t) : Keeps s u := h.trans k

/-- What reaches the messages' side alone leaves the doors, the parameters and the selection. -/
theorem Keeps.of_reach {s t : State} (reach : ReachMessages s t) (brake : s.brake.Good → t.brake.Good)
    (radio : s.radio.Good → t.radio.Good) : Keeps s t := by
  have profile : t.profile = s.profile := by unfold ReachMessages at reach; rw [reach]
  have doors : t.doors = s.doors := by unfold ReachMessages at reach; rw [reach]
  have port : t.port = { s.port with flags := t.port.flags } := by
    have same := congrArg State.port (show t = _ from reach)
    exact same
  have enables : t.port.enables = s.port.enables := by rw [port]
  refine { brake := brake, radio := radio, params := ?_, doors := ?_, port := ?_ }
  · rw [profile]; exact id
  · rw [doors]; exact fun _ => id
  · rw [enables]; exact port

/-! ### Flags and evaluations -/

theorem keeps_setFlag (f : Flag) (s : State) : Keeps s (s.setFlag f) := {}

theorem keeps_setFlagIf (c : Bool) (f : Flag) (s : State) : Keeps s (s.setFlagIf c f) := by
  cases c
  · exact .refl s
  · exact keeps_setFlag f s

/-- An evaluation hands the unit at most a state with its demand, and the radio at most an ALARM (R112, R113,
R118, R186). -/
theorem keeps_evaluate (s : State) : Keeps s s.evaluate := by
  refine .of_reach (evaluate_reach s).table.messages (fun good => ?_) fun good =>
    good.serves (Radio.Sends.evaluate (.refl _)).serves
  rw [State.evaluate_brake]
  split
  · exact good
  · exact good.takeSupervisor _ _

theorem keeps_evaluateIf (c : Bool) (s : State) : Keeps s (s.evaluateIf c) := by
  cases c
  · exact .refl s
  · exact keeps_evaluate s

/-- What evaluations and changes outside the supervision make of a state. -/
theorem Evaluates.keeps_brake {s t : State} (e : Evaluates s t) (good : s.brake.Good) : t.brake.Good :=
  e.keeps (P := fun u => u.brake.Good) (fun t u (rest : u = _) k => by rw [rest]; exact k)
    (fun t k => (keeps_evaluate t).brake k) good

/-- An operation of the unit that keeps it good. -/
theorem keeps_onBrake {s : State} {f : Nat → Brake → Brake} (h : ∀ t, s.brake.Good → (f t s.brake).Good) :
    Keeps s (s.onBrake f) := { brake := h _ }

/-! ### The table engine -/

theorem keeps_issueRecord (src : IssueSource) (o : Origin) (b : IssueBody) (s : State) :
    Keeps s (s.issueRecord src o b).1 := by
  unfold State.issueRecord
  split
  · exact .refl s
  · refine Keeps.trans ?_ (keeps_evaluateIf _ _)
    refine Keeps.trans ?_ (keeps_setFlagIf _ _ _)
    exact (keeps_setFlagIf _ _ _).after {}

theorem keeps_revokeSlot (slot : Nat) (s : State) : Keeps s (s.revokeSlot slot) :=
  ((keeps_setFlag _ _).trans (keeps_evaluate _)).after {}

theorem keeps_minuteExpiry (s : State) : Keeps s s.minuteExpiry := by
  unfold State.minuteExpiry
  refine Keeps.trans ?_ (keeps_evaluateIf _ _)
  exact (keeps_setFlagIf _ _ _).after {}

/-! ### The odometry unit -/

theorem keeps_odoFault (f : OdoFault) (s : State) : Keeps s (s.odoFault f) := by
  cases latched : s.odo.latched f with
  | true => rw [State.odoFault_latched latched]; exact .refl s
  | false =>
    unfold State.odoFault
    rw [latched]
    exact ((keeps_setFlag .odometryFault { s with odo := s.odo.latch f }).trans
      ((keeps_evaluate _).after {})).after {}

theorem State.edgeBrake_good {s : State} (good : s.brake.Good) (dir : Dir) (now : Micros) :
    (s.edgeBrake dir now).Good := by
  have moving : s.motionBrake.Good := by
    unfold State.motionBrake
    split
    · exact good
    · exact good.takeMotion _ _
  have turned : (s.turnBrake dir).Good := by
    unfold State.turnBrake
    split
    · exact moving.takeSpeed _ _ _ _
    · exact moving
  unfold State.edgeBrake
  split
  · exact turned.takeSpeed _ _ _ _
  · exact turned

/-- The position part of an edge sets flags at most (R23, R56). -/
theorem State.edgePosition_port (dir : Dir) (s : State) : (s.edgePosition dir).1.port
    = { s.port with
        flags := (s.edgePosition dir).1.port.flags, enables := (s.edgePosition dir).1.port.enables } := by
  unfold State.edgePosition
  split
  · rfl
  · unfold State.retireRecords
    dsimp only
    split
    · rfl
    · rfl

theorem keeps_edgeTaken (dir : Dir) (now : Micros) (s : State) : Keeps s (s.edgeTaken dir now) := by
  refine {
    brake := fun good => State.edgeBrake_good good dir now
    port := State.edgePosition_port dir s
    doors := ?_ }
  intro _ good
  unfold State.edgeTaken
  dsimp only
  split
  · exact good
  · exact good

theorem keeps_countedEdge (dir : Dir) (now : Micros) (s : State) : Keeps s (s.countedEdge dir now) := by
  have taken := (keeps_edgeTaken dir now s).trans (keeps_evaluateIf (s.edgePosition dir).2 _)
  rw [State.countedEdge_eq]
  dsimp only
  split
  · exact taken.trans (keeps_odoFault _ _)
  · exact taken

theorem keeps_pinionStep (a b : Bool) (now : Micros) (s : State) : Keeps s (s.pinionStep a b now) := by
  unfold State.pinionStep
  dsimp only
  split
  · exact {}
  · exact (keeps_countedEdge _ _ _).after {}
  · exact (keeps_odoFault _ _).after {}

theorem keeps_wheelChange (level : Bool) (s : State) : Keeps s (s.wheelChange level) := by
  unfold State.wheelChange State.wheelTurn
  dsimp only
  split
  · split
    · exact {}
    · split
      · exact (keeps_odoFault _ _).after {}
      · exact {}
  · exact {}

theorem keeps_markerChange (level : Bool) (s : State) : Keeps s (s.markerChange level) := by
  unfold State.markerChange State.markerPass
  dsimp only
  split
  · split
    · split
      · exact (keeps_evaluate _).after {}
      · exact (keeps_setFlag _ _).after {}
    · exact {}
  · exact {}

theorem keeps_enterStandstill (s : State) : Keeps s s.enterStandstill :=
  { brake := fun good => (good.takeMotion _ _).takeSpeed _ _ _ _ }

/-! ### The brake output unit and the acknowledgment -/

theorem keeps_handEmergIn (asserted : Bool) (s : State) : Keeps s (s.handEmergIn asserted) :=
  (keeps_evaluate _).after {}

/-- The latching of a fault of the unit, and the evaluation that its cause starts (R107, R131, R132). -/
theorem keeps_brakeFault {s : State} {latch : Brake → Brake} (cause : Causes → Causes)
    (h : s.brake.Good → (latch s.brake).Good) : Keeps s (s.brakeFault latch cause) := by
  have latched : Keeps s { s with brake := latch s.brake } := { brake := h }
  exact (latched.trans (keeps_setFlag .brakeFault _)).trans ((keeps_evaluate _).after {})

theorem keeps_bandApplyExpiry (s : State) : Keeps s s.bandApplyExpiry := by
  have stopped : Keeps s { s with brake := { s.brake with bandTimer := none } } :=
    { brake := fun good => good.bandTimerStopped _ }
  unfold State.bandApplyExpiry
  dsimp only
  split
  · exact stopped
  · exact stopped.trans (keeps_brakeFault _ fun good => good.bandTimerStopped _)

theorem keeps_loopAgreementExpiry (s : State) : Keeps s s.loopAgreementExpiry := by
  have stopped : Keeps s { s with brake := { s.brake with loopTimer := none } } :=
    { brake := fun good => good.loopTimerStopped _ }
  unfold State.loopAgreementExpiry
  dsimp only
  split
  · exact stopped
  · exact stopped.trans (keeps_brakeFault _ fun good => good.loopTimerStopped _)

end Sys2Proof.Machine
end

section
/-! What the door controller, the acknowledgment, SOFT_RESET and the radio keep good. -/

namespace Sys2Proof.Machine

/-! ### The door controller (R137 to R154) -/

/-- A change of DOORS_SECURE is handed to the unit and to the supervisor (R152). -/
theorem keeps_handSecure (secure : Bool) (s : State) : Keeps s (s.handSecure secure) :=
  (keeps_onBrake fun t good => good.takeSecure t secure).trans ((keeps_evaluate _).after {})

theorem keeps_commitDoors {x : Doors × Bool} {s : State}
    (good : s.profile.ParamsGood → s.doors.Good → x.1.Good) : Keeps s (s.commitDoors x) := by
  have moved : Keeps s (({ s with doors := x.1 } : State).setFlagIf x.2 .doorEvent) :=
    Keeps.trans (t := { s with doors := x.1 }) { doors := good } (keeps_setFlagIf _ _ _)
  unfold State.commitDoors
  dsimp only
  split
  · exact moved
  · exact moved.trans (keeps_handSecure _ _)

/-- The reopen limit is parameter 30 (R11, R147). -/
theorem State.reopenLimit_le {s : State} (h : s.profile.ParamsGood) : s.doorTimes.limit ≤ 5 := by
  obtain ⟨-, ranges, -⟩ := h
  exact (ranges 30 (by decide)).2 (by decide)

/-- An event of one door that leaves it good and makes it UNLOCKED only if it was. -/
theorem keeps_doorEvent {f : DoorTimes → Door → DoorStep} {id : DoorId} {s : State}
    (stays : s.doorTimes.limit ≤ 5 → (s.doors.get id).Good →
      (s.doors.get id).Stays (f s.doorTimes (s.doors.get id)).1) : Keeps s (s.doorEvent f id) :=
  keeps_commitDoors fun params good =>
    good.step (stays (State.reopenLimit_le params) (Doors.good_iff.mp good id).1)

theorem keeps_grant (side : Side) (override : Bool) (s : State) : Keeps s (s.grant side override) := by
  cases override
  · exact keeps_commitDoors fun _ good => good.grant side
  · exact Keeps.trans (t := s.noteOverride side) {} (keeps_commitDoors fun _ good => good.grant side)

theorem keeps_openDoors (side : Side) (s : State) : Keeps s
    (s.commitDoors (s.doors.stepSides [side] (Door.quietly (Door.startOpening s.doorTimes)))) :=
  keeps_commitDoors fun _ good => good.stepSides fun _ door => Door.Good.startOpening door _

theorem keeps_closeDoors (sides : List Side) (s : State) : Keeps s
    (s.commitDoors (s.doors.closeSides s.doorTimes sides)) :=
  keeps_commitDoors fun params good => good.closeSides (State.reopenLimit_le params) sides

theorem keeps_resetDoor (id : DoorId) (s : State) :
    Keeps s (s.doorEvent (fun t => Door.quietly (Door.reset t)) id) :=
  keeps_doorEvent fun _ _ => Door.reset_stays _ _

/-- A raw level of a door's input moves its filter only (R136). -/
theorem keeps_doorLine (x : InputLine) (line : DoorInput) (door : DoorId) (s : State) :
    Keeps s { s with doors := s.doors.put ((s.doors.get door).setLine x line) door } :=
  { doors := fun _ good => Doors.Good.step good (f := Door.quietly fun d => d.setLine x line)
      (Door.Good.setLine (Doors.good_iff.mp good door).1 x line) }

/-! ### The supervision's input, the acknowledgment, SOFT_RESET and the lock -/

theorem keeps_emergInAsserted (s : State) :
    Keeps s ((s.onBrake fun t b => b.takeEmergAsserted t).handEmergIn true) :=
  (keeps_onBrake fun t good => good.takeEmergAsserted t).trans (keeps_handEmergIn _ _)

theorem keeps_emergInReleased (s : State) :
    Keeps s ((s.onBrake fun t b => b.takeEmergReleased t).handEmergIn false) :=
  (keeps_onBrake fun t good => good.takeEmergReleased t).trans (keeps_handEmergIn _ _)

/-- EMERGENCY_ACK clears the latched faults of the unit before it hands the state NORMAL (R109, R110). -/
theorem keeps_acknowledge (s : State) : Keeps s s.acknowledge := by
  have handed : Keeps s.clearCauses (s.clearCauses.changeSupState .normal) := by
    refine .of_reach (changeSupState_reach _ _).table.messages (fun good => ?_) fun good =>
      good.serves (Radio.Sends.changeSupState (.refl _) _).serves
    rw [State.changeSupState_eq]
    exact good.takeSupervisor _ _
  have cleared : Keeps s s.clearCauses := { brake := fun good => good.takeAck _ }
  exact (cleared.trans handed).trans (keeps_evaluate _)

/-- SOFT_RESET leaves the blocks as a reset leaves them, the unit with its state and its lines, and closes
the doors (R203). -/
theorem keeps_softReset (s : State) : Keeps s s.softReset where
  brake _ := Brake.afterReset_good _ _ _ _ _ _
  doors params good := good.softReset (State.reopenLimit_le params)
  radio _ := Radio.afterReset_good _ _

/-- The change to CONFIG_LOCKED arms the unit (R116). -/
theorem keeps_armed (s : State) :
    Keeps s { s with
      profile := { s.profile with lock := .configLocked }
      brake := ({ s.brake with unit := .armed } : Brake).reform s.bandApplyTime } :=
  { brake := fun good => good.arm _ }

/-- An accepted CONFIG_WRITE bounds the parameter, and #32 restarts the report timer (R14, R15, R187). -/
theorem keeps_configured {index : Nat} (known : index < Config.paramCount) (value : Nat)
    (timer : Option Nat) (s : State) : Keeps s { s with
      profile := { s.profile with
        params := storeParam index (boundParam s.profile.params index value) s.profile.params }
      radio := { s.radio with reportTimer := timer } } where
  params good := good.configure value known
  radio good := good.serves (q := { s.radio with reportTimer := timer }) (Radio.Sends.serves {})

/-! ### The radio (R155 to R191) -/

theorem Radio.Sound.request {r : Radio} (h : r.Sound) (m : LinkMode) :
    ({ r with requested := m } : Radio).Sound :=
  ⟨h.arranged.congr rfl rfl rfl (fun _ => rfl) rfl, { h.sending with }, h.mailbox, h.link, h.listens⟩

theorem keeps_judgeMode (s : State) : Keeps s s.judgeMode :=
  .of_reach (judgeMode_reach s).messages (judgeMode_evaluates s).keeps_brake fun good =>
    State.judgeMode_good good.sound good.silence

theorem keeps_radioMode (m : LinkMode) (s : State) :
    Keeps s (s.onRadio fun r => { r with requested := m }).judgeMode := by
  refine .of_reach ?_ (Evaluates.keeps_brake ?_) fun good => ?_
  · exact .after (judgeMode_reach _).messages rfl
  · exact .after (judgeMode_evaluates _) rfl
  · exact State.judgeMode_good (good.sound.request m) good.silence

/-- A change of the sending side and a start event (R173). -/
theorem keeps_judgeStart {f : Radio → Radio} {s : State} (sends : s.radio.Sends (f s.radio)) :
    Keeps s (s.onRadio f).judgeStart := by
  refine .of_reach ?_ (Evaluates.keeps_brake ?_) fun good => good.serves ?_
  · exact .after (judgeStart_reach _).messages rfl
  · exact .after (judgeStart_reach _).evaluates rfl
  · exact (Radio.Sends.judgeStart (s := s.onRadio f) sends).serves

/-- Waiting items are placed, and a placed entry is a start event (R173, R185). -/
theorem keeps_placed (s : State) : Keeps s s.placeWaiting.judgeStart := by
  refine .of_reach ?_ (Evaluates.keeps_brake ?_) fun good => good.serves ?_
  · exact (placeWaiting_reach s).messages.trans (judgeStart_reach _).messages
  · exact (placeWaiting_evaluates s).trans (judgeStart_reach _).evaluates
  · exact ((Radio.Sends.refl s.radio).serves.placeWaiting).judgeStart

/-- Only an entry that is not started is abortable (R190). -/
theorem QueueEntry.unsent_of_abortable {e : QueueEntry} (h : e.abortable = true) : e.started = false := by
  simp only [QueueEntry.abortable, Bool.and_eq_true, Bool.not_eq_true'] at h
  tauto

theorem keeps_removeFirst {test : QueueEntry → Bool} {e : QueueEntry} {s : State}
    (found : s.radio.queue.find? test = some e) (unsent : e.started = false) (r : TxResult) :
    Keeps s (s.removeFirst test r) :=
  .of_reach (removeFirst_reach _ _ _).messages (removeFirst_reach _ _ _).evaluates.keeps_brake fun good =>
    good.serves (Radio.Sends.removeFirst (.refl _) found unsent r).serves

theorem keeps_removeEntries {test : QueueEntry → Bool} (unsent : ∀ e, test e = true → e.started = false)
    (r : TxResult) (s : State) : Keeps s (s.removeEntries test r) :=
  .of_reach (removeEntries_reach _ _ _).messages (removeEntries_reach _ _ _).evaluates.keeps_brake fun good =>
    good.serves (Radio.Sends.removeEntries (.refl _) unsent r).serves

/-- MAILBOX_RELEASE removes the oldest frame (R191). -/
theorem keeps_released {m : MailEntry} {rest : List MailEntry} {s : State}
    (found : s.radio.mailbox = m :: rest) :
    Keeps s (s.onRadio fun r => { r with mailbox := rest }) where
  radio good := by
    refine good.serves (Radio.Sends.serves { mailed := fun ⟨room, bodies⟩ => ?_ })
    rw [found] at room bodies
    exact ⟨(Nat.le_succ _).trans room, fun n member => bodies n (List.mem_cons_of_mem _ member)⟩

theorem keeps_startFrame (s : State) : Keeps s s.startFrame :=
  .of_reach (startFrame_reach s).messages (startFrame_reach s).evaluates.keeps_brake fun good =>
    good.serves (Radio.Sends.startFrame (.refl _)).serves

theorem keeps_takeByte {s : State} (receives : s.radio.current.receives = true) (b : Byte) (e : Bool) :
    Keeps s (s.takeByte b e) := by
  refine .of_reach (takeByte_reach b e s) (takeByte_evaluates b e s).keeps_brake fun good =>
    State.takeByte_good good ?_ b e
  constructor <;> intro off <;> simp [off, LinkMode.receives] at receives

theorem keeps_takeLooped (s : State) : Keeps s s.takeLooped :=
  .of_reach (takeLooped_reach s) (takeLooped_evaluates s).keeps_brake State.takeLooped_good

theorem keeps_loopRest (s : State) : Keeps s s.loopRest :=
  .of_reach (loopRest_reach s) (loopRest_evaluates s).keeps_brake State.loopRest_good

/-- The end of the silence aborts the frame being assembled (R161). -/
theorem keeps_silenceEnd {i : BufId} {s : State} (inside : s.radio.assembler = some i) :
    Keeps s (s.abortFrame .silence i).lineEvent := by
  refine .of_reach ?_ (Evaluates.keeps_brake ?_) fun good => ?_
  · exact .after (lineEvent_reach _) rfl
  · exact .after (lineEvent_evaluates _) rfl
  · have left := State.abortFrame_leaves good.sound inside .silence
    exact State.lineEvent_good left.sound (by simp [left.silence, left.outside])

theorem keeps_linkExpiry (s : State) :
    Keeps s ((s.onRadio fun r => { r with linkTimer := none }).setLink .lost) := by
  refine .of_reach ?_ (Evaluates.keeps_brake ?_) fun good => good.serves ?_
  · exact .after (setLink_reach _ _).table.messages rfl
  · exact .after (setLink_evaluates _ _) rfl
  · exact (State.linkExpiry_sends s).serves

theorem endTransmission_reach (s : State) : ReachMessages s s.endTransmission := by
  refine ReachMessages.trans ?_ (lineEvent_reach _)
  refine ReachMessages.trans ?_ (placeWaiting_reach _).messages
  refine ReachMessages.trans ?_ (finishTransmission_reach _).messages
  split
  · exact loopRest_reach s
  · exact .refl s

theorem keeps_endTransmission (s : State) : Keeps s s.endTransmission :=
  .of_reach (endTransmission_reach s) (endTransmission_evaluates s).keeps_brake State.endTransmission_good

theorem keeps_frameArrives (d src k : Byte) (body : List Byte) (s : State) :
    Keeps s (s.frameArrives d src k body) :=
  .of_reach (frameArrives_reach d src k body s)
    (frameArrives_evaluates d src k body s).keeps_brake fun good =>
    State.frameArrives_good good d src k body

theorem keeps_reportExpiry (s : State) : Keeps s
    (s.onRadio fun r => { r with reportTimer := reportTimerOf (s.param 32) }).makeReport := by
  have restarted : s.radio.Sends
      (s.onRadio fun r => { r with reportTimer := reportTimerOf (s.param 32) }).radio := {}
  refine .of_reach ?_ (Evaluates.keeps_brake ?_) fun good => good.serves restarted.makeReport.serves
  · exact .after (makeReport_reach _).messages rfl
  · exact .after (makeReport_reach _).evaluates rfl

end Sys2Proof.Machine
end

section
/-! What the requests and the events keep good: every command that is no reset of the part answers a next
state, and the blocks that were good are good in it. -/

namespace Sys2Proof.Machine

/-! ### Outcomes -/

/-- The brake output unit, the doors, the radio and the host port of `t` are good where those of `s` are. -/
structure Follows (s t : State) : Prop where
  brake : s.brake.Good → t.brake.Good := by exact id
  doors : s.profile.ParamsGood → s.doors.Good → t.doors.Good := by exact fun _ => id
  radio : s.radio.Good → t.radio.Good := by exact id
  port : s.Readable → s.port.Good → t.port.Good := by exact fun _ => id

/-- A command completes, and the blocks that were good are good in its next state. -/
def Completes (s : State) (r : Result) : Prop := ∃ t, r = .next t ∧ Follows s t

/-- A request ends in a response that a frame can carry (R192, R196). -/
def Answers (s : State) (r : Result) : Prop := ∃ t frame response, r = .next (t.respond frame response)
  ∧ Keeps s t ∧ (s.Readable → response.data.length ≤ 250)

theorem Keeps.follows {s t : State} (k : Keeps s t) : Follows s t where
  brake := k.brake
  doors := k.doors
  radio := k.radio
  port _ good := by rw [k.port]; exact good

theorem Follows.of_port {s : State} {f : Port → Port} (h : s.port.Good → (f s.port).Good) :
    Follows s (s.onPort f) := { port := fun _ => h }

theorem Follows.completes {s t : State} (f : Follows s t) : Completes s (.next t) := ⟨t, rfl, f⟩

theorem Keeps.completes {s t : State} (k : Keeps s t) : Completes s (.next t) := k.follows.completes

/-- The next state of an outcome that completes. -/
theorem Completes.follows {s t : State} {r : Result} (c : Completes s r) (h : r = .next t) : Follows s t := by
  obtain ⟨u, next, k⟩ := c
  cases next.symm.trans h
  exact k

/-- A response replaces the selection that the port takes as a request (R193). -/
theorem Answers.completes {s : State} {r : Result} (a : Answers s r) {frame : List Byte} {whole : Bool}
    (takes : s.port.Takes frame whole) : Completes s r := by
  obtain ⟨t, request, response, rfl, k, fits⟩ := a
  refine ⟨_, rfl, { brake := k.brake, doors := k.doors, radio := k.radio, port := fun readable good => ?_ }⟩
  have listens : t.port.ignoring = false := by rw [k.port]; exact good.listens takes
  exact Port.respond_good listens request (fits readable)

section
variable {s : State} (released : s.resetHeld = false)
include released

theorem Completes.unlessReset {held : State} {r : Result} (c : Completes s r) :
    Completes s (s.unlessReset held r) := by
  rwa [State.unlessReset_released _ _ released]

/-- An event that acts while RESET is released. -/
theorem Keeps.event {held t : State} (k : Keeps s t) : Completes s (s.unlessReset held (.next t)) :=
  k.completes.unlessReset released

/-- An event of the selection. -/
theorem Completes.portEvent {held : State} {f : Port → Port} (h : s.port.Good → (f s.port).Good) :
    Completes s (s.unlessReset held (.next (s.onPort f))) :=
  (Follows.of_port h).completes.unlessReset released

/-- An event that acts only where a condition holds. -/
theorem Keeps.eventIf {t u : State} {c : Prop} [Decidable c] (holds : c → Keeps s t)
    (fails : ¬c → Keeps s u) : Completes s (s.unlessReset s (.next (if c then t else u))) := by
  refine Keeps.event released ?_
  split
  · next h => exact holds h
  · next h => exact fails h

/-- A selection that the port does not take only ends (R193). -/
theorem Completes.takeSelection {frame : List Byte} {whole : Bool} {taken : Result}
    (c : s.port.Takes frame whole → Completes s taken) : Completes s (takeSelection frame whole s taken) := by
  refine Completes.unlessReset released ?_
  split
  · next takes => exact c takes
  · exact (Follows.of_port fun good => good.endSelection _).completes

theorem Answers.hostRequest {code : Byte} {params : List Byte} {taken : Result} (a : Answers s taken) :
    Completes s (hostRequest code params s taken) := .takeSelection released a.completes

end

/-- The response to a request. -/
theorem Keeps.answer {s t : State} {code : Byte} {params : List Byte} {st : Status} {data : List Byte}
    (k : Keeps s t) (fits : s.Readable → data.length ≤ 250 := by exact fun _ => by simp) :
    Answers s (answer code params st data t) := ⟨t, _, _, rfl, k, fits⟩

/-- A request that is refused, or that only reads. -/
theorem answers_same (s : State) {code : Byte} {params : List Byte} {st : Status} {data : List Byte}
    (fits : s.Readable → data.length ≤ 250 := by exact fun _ => by simp) :
    Answers s (answer code params st data s) := (Keeps.refl s).answer fits

@[simp] theorem length_stored (b : Brake) : b.stored.length = 2 := rfl

/-! ### The requests -/

theorem completes_lockRaise {s : State} (released : s.resetHeld = false) : Completes s (execLockRaise s) := by
  refine Answers.hostRequest released ?_
  split
  · split
    · exact Keeps.answer {}
    · exact answers_same s
  · exact (keeps_armed s).answer
  · exact answers_same s

theorem completes_configWrite {s : State} (released : s.resetHeld = false) (index : Byte) (value : U24) :
    Completes s (execConfigWrite index value s) := by
  refine Answers.hostRequest released ?_
  dsimp only
  split
  · exact answers_same s
  · next known =>
    split
    · exact answers_same s
    · refine Keeps.answer ?_
      split
      · exact keeps_configured (Nat.lt_of_not_le known) _ _ s
      · exact keeps_configured (Nat.lt_of_not_le known) _ s.radio.reportTimer s

theorem completes_frameError {s : State} (released : s.resetHeld = false) (bytes : List Byte) (whole : Bool) :
    Completes s (execFrameError bytes whole s) := by
  refine Completes.takeSelection released fun takes => ?_
  split
  · exact (Follows.of_port Port.Good.deselect).completes
  · split
    · exact Answers.completes ⟨s, _, _, rfl, .refl s, fun _ => Nat.zero_le _⟩ takes
    · exact (Keeps.refl s).completes

/-- What a door command does to the doors is answered with the doors as they then are. -/
theorem Keeps.doorAnswer {s t : State} {code : Byte} {params : List Byte} {st : Status} (k : Keeps s t) :
    Answers s (doorAnswer code params st t) := k.answer fun _ => by rw [length_doorsAnswer]; decide

theorem completes_doorCommand {s : State} (released : s.resetHeld = false) (i : Instr)
    (door : (∃ side override, i = .doorRelease side override) ∨ (∃ side, i = .doorOpen side)
      ∨ (∃ side, i = .doorClose side) ∨ ∃ id, i = .doorReset id) :
    Completes s (s.takeRequest i) := by
  have refused {code : Byte} {params : List Byte} {st : Status} :
      Answers s (Machine.doorAnswer code params st s) := (Keeps.refl s).doorAnswer
  obtain ⟨side, override, rfl⟩ | ⟨side, rfl⟩ | ⟨side, rfl⟩ | ⟨id, rfl⟩ := door
  · refine Answers.hostRequest released ?_
    split
    · split
      · exact refused
      · split
        · exact refused
        · split
          · exact (keeps_grant _ _ s).doorAnswer
          · exact refused
    · exact refused
  · refine Answers.hostRequest released ?_
    split
    · exact refused
    · split
      · exact refused
      · split
        · exact (keeps_openDoors _ s).doorAnswer
        · exact refused
  · refine Answers.hostRequest released ?_
    split
    · exact refused
    · exact (keeps_closeDoors _ s).doorAnswer
  · refine Answers.hostRequest released ?_
    split
    · exact refused
    · dsimp only
      split
      · exact (keeps_resetDoor _ s).doorAnswer
      · exact refused

/-- What an accepted RADIO_SEND has passed (R188). -/
theorem State.sendRefusal_none {s : State} {destination : Byte} {body : List Byte}
    (h : s.sendRefusal destination body = none) : body.length ≤ 56 ∧ s.radio.hasRoom = true := by
  unfold State.sendRefusal at h
  split_ifs at h with _ long _ _ full
  exact ⟨Nat.le_of_not_lt long, by simpa using full⟩

/-- The requests of the message queue (R188 to R191). -/
theorem completes_queueRequest {s : State} (released : s.resetHeld = false) (i : Instr)
    (queue : (∃ destination priority body, i = .radioSend destination priority body)
      ∨ (∃ handle, i = .radioAbort handle) ∨ i = .radioAbortAll ∨ i = .mailboxRead ∨ i = .mailboxRelease) :
    Completes s (s.takeRequest i) := by
  obtain ⟨destination, priority, body, rfl⟩ | ⟨handle, rfl⟩ | rfl | rfl | rfl := queue
  · refine Answers.hostRequest released ?_
    split
    · exact answers_same s
    · next accepted =>
      obtain ⟨fits, room⟩ := State.sendRefusal_none accepted
      refine Keeps.answer (keeps_judgeStart ?_)
      exact Radio.Sends.place (.refl _) room (priority := min priority.toNat 2) (by omega) fits
        (spontaneous := false) nofun kindText .vehicle destination
  · refine Answers.hostRequest released ?_
    dsimp only
    split
    · exact answers_same s
    · next found =>
      split
      · next abortable =>
        have removed := keeps_removeFirst found (QueueEntry.unsent_of_abortable abortable) .aborted
        exact (removed.trans (keeps_placed _)).answer
      · exact answers_same s
  · have removed := keeps_removeEntries (fun _ => QueueEntry.unsent_of_abortable) .aborted s
    exact Answers.hostRequest released (removed.trans (keeps_placed _)).answer
  · refine Answers.hostRequest released ?_
    split
    · exact answers_same s
    · next m rest found =>
      refine answers_same s fun readable => ?_
      have short := length_mailItem (readable.mailbox m (by simp [found]))
      rw [List.length_append, length_u8]
      omega
  · refine Answers.hostRequest released ?_
    split
    · exact answers_same s
    · next found => exact (keeps_released found).answer

/-- The requests of the restriction table (R45 to R66). -/
theorem completes_tableRequest {s : State} (released : s.resetHeld = false) (i : Instr)
    (table : (∃ origin body, i = .recordIssue origin body)
      ∨ (∃ origin number, i = .recordRevoke origin number)
      ∨ (∃ slot, i = .recordRead slot) ∨ (∃ origin number, i = .recordFind origin number) ∨ i = .tableList
      ∨ i = .lossAck) : Completes s (s.takeRequest i) := by
  obtain ⟨origin, body, rfl⟩ | ⟨origin, number, rfl⟩ | ⟨slot, rfl⟩ | ⟨origin, number, rfl⟩
      | rfl | rfl := table
  · refine Answers.hostRequest released ?_
    split
    · exact answers_same s
    · exact (keeps_issueRecord _ _ _ s).answer fun _ => length_issueAnswer _ _
  · refine Answers.hostRequest released ?_
    split
    · exact answers_same s
    · split
      · exact answers_same s
      · split
        · exact answers_same s
        · exact (keeps_revokeSlot _ s).answer
  · refine Answers.hostRequest released ?_
    split
    · exact answers_same s
    · split
      · exact answers_same s
      · exact answers_same s fun _ => by rw [length_recordItem]; decide
  · refine Answers.hostRequest released ?_
    split
    · exact answers_same s
    · split <;> exact answers_same s
  · exact Answers.hostRequest released (answers_same s State.Readable.listing)
  · refine Answers.hostRequest released ?_
    split
    · exact Keeps.answer ((keeps_evaluate _).after {})
    · exact answers_same s

/-- Every request that the port takes completes. -/
theorem completes_takeRequest {s : State} (released : s.resetHeld = false) (i : Instr) :
    Completes s (s.takeRequest i) := by
  cases i with
  | profileWrite | profileClose | profileClear =>
    refine Answers.hostRequest released ?_
    split
    · exact answers_same s
    · exact Keeps.answer {}
  | profileRead index =>
    exact Answers.hostRequest released (answers_same s fun _ => length_profileRead _ _ _)
  | lockRaise => exact completes_lockRaise released
  | configWrite index value => exact completes_configWrite released index value
  | configRead =>
    refine Answers.hostRequest released ?_
    split <;> exact answers_same s
  | flagsReadClear | flagsEnable => exact Answers.hostRequest released (Keeps.answer {})
  | positionSet =>
    refine Answers.hostRequest released ?_
    split
    · exact answers_same s
    · exact Keeps.answer ((keeps_evaluate _).after {})
  | directionSelect =>
    refine Answers.hostRequest released ?_
    split
    · exact answers_same s
    · split
      · exact answers_same s
      · exact Keeps.answer ((keeps_evaluate _).after {})
  | recordIssue origin body => exact completes_tableRequest released _ (.inl ⟨origin, body, rfl⟩)
  | recordRevoke origin number => exact completes_tableRequest released _ (.inr (.inl ⟨origin, number, rfl⟩))
  | recordRead slot => exact completes_tableRequest released _ (.inr (.inr (.inl ⟨slot, rfl⟩)))
  | recordFind origin number =>
    exact completes_tableRequest released _ (.inr (.inr (.inr (.inl ⟨origin, number, rfl⟩))))
  | tableList => exact completes_tableRequest released _ (by simp)
  | lossAck => exact completes_tableRequest released _ (by simp)
  | doorRelease side override => exact completes_doorCommand released _ (.inl ⟨side, override, rfl⟩)
  | doorOpen side => exact completes_doorCommand released _ (.inr (.inl ⟨side, rfl⟩))
  | doorClose side => exact completes_doorCommand released _ (.inr (.inr (.inl ⟨side, rfl⟩)))
  | doorReset id => exact completes_doorCommand released _ (.inr (.inr (.inr ⟨id, rfl⟩)))
  | brakeDemand level release =>
    refine Answers.hostRequest released ?_
    split
    · exact answers_same s
    · exact (keeps_onBrake fun t good => good.takeDemand t (Nat.min_le_right _ _) _).answer
  | emergencyAck =>
    refine Answers.hostRequest released ?_
    split
    · exact answers_same s
    · exact (keeps_acknowledge s).answer
  | radioMode =>
    refine Answers.hostRequest released ?_
    split
    · exact answers_same s
    · exact (keeps_radioMode _ s).answer
  | radioSend destination priority body =>
    exact completes_queueRequest released _ (.inl ⟨destination, priority, body, rfl⟩)
  | radioAbort handle => exact completes_queueRequest released _ (.inr (.inl ⟨handle, rfl⟩))
  | radioAbortAll => exact completes_queueRequest released _ (by simp)
  | mailboxRead => exact completes_queueRequest released _ (by simp)
  | mailboxRelease => exact completes_queueRequest released _ (by simp)
  | statusRead =>
    refine Answers.hostRequest released ?_
    split
    · next found =>
      refine Keeps.answer ?_ fun readable => readable.sectionBytes found
      unfold State.afterSection
      split <;> exact {}
    · exact answers_same s
  | softReset =>
    refine Answers.hostRequest released ?_
    split
    · exact answers_same s
    · exact (keeps_softReset s).answer
  | _ => exact (Keeps.refl s).completes

/-! ### The changes of the inputs -/

theorem completes_selectChange {s : State} (released : s.resetHeld = false) (level : Bool) :
    Completes s (s.selectChange level) := by
  unfold State.selectChange State.takeBuffer
  split
  · exact (Follows.of_port Port.Good.select).completes
  · split
    · split
      · exact completes_takeRequest released _
      · exact completes_frameError released _ _
    · exact (Follows.of_port Port.Good.deselect).completes

theorem completes_rawInputChange {s : State} (released : s.resetHeld = false) {input : InputId} {level : Bool}
    {now : Micros} (stays : ¬s.Resets (.rawInputChange input level now)) :
    Completes s (execRawInputChange input level now s) := by
  refine Completes.unlessReset released ?_
  cases input with
  | pinA | pinB =>
    dsimp only
    split
    · exact (keeps_pinionStep _ _ _ s).completes
    · exact Keeps.completes {}
  | wheel =>
    dsimp only
    split
    · exact (keeps_wheelChange _ s).completes
    · exact Keeps.completes {}
  | marker =>
    dsimp only
    split
    · exact (keeps_markerChange _ s).completes
    · exact Keeps.completes {}
  | emergIn =>
    exact Keeps.completes { brake := fun good =>
        Brake.Good.withLines good (InputLine.rawChange_level _ _ _) rfl rfl }
  | loopSense =>
    exact Keeps.completes { brake := fun good =>
        Brake.Good.withLines good rfl (InputLine.rawChange_level _ _ _) rfl }
  | bandSense =>
    exact Keeps.completes { brake := fun good =>
        Brake.Good.withLines good rfl rfl (InputLine.rawChange_level _ _ _) }
  | door id line => exact (keeps_doorLine _ line id s).completes
  | select => exact completes_selectChange released level
  | sclk => exact (Follows.of_port fun good => good.clock level).completes
  | sdi => exact (Follows.of_port id).completes
  | reset =>
    dsimp only
    split
    · next asserted => exact absurd (.inr ⟨_, _, now, rfl, .inr ⟨rfl, asserted⟩⟩) stays
    · exact (Keeps.refl s).completes

/-! ### Every command while RESET is released -/

/-- A change of an input of one door. -/
theorem completes_doorInput {s : State} (released : s.resetHeld = false) {c : Prop} [Decidable c]
    {f : DoorTimes → Door → DoorStep} {id : DoorId}
    (stays : s.doorTimes.limit ≤ 5 → (s.doors.get id).Good →
      (s.doors.get id).Stays (f s.doorTimes (s.doors.get id)).1) :
    Completes s (s.unlessReset s (if c then .next s else .next (s.doorEvent f id))) := by
  refine Completes.unlessReset released ?_
  split
  · exact (Keeps.refl s).completes
  · exact (keeps_doorEvent stays).completes

/-- The accepted changes of the doors' inputs and the expiries of their timers (R142 to R151). -/
theorem completes_doorEvent {s : State} (released : s.resetHeld = false) (i : Instr)
    (door : (∃ id level, i = .doorButtonPress id level) ∨ (∃ id level, i = .doorObstruction id level)
      ∨ (∃ id level, i = .doorOpenEnd id level) ∨ (∃ id level, i = .doorClosedChange id level)
      ∨ (∃ id level, i = .doorLockedChange id level) ∨ (∃ id, i = .doorMotionTimerExpiry id)
      ∨ ∃ id, i = .doorLockTimerExpiry id) : Completes s (exec i s) := by
  obtain ⟨id, level, rfl⟩ | ⟨id, level, rfl⟩ | ⟨id, level, rfl⟩ | ⟨id, level, rfl⟩ | ⟨id, level, rfl⟩
    | ⟨id, rfl⟩ | ⟨id, rfl⟩ := door
  · refine completes_doorInput released fun _ good => ?_
    dsimp only [Door.quietly]
    split
    · exact Door.Good.startOpening
          (d := { s.doors.get id with button := (s.doors.get id).button.accept level }) good _
    · exact Door.Good.stays good
  · refine completes_doorInput released fun limit good => ?_
    dsimp only
    split
    · exact Door.Good.obstructSeen
          (d := { s.doors.get id with obstruct := (s.doors.get id).obstruct.accept level }) good limit
    · exact Door.Good.stays good
  · refine completes_doorInput released fun limit good => ?_
    dsimp only
    split
    · exact Door.Good.openEndReached
          (d := { s.doors.get id with openEnd := (s.doors.get id).openEnd.accept level }) good limit
    · exact Door.Good.stays good
  · exact completes_doorInput released fun _ good =>
      Door.Good.closedChanged (d := { s.doors.get id with closed := (s.doors.get id).closed.accept level }) good _ level
  · exact completes_doorInput released fun _ good =>
      Door.Good.lockedChanged (d := { s.doors.get id with locked := (s.doors.get id).locked.accept level }) good level
  · exact Keeps.eventIf released (fun running => keeps_doorEvent fun _ good =>
      Door.Good.motionExpired good running) fun _ => .refl s
  · exact Keeps.eventIf released (fun running => keeps_doorEvent fun _ good =>
      Door.Good.lockExpired good running) fun _ => .refl s

theorem completes_exec {s : State} (released : s.resetHeld = false) {i : Instr} (stays : ¬s.Resets i) :
    Completes s (exec i s) := by
  have same := Keeps.refl s
  cases i with
  | powerOnReset => exact absurd (.inl rfl) stays
  | rawInputChange => exact completes_rawInputChange released stays
  | frameError bytes whole => exact completes_frameError released bytes whole
  | acceptedStep a b now => exact (keeps_pinionStep a b now s).event released
  | standstillTimerExpiry => exact Keeps.eventIf released (fun _ => keeps_enterStandstill s) fun _ => same
  | wheelPulse level => exact Keeps.eventIf released (fun _ => same) fun _ => keeps_wheelChange level s
  | markerPulse level => exact Keeps.eventIf released (fun _ => same) fun _ => keeps_markerChange level s
  | minuteTimerExpiry => exact Keeps.eventIf released (fun _ => keeps_minuteExpiry s) fun _ => same
  | evaluationTimerExpiry => exact Keeps.eventIf released (fun _ => keeps_evaluate s) fun _ => same
  | emergInAsserted => exact Keeps.eventIf released (fun _ => same) fun _ => keeps_emergInAsserted s
  | emergInReleased => exact Keeps.eventIf released (fun _ => keeps_emergInReleased s) fun _ => same
  | loopSenseChange level =>
    exact Keeps.eventIf released (fun _ => same) fun _ => keeps_onBrake fun _ good => good.takeLoopSense level
  | bandSenseChange level =>
    exact Keeps.eventIf released (fun _ => same) fun _ => keeps_onBrake fun t good =>
        good.takeBandSense t level
  | rampTimerExpiry =>
    exact Keeps.eventIf released (fun running => keeps_onBrake fun _ good => good.rampStep _ running)
        fun _ => same
  | overlapTimerExpiry =>
    exact Keeps.eventIf released (fun _ => keeps_onBrake fun t good => good.overlapEnds t) fun _ => same
  | bandApplyTimerExpiry => exact Keeps.eventIf released (fun _ => keeps_bandApplyExpiry s) fun _ => same
  | loopAgreementTimerExpiry =>
    exact Keeps.eventIf released (fun _ => keeps_loopAgreementExpiry s) fun _ => same
  | doorButtonPress | doorObstruction | doorOpenEnd | doorClosedChange | doorLockedChange
  | doorMotionTimerExpiry | doorLockTimerExpiry =>
    exact completes_doorEvent released _ (by simp)
  | receivedByte source =>
    cases source with
    | modem => exact Keeps.eventIf released (fun receives => keeps_takeByte receives _ _) fun _ => same
    | looped => exact (keeps_takeLooped s).event released
    | sdi value => exact Completes.portEvent released fun good => good.takeByte value
  | silenceTimerExpiry =>
    refine Completes.unlessReset released ?_
    split
    · next inside => exact (keeps_silenceEnd inside).completes
    · exact same.completes
  | linkTimerExpiry => exact Keeps.eventIf released (fun _ => keeps_linkExpiry s) fun _ => same
  | carrierChange => exact (keeps_judgeStart {}).event released
  | modeChange => exact (keeps_judgeMode s).event released
  | transmissionStart => exact (keeps_startFrame s).event released
  | endOfTransmission => exact Keeps.eventIf released (fun _ => keeps_endTransmission s) fun _ => same
  | waitingItemsPlaced => exact (keeps_placed s).event released
  | issue | revoke | poll | tableQuery | text | linkCheck | frameNotUsed =>
    exact (keeps_frameArrives _ _ _ _ s).event released
  | loopedFrame => exact Keeps.eventIf released (fun _ => keeps_loopRest s) fun _ => same
  | reportTimerExpiry => exact Keeps.eventIf released (fun _ => keeps_reportExpiry s) fun _ => same
  | responseReadout clocked => exact Completes.portEvent released fun good => good.endSelection clocked
  | requestSelectionFirstClock => exact Completes.portEvent released Port.Good.firstClock
  | protocolBytesIgnored =>
    refine Completes.unlessReset released ?_
    split
    · exact Follows.completes { port := fun _ good => good.select }
    · exact same.completes
  | _ => rw [← State.takeRequest_eq_exec rfl]; exact completes_takeRequest released _

/-! ### Resets (R202) -/

/-- A reset completes, and so does every command while RESET is asserted: the part takes its power-on
values, or the unit is as it was. -/
theorem exec_reset_completes {i : Instr} {s : State} (reset : s.resetHeld = true ∨ s.Resets i) :
    ∃ t, exec i s = .next t ∧ (t.brake = s.brake ∨ ∃ u : State, t = u.powerOn) := by
  cases held : s.resetHeld with
  | true =>
    cases i with
    | powerOnReset => exact ⟨_, rfl, .inr ⟨s, rfl⟩⟩
    | rawInputChange => exact ⟨_, State.unlessReset_held _ _ held, .inr ⟨_, rfl⟩⟩
    | receivedByte source => cases source <;> exact ⟨_, State.unlessReset_held _ _ held, .inl rfl⟩
    | _ => exact ⟨_, State.unlessReset_held _ _ held, .inl rfl⟩
  | false =>
    obtain rfl | ⟨input, level, now, rfl, asserted⟩ := reset.resolve_left (by simp [held])
    · exact ⟨_, rfl, .inr ⟨s, rfl⟩⟩
    · obtain ⟨rfl, rfl⟩ := asserted.resolve_left (by simp [held])
      exact ⟨_, State.unlessReset_released _ _ held, .inr ⟨_, rfl⟩⟩

/-- The unit stays good at every command, with RESET asserted or released. -/
theorem exec_keeps_brake {i : Instr} {s t : State} (he : exec i s = .next t) (good : s.brake.Good) :
    t.brake.Good := by
  by_cases reset : s.resetHeld = true ∨ s.Resets i
  · obtain ⟨u, next, same | ⟨v, rfl⟩⟩ := exec_reset_completes reset
    · cases next.symm.trans he
      rw [same]; exact good
    · cases next.symm.trans he
      exact Brake.afterReset_good _ _ _ _ _ _
  · obtain ⟨released, stays⟩ := not_or.mp reset
    exact ((completes_exec (Bool.eq_false_iff.mpr released) stays).follows he).brake good

/-- Settles O7: the unit is formed anew at each of its operations, and an evaluation hands it a state with
its demand; a reset leaves its power-on values, with every output applied. -/
theorem brakeOutputsStayFormed : Obligations.BrakeOutputsStayFormed := by
  intro s t hs good
  unfold step at hs
  split at hs
  · cases hs; exact good
  · exact exec_keeps_brake hs good

end Sys2Proof.Machine
end

section
/-! The run from a good state: a step completes in a good state, and a good state is safe. -/

namespace Sys2Proof.Machine

/-! ### One step -/

/-- No command stops the run (5.6). -/
theorem step_completes (s : State) : ∃ t, step s = .next t := by
  unfold step
  split
  · exact ⟨s, rfl⟩
  · next c rest _ =>
    by_cases reset : (s.withPending rest).resetHeld = true ∨ (s.withPending rest).Resets c
    · obtain ⟨t, next, -⟩ := exec_reset_completes reset
      exact ⟨t, next⟩
    · obtain ⟨released, stays⟩ := not_or.mp reset
      obtain ⟨t, next, -⟩ := completes_exec (Bool.eq_false_iff.mpr released) stays
      exact ⟨t, next⟩

/-- The doors, the radio and the host port after a reset (R202). -/
theorem State.powerOn_blocksGood (s : State) :
    s.powerOn.doors.Good ∧ s.powerOn.radio.Good ∧ s.powerOn.port.Good :=
  ⟨Doors.powerOn_good _, Radio.afterReset_good _ _, (Port.good_idle rfl).mpr ⟨rfl, rfl, id, rfl⟩⟩

theorem step_keeps_blocks {s t : State} (good : s.Good) (hs : step s = .next t) :
    t.doors.Good ∧ t.radio.Good ∧ t.port.Good := by
  unfold step at hs
  split at hs
  · cases hs; exact ⟨good.doors, good.radio, good.port⟩
  · next c rest _ =>
    by_cases reset : (s.withPending rest).resetHeld = true ∨ (s.withPending rest).Resets c
    · have fixed : (s.withPending rest).resetHeld = true →
          (s.withPending rest).powerOn = s.withPending rest :=
        fun held => congrArg (State.withPending rest) (good.held held)
      rw [← exec_powerOn fixed reset hs]
      exact State.powerOn_blocksGood t
    · obtain ⟨released, stays⟩ := not_or.mp reset
      obtain ⟨-, -, -, params⟩ := good.profile
      have follows := (completes_exec (Bool.eq_false_iff.mpr released) stays).follows hs
      have readable : (s.withPending rest).Readable :=
          ⟨good.table.1, good.radio.queue.1, good.radio.mailbox.2⟩
      exact ⟨follows.doors params good.doors, follows.radio good.radio, follows.port readable good.port⟩

/-- Every block keeps its own invariant, and the values that two blocks hold agree. -/
theorem step_good {s t : State} (good : s.Good) (hs : step s = .next t) : t.Good := by
  obtain ⟨doors, radio, port⟩ := step_keeps_blocks good hs
  obtain ⟨segments, -⟩ := good.profile
  obtain ⟨sup, agree, held⟩ := blocksStayInAgreement s t hs good
  exact {
    port, doors, radio, sup, agree, held
    profile := profileStaysGood s t hs good.profile
    odo := odometryStaysGood s t hs segments good.odo
    table := tableStaysGood s t hs good.table good.radio.buffers good.radio.held
    brake := brakeOutputsStayFormed s t hs good.brake }

/-! ### Safety -/

/-- LOOP and BAND are as their conditions form them, and the unit holds the supervisor's state and the
doors' security (R119, R125). -/
theorem State.Good.safe {s : State} (good : s.Good) : s.Safe := by
  obtain ⟨⟨loop, band⟩, -⟩ := good.brake
  obtain ⟨-, state, -, secure, -⟩ := good.agree
  refine ⟨fun on => ?_, fun on => ?_⟩
  · rw [loop] at on
    simp only [Brake.loopWanted, state, Bool.and_eq_true, beq_iff_eq, bne_iff_ne, Bool.not_eq_true'] at on
    obtain ⟨⟨⟨armed, normal⟩, released⟩, -⟩ := on
    exact ⟨armed, normal, released⟩
  · rw [band] at on
    simp only [Brake.bandWanted, state, secure, Bool.and_eq_true, beq_iff_eq, bne_iff_ne,
        Bool.not_eq_true'] at on
    obtain ⟨⟨⟨⟨⟨⟨armed, locked⟩, released⟩, -⟩, normal⟩, -⟩, -⟩ := on
    exact ⟨armed, normal, released, locked⟩

/-- Settles O11, by induction on the number of steps: each completes in a good state, and a good state is
safe. -/
theorem everyRunStaysSafe : Obligations.EveryRunStaysSafe := by
  intro n
  induction n with
  | zero => exact fun s good => ⟨s, rfl, good, good.safe⟩
  | succ n ih =>
    intro s good
    obtain ⟨t, next⟩ := step_completes s
    obtain ⟨u, run, goal⟩ := ih t (step_good good next)
    refine ⟨u, ?_, goal⟩
    unfold runFrom
    rw [next]
    exact run

end Sys2Proof.Machine
end

section
/-! What a command can do to a LOCKED door. `DoorsMove` lists the two ways: every LOCKED door stays LOCKED or
goes to FAULT, or a grant unlocks those of its side; `exec_movesDoors` says that every command that is no
reset of the part takes one of them (R138, R141, R145, R149, R154). -/

namespace Sys2Proof.Machine

/-! ### What leaves the doors alone -/

theorem ReachRadio.doors {s t : State} (h : ReachRadio s t) : t.doors = s.doors := h.messages.doors

@[simp] theorem State.setFlagIf_doors (c : Bool) (f : Flag) (s : State) :
    (s.setFlagIf c f).doors = s.doors := (setFlagIf_reach c f s).doors
@[simp] theorem State.handCause_doors (f : Causes → Causes) (s : State) :
    (s.handCause f).doors = s.doors := (handCause_reach f s).doors
@[simp] theorem State.handEmergIn_doors (b : Bool) (s : State) :
    (s.handEmergIn b).doors = s.doors := (handEmergIn_reach b s).doors
@[simp] theorem State.handSecure_doors (b : Bool) (s : State) :
    (s.handSecure b).doors = s.doors := (handSecure_reach b s).doors
@[simp] theorem State.changeSupState_doors (new : SupState) (s : State) :
    (s.changeSupState new).doors = s.doors := (changeSupState_reach new s).doors
@[simp] theorem State.issueRecord_doors (src : IssueSource) (o : Origin) (b : IssueBody) (s : State) :
    (s.issueRecord src o b).1.doors = s.doors := (issueRecord_reach src o b s).doors
@[simp] theorem State.revokeSlot_doors (slot : Nat) (s : State) :
    (s.revokeSlot slot).doors = s.doors := (revokeSlot_reach slot s).doors
@[simp] theorem State.minuteExpiry_doors (s : State) : s.minuteExpiry.doors = s.doors :=
  (minuteExpiry_reach s).doors
@[simp] theorem State.setLink_doors (l : LinkStatus) (s : State) : (s.setLink l).doors = s.doors :=
  (setLink_reach l s).doors
@[simp] theorem State.judgeStart_doors (s : State) : s.judgeStart.doors = s.doors :=
  (judgeStart_reach s).doors
@[simp] theorem State.startFrame_doors (s : State) : s.startFrame.doors = s.doors :=
  (startFrame_reach s).doors
@[simp] theorem State.judgeMode_doors (s : State) : s.judgeMode.doors = s.doors :=
  (judgeMode_reach s).doors
@[simp] theorem State.lineEvent_doors (s : State) : s.lineEvent.doors = s.doors :=
  (lineEvent_reach s).doors
@[simp] theorem State.placeWaiting_doors (s : State) : s.placeWaiting.doors = s.doors :=
  (placeWaiting_reach s).doors
@[simp] theorem State.removeFirst_doors (test : QueueEntry → Bool) (r : TxResult) (s : State) :
    (s.removeFirst test r).doors = s.doors := (removeFirst_reach test r s).doors
@[simp] theorem State.removeEntries_doors (test : QueueEntry → Bool) (r : TxResult) (s : State) :
    (s.removeEntries test r).doors = s.doors := (removeEntries_reach test r s).doors
@[simp] theorem State.takeByte_doors (b : Byte) (e : Bool) (s : State) :
    (s.takeByte b e).doors = s.doors := (takeByte_reach b e s).doors
@[simp] theorem State.takeLooped_doors (s : State) : s.takeLooped.doors = s.doors :=
  (takeLooped_reach s).doors
@[simp] theorem State.loopRest_doors (s : State) : s.loopRest.doors = s.doors := (loopRest_reach s).doors
@[simp] theorem State.finishTransmission_doors (s : State) : s.finishTransmission.doors = s.doors :=
  (finishTransmission_reach s).doors
@[simp] theorem State.frameArrives_doors (d src k : Byte) (body : List Byte) (s : State) :
    (s.frameArrives d src k body).doors = s.doors := (frameArrives_reach d src k body s).doors
@[simp] theorem State.makeReport_doors (s : State) : s.makeReport.doors = s.doors :=
  (makeReport_reach s).doors

@[simp] theorem State.endTransmission_doors (s : State) : s.endTransmission.doors = s.doors := by
  unfold State.endTransmission; split <;> simp

@[simp] theorem State.acknowledge_doors (s : State) : s.acknowledge.doors = s.doors := by
  simp [State.acknowledge, State.clearCauses]

@[simp] theorem State.bandApplyExpiry_doors (s : State) : s.bandApplyExpiry.doors = s.doors := by
  unfold State.bandApplyExpiry State.brakeFault; dsimp only; split <;> simp

@[simp] theorem State.loopAgreementExpiry_doors (s : State) : s.loopAgreementExpiry.doors = s.doors := by
  unfold State.loopAgreementExpiry State.brakeFault; dsimp only; split <;> simp

@[simp] theorem State.afterSection_doors (sect : Nat) (s : State) :
    (s.afterSection sect).doors = s.doors := by
  unfold State.afterSection; split <;> rfl

@[simp] theorem State.odoFault_doors (f : OdoFault) (s : State) : (s.odoFault f).doors = s.doors := by
  unfold State.odoFault; split <;> simp

@[simp] theorem State.wheelChange_doors (level : Bool) (s : State) :
    (s.wheelChange level).doors = s.doors := by
  unfold State.wheelChange State.wheelTurn; dsimp only; (repeat' split) <;> simp

@[simp] theorem State.markerChange_doors (level : Bool) (s : State) :
    (s.markerChange level).doors = s.doors := by
  unfold State.markerChange State.markerPass; dsimp only; (repeat' split) <;> simp

/-! ### The doors after a door event (R152) -/

/-- What is handed on at a change of DOORS_SECURE leaves the doors as the change has them (R152). -/
@[simp] theorem State.commitDoors_doors (x : Doors × Bool) (s : State) : (s.commitDoors x).doors = x.1 := by
  unfold State.commitDoors; dsimp only; split <;> simp

@[simp] theorem State.doorEvent_doors (f : DoorTimes → Door → DoorStep) (id : DoorId) (s : State) :
    (s.doorEvent f id).doors = (s.doors.step (f s.doorTimes) id).1 := State.commitDoors_doors _ s

/-- A grant unlocks the LOCKED doors of its side, and leaves the other doors (R141). -/
theorem State.grant_get (side : Side) (override : Bool) (s : State) (id : DoorId) :
    (s.grant side override).doors.get id
      = if doorSide id = side then (s.doors.get id).unlock else s.doors.get id := by
  unfold State.grant
  dsimp only
  rw [State.commitDoors_doors, Doors.stepSides_get, Doors.setReleased_get]
  simp only [List.mem_singleton, Door.quietly]
  cases override <;> cases id <;> rfl

/-! ### A LOCKED door at the events of one door -/

/-- A LOCKED door is LOCKED or in FAULT after an event (R149). -/
def Door.StaysLocked (d e : Door) : Prop := d.state = .locked → e.state = .locked ∨ e.state = .fault

theorem Door.staysLocked_of_state {d e : Door} (h : e.state = d.state) : d.StaysLocked e :=
  fun locked => .inl (h.trans locked)

theorem Door.startOpening_staysLocked (t : DoorTimes) (d : Door) : d.StaysLocked (d.startOpening t) :=
  fun locked => .inl (by simp [Door.startOpening, locked])

theorem Door.close_staysLocked (t : DoorTimes) (d : Door) : d.StaysLocked (d.close t).1 :=
  fun locked => .inl (by simp [Door.close, locked])

theorem Door.openEndReached_staysLocked (t : DoorTimes) (d : Door) :
    d.StaysLocked (d.openEndReached t).1 :=
  fun locked => .inl (by simp [Door.openEndReached, locked])

theorem Door.obstructSeen_staysLocked (t : DoorTimes) (d : Door) : d.StaysLocked (d.obstructSeen t).1 :=
  fun locked => .inl (by simp [Door.obstructSeen, locked])

/-- CLOSED lost at a LOCKED door is a forced door (R149). -/
theorem Door.closedChanged_staysLocked (t : DoorTimes) (value : Bool) (d : Door) :
    d.StaysLocked (d.closedChanged t value).1 := by
  intro locked
  cases value with
  | true => exact .inl (by simp [Door.closedChanged, locked])
  | false => exact .inr (by simp [Door.closedChanged, locked, Door.enterFault])

/-- LOCKED lost at a LOCKED door is a forced door (R149). -/
theorem Door.lockedChanged_staysLocked (value : Bool) (d : Door) :
    d.StaysLocked (d.lockedChanged value).1 := by
  intro locked
  cases value with
  | true => exact .inl (by simp [Door.lockedChanged, locked])
  | false => exact .inr (by simp [Door.lockedChanged, locked, Door.enterFault])

theorem Door.motionExpired_staysLocked (d : Door) : d.StaysLocked d.motionExpired.1 :=
  fun locked => .inl (by simp [Door.motionExpired, locked])

theorem Door.lockExpired_staysLocked (d : Door) : d.StaysLocked d.lockExpired.1 :=
  fun locked => .inl (by simp [Door.lockExpired, locked])

/-! ### The four doors -/

/-- Every LOCKED door is LOCKED or in FAULT after an event. -/
def Doors.StayLocked (ds es : Doors) : Prop := ∀ id, (ds.get id).StaysLocked (es.get id)

theorem Doors.StayLocked.refl (ds : Doors) : ds.StayLocked ds := fun _ => Door.staysLocked_of_state rfl

theorem Doors.step_stayLocked {f : Door → DoorStep} {id : DoorId} {ds : Doors}
    (h : (ds.get id).StaysLocked (f (ds.get id)).1) : ds.StayLocked (ds.step f id).1 := by
  intro j
  rw [Doors.step_get]
  split
  · next same => subst same; exact h
  · exact Door.staysLocked_of_state rfl

theorem Doors.stepSides_stayLocked {f : Door → DoorStep} (h : ∀ d : Door, d.StaysLocked (f d).1)
    (sides : List Side) (ds : Doors) : ds.StayLocked (ds.stepSides sides f).1 := by
  intro id
  rw [Doors.stepSides_get]
  split
  · exact h _
  · exact Door.staysLocked_of_state rfl

theorem Doors.closeSides_stayLocked (t : DoorTimes) (sides : List Side) (ds : Doors) :
    ds.StayLocked (ds.closeSides t sides).1 := by
  intro id
  obtain ⟨same, -⟩ := Doors.unrelease_others sides ds id
  rw [← same]
  exact Doors.stepSides_stayLocked (Door.close_staysLocked t) sides _ id

theorem Doors.softReset_stayLocked (t : DoorTimes) (ds : Doors) : ds.StayLocked (ds.softReset t) := by
  intro id
  obtain ⟨-, -, closed⟩ := Doors.softReset_eq t ds
  rw [closed]
  exact Door.close_staysLocked t _

/-- A raw level moves the filter of one input of a door and no state (R137). -/
theorem Doors.setLine_stayLocked (x : InputLine) (line : DoorInput) (id : DoorId) (ds : Doors) :
    ds.StayLocked (ds.put ((ds.get id).setLine x line) id) :=
  Doors.step_stayLocked (f := Door.quietly fun d => d.setLine x line)
    (Door.staysLocked_of_state (by cases line <;> rfl))

/-- The kept MOTION moves no door. -/
theorem Doors.motion_stayLocked (motion : Bool) (ds : Doors) : ds.StayLocked { ds with motion := motion } :=
  fun id => Door.staysLocked_of_state (by cases id <;> rfl)

theorem State.enterStandstill_stayLocked (s : State) : s.doors.StayLocked s.enterStandstill.doors :=
  Doors.motion_stayLocked false s.doors

/-- A counted edge tells the doors at most that the car moves (R40). -/
theorem State.countedEdge_stayLocked {ds : Doors} {s : State} (same : s.doors = ds) (dir : Dir)
    (now : Micros) : ds.StayLocked (s.countedEdge dir now).doors := by
  subst same
  rw [State.countedEdge_doors]
  split
  · exact .refl _
  · exact Doors.motion_stayLocked true s.doors

theorem State.pinionStep_stayLocked (a b : Bool) (now : Micros) (s : State) :
    s.doors.StayLocked (s.pinionStep a b now).doors := by
  unfold State.pinionStep
  dsimp only
  split
  · exact .refl _
  · refine State.countedEdge_stayLocked ?_ _ _; rfl
  · rw [State.illegalStep, State.odoFault_doors]; exact .refl _

/-! ### The ways in which a LOCKED door moves -/

/-- What a command `i` that is no reset can make of the LOCKED doors of a state: each stays LOCKED or goes to
FAULT, or a grant, under the checks that it passes, unlocks those of its side (R140, R141, R149). -/
inductive DoorsMove (s : State) (i : Instr) (ds : Doors) : Prop
  | stay (h : s.doors.StayLocked ds)
  | granted {side override : Byte} {named : Side} (brings : s.Brings i (.doorRelease side override))
      (code : sideOfCode side = some named) (still : s.doors.motion = false)
      (applied : s.brake.bandState = .applied)
      (h : ∀ id, ds.get id = if doorSide id = named then (s.doors.get id).unlock else s.doors.get id)

/-- The doors after an outcome come from those of a state by one of the ways above. -/
def MovesDoors (s : State) (i : Instr) (r : Result) : Prop := ∀ t, r = .next t → DoorsMove s i t.doors

theorem movesDoors_of_move {s u : State} {i : Instr} (h : DoorsMove s i u.doors) :
    MovesDoors s i (.next u) := by
  rintro t ⟨⟩; exact h

theorem movesDoors_of_stay {s u : State} {i : Instr} (h : s.doors.StayLocked u.doors) :
    MovesDoors s i (.next u) := movesDoors_of_move (.stay h)

theorem movesDoors_of_same {s u : State} {i : Instr} (h : u.doors = s.doors) :
    MovesDoors s i (.next u) := movesDoors_of_stay (h ▸ .refl _)

theorem movesDoors_unlessReset {s held : State} {i : Instr} {r : Result} (same : held.doors = s.doors)
    (h : s.resetHeld = false → MovesDoors s i r) : MovesDoors s i (s.unlessReset held r) := by
  unfold State.unlessReset
  split
  · exact movesDoors_of_same same
  · next released => exact h (Bool.eq_false_iff.mpr released)

theorem movesDoors_takeSelection {frame : List Byte} {whole : Bool} {s : State} {i : Instr}
    {taken : Result} (h : s.resetHeld = false → MovesDoors s i taken) :
    MovesDoors s i (takeSelection frame whole s taken) := by
  refine movesDoors_unlessReset rfl fun released => ?_
  split
  · exact h released
  · exact movesDoors_of_same rfl

theorem movesDoors_hostRequest {code : Byte} {params : List Byte} {s : State} {i : Instr}
    {taken : Result} (h : s.resetHeld = false → MovesDoors s i taken) :
    MovesDoors s i (hostRequest code params s taken) :=
  movesDoors_takeSelection h

/-- A command that acts only while RESET is released, and then leaves the doors alone. -/
theorem movesDoors_event {s u : State} {i : Instr} (h : u.doors = s.doors) :
    MovesDoors s i (s.unlessReset s (.next u)) :=
  movesDoors_unlessReset rfl fun _ => movesDoors_of_same h

/-- One door takes an event. -/
theorem movesDoors_doorEvent {f : DoorTimes → Door → DoorStep} {id : DoorId} {s : State} {i : Instr}
    (h : (s.doors.get id).StaysLocked (f s.doorTimes (s.doors.get id)).1) :
    MovesDoors s i (.next (s.doorEvent f id)) :=
  movesDoors_of_stay (by rw [State.doorEvent_doors]; exact Doors.step_stayLocked h)

/-! ### The door commands -/

/-- DOOR_RELEASE unlocks doors only when it is granted: at standstill with the band applied (R140, R141). -/
theorem execDoorRelease_moves {side override : Byte} {s : State} {i : Instr}
    (brings : s.resetHeld = false → s.Brings i (.doorRelease side override)) :
    MovesDoors s i (execDoorRelease side override s) := by
  refine movesDoors_hostRequest fun released => ?_
  split
  · next named o code _ =>
    split
    · exact movesDoors_of_same rfl
    · next still =>
      split
      · exact movesDoors_of_same rfl
      · next applied =>
        split
        · exact movesDoors_of_move (.granted (brings released) code (Bool.eq_false_iff.mpr still)
            (not_not.mp applied) (State.grant_get _ _ s))
        · exact movesDoors_of_same rfl
  · exact movesDoors_of_same rfl

theorem execDoorOpen_moves (side : Byte) (s : State) (i : Instr) :
    MovesDoors s i (execDoorOpen side s) := by
  refine movesDoors_hostRequest fun _ => ?_
  split
  · exact movesDoors_of_same rfl
  · split
    · exact movesDoors_of_same rfl
    · split
      · refine movesDoors_of_stay ?_
        rw [State.respond_doors, State.commitDoors_doors]
        exact Doors.stepSides_stayLocked (Door.startOpening_staysLocked s.doorTimes) _ _
      · exact movesDoors_of_same rfl

theorem execDoorClose_moves (side : Byte) (s : State) (i : Instr) :
    MovesDoors s i (execDoorClose side s) := by
  refine movesDoors_hostRequest fun _ => ?_
  split
  · exact movesDoors_of_same rfl
  · refine movesDoors_of_stay ?_
    rw [State.respond_doors, State.commitDoors_doors]
    exact Doors.closeSides_stayLocked _ _ _

/-- DOOR_RESET is for a door in FAULT (R150). -/
theorem execDoorReset_moves (door : Byte) (s : State) (i : Instr) :
    MovesDoors s i (execDoorReset door s) := by
  refine movesDoors_hostRequest fun _ => ?_
  split
  · exact movesDoors_of_same rfl
  · dsimp only
    split
    · next faulty =>
      refine movesDoors_of_stay ?_
      rw [State.respond_doors, State.doorEvent_doors]
      exact Doors.step_stayLocked fun locked => absurd (faulty.1.symm.trans locked) (by decide)
    · exact movesDoors_of_same rfl

/-! ### Every command -/

theorem execFrameError_movesDoors (bytes : List Byte) (whole : Bool) (s : State) (i : Instr) :
    MovesDoors s i (execFrameError bytes whole s) := by
  refine movesDoors_takeSelection fun _ => ?_
  (repeat' split) <;> exact movesDoors_of_same rfl

/-- A request that the port takes moves the doors as chapter 7 says, and at SOFT_RESET as R154 does; the
other requests leave them alone. -/
theorem takeRequest_movesDoors {request i : Instr} {s : State}
    (brings : s.resetHeld = false → s.Brings i request) : MovesDoors s i (s.takeRequest request) := by
  cases request with
  | doorRelease => exact execDoorRelease_moves brings
  | doorOpen side => exact execDoorOpen_moves side s i
  | doorClose side => exact execDoorClose_moves side s i
  | doorReset door => exact execDoorReset_moves door s i
  | softReset =>
    refine movesDoors_hostRequest fun _ => ?_
    split
    · exact movesDoors_of_same rfl
    · exact movesDoors_of_stay (Doors.softReset_stayLocked _ _)
  | profileWrite | profileClose | profileClear | profileRead | lockRaise | configRead | recordRead
  | recordFind | tableList | mailboxRead | mailboxRelease | brakeDemand | flagsReadClear | flagsEnable =>
    refine movesDoors_hostRequest fun _ => ?_
    (repeat' split) <;> exact movesDoors_of_same rfl
  | recordIssue =>
    refine movesDoors_hostRequest fun _ => ?_
    split
    · exact movesDoors_of_same rfl
    · exact movesDoors_of_same (State.issueRecord_doors _ _ _ s)
  | positionSet | directionSelect | recordRevoke | lossAck | emergencyAck | radioMode | radioSend
  | radioAbortAll | statusRead =>
    refine movesDoors_hostRequest fun _ => ?_
    (repeat' split) <;> exact movesDoors_of_same (by simp)
  | configWrite | radioAbort =>
    refine movesDoors_hostRequest fun _ => ?_
    dsimp only
    (repeat' split) <;> exact movesDoors_of_same (by simp)
  | _ => exact movesDoors_of_same rfl

/-- The deselection in RECEIVING moves the doors as the request in the buffer does. -/
theorem takeBuffer_movesDoors {now : Micros} {s : State} (receiving : s.port.state = .receiving) :
    MovesDoors s (.rawInputChange .select false now) s.takeBuffer := by
  unfold State.takeBuffer
  split
  · next request read =>
    exact takeRequest_movesDoors fun released => ⟨released, .inr ⟨⟨now, rfl⟩, receiving, read⟩⟩
  · exact execFrameError_movesDoors _ _ _ _

/-- A change of an input moves a LOCKED door at the deselection of a request alone, unless it is a reset. -/
theorem execRawInputChange_movesDoors {input : InputId} {level : Bool} {now : Micros} {s : State}
    (h : ¬s.Resets (.rawInputChange input level now)) :
    MovesDoors s (.rawInputChange input level now) (execRawInputChange input level now s) := by
  have released : s.resetHeld = false := by
    by_contra held
    exact h (.inr ⟨input, level, now, rfl, .inl (by simpa using held)⟩)
  unfold execRawInputChange
  rw [State.unlessReset_released _ _ released]
  cases input with
  | pinA | pinB =>
    dsimp only
    split
    · exact movesDoors_of_stay (State.pinionStep_stayLocked _ _ _ _)
    · exact movesDoors_of_same rfl
  | wheel | marker => dsimp only; split <;> exact movesDoors_of_same (by simp)
  | emergIn | loopSense | bandSense | sclk | sdi => exact movesDoors_of_same rfl
  | door id line => exact movesDoors_of_stay (Doors.setLine_stayLocked _ line id _)
  | select =>
    dsimp only
    unfold State.selectChange
    split
    · exact movesDoors_of_same rfl
    · next low =>
      obtain rfl := Bool.eq_false_iff.mpr low
      split
      · next ready => exact takeBuffer_movesDoors (by simpa [State.readyHigh] using ready)
      · exact movesDoors_of_same rfl
  | reset =>
    dsimp only
    split
    · next asserted => exact absurd (.inr ⟨_, _, now, rfl, .inr ⟨rfl, asserted⟩⟩) h
    · exact movesDoors_of_same rfl

/-- An accepted change of an input of one door. -/
theorem movesDoors_doorInput {c : Prop} [Decidable c] {f : DoorTimes → Door → DoorStep} {id : DoorId}
    {s : State} {i : Instr} (h : (s.doors.get id).StaysLocked (f s.doorTimes (s.doors.get id)).1) :
    MovesDoors s i (s.unlessReset s (if c then .next s else .next (s.doorEvent f id))) := by
  refine movesDoors_unlessReset rfl fun _ => ?_
  split
  · exact movesDoors_of_same rfl
  · exact movesDoors_doorEvent h

/-- The expiry of a timer of one door. -/
theorem movesDoors_doorTimer {c : Prop} [Decidable c] {f : DoorTimes → Door → DoorStep} {id : DoorId}
    {s : State} {i : Instr} (h : (s.doors.get id).StaysLocked (f s.doorTimes (s.doors.get id)).1) :
    MovesDoors s i (s.unlessReset s (.next (if c then s.doorEvent f id else s))) := by
  refine movesDoors_unlessReset rfl fun _ => ?_
  split
  · exact movesDoors_doorEvent h
  · exact movesDoors_of_same rfl

/-- Every command that is no reset of the part moves the LOCKED doors in one of the ways of `DoorsMove`. -/
theorem exec_movesDoors {i : Instr} {s : State} (h : ¬s.Resets i) : MovesDoors s i (exec i s) := by
  cases i with
  | powerOnReset => exact absurd (.inl rfl) h
  | rawInputChange => exact execRawInputChange_movesDoors h
  | frameError bytes whole => exact execFrameError_movesDoors bytes whole s _
  | acceptedStep a b now =>
    exact movesDoors_unlessReset rfl fun _ => movesDoors_of_stay (State.pinionStep_stayLocked a b now s)
  | standstillTimerExpiry =>
    refine movesDoors_unlessReset rfl fun _ => ?_
    split
    · exact movesDoors_of_stay s.enterStandstill_stayLocked
    · exact movesDoors_of_same rfl
  | doorButtonPress id level =>
    refine movesDoors_doorInput ?_
    dsimp only [Door.quietly]
    split
    · exact fun locked => Door.startOpening_staysLocked _ _ locked
    · exact Door.staysLocked_of_state rfl
  | doorObstruction id level =>
    refine movesDoors_doorInput ?_
    dsimp only
    split
    · exact fun locked => Door.obstructSeen_staysLocked _ _ locked
    · exact Door.staysLocked_of_state rfl
  | doorOpenEnd id level =>
    refine movesDoors_doorInput ?_
    dsimp only
    split
    · exact fun locked => Door.openEndReached_staysLocked _ _ locked
    · exact Door.staysLocked_of_state rfl
  | doorClosedChange id level =>
    exact movesDoors_doorInput fun locked => Door.closedChanged_staysLocked _ level _ locked
  | doorLockedChange id level =>
    exact movesDoors_doorInput fun locked => Door.lockedChanged_staysLocked level _ locked
  | doorMotionTimerExpiry id =>
    exact movesDoors_doorTimer fun locked => Door.motionExpired_staysLocked _ locked
  | doorLockTimerExpiry id =>
    exact movesDoors_doorTimer fun locked => Door.lockExpired_staysLocked _ locked
  | receivedByte source =>
    cases source with
    | modem => exact movesDoors_event (by split <;> simp)
    | looped => exact movesDoors_event (by simp)
    | sdi => exact movesDoors_unlessReset rfl fun _ => movesDoors_of_same rfl
  | silenceTimerExpiry =>
    refine movesDoors_unlessReset rfl fun _ => ?_
    split
    · exact movesDoors_of_same (State.lineEvent_doors _)
    · exact movesDoors_of_same rfl
  | responseReadout | requestSelectionFirstClock | carrierChange =>
    exact movesDoors_unlessReset rfl fun _ => movesDoors_of_same (by simp)
  | modeChange | transmissionStart | waitingItemsPlaced | issue | revoke | poll | tableQuery | text
  | linkCheck | frameNotUsed => exact movesDoors_event (by simp)
  | protocolBytesIgnored | wheelPulse | markerPulse | minuteTimerExpiry | evaluationTimerExpiry
  | emergInAsserted | emergInReleased | loopSenseChange | bandSenseChange | rampTimerExpiry
  | overlapTimerExpiry | bandApplyTimerExpiry | loopAgreementTimerExpiry | linkTimerExpiry
  | endOfTransmission | loopedFrame | reportTimerExpiry => exact movesDoors_event (by split <;> simp)
  | _ =>
    rw [← State.takeRequest_eq_exec rfl]
    exact takeRequest_movesDoors fun released => ⟨released, .inl rfl⟩

/-! ### A door leaves LOCKED only when it may (R141, R149, R154, R202) -/

/-- A side's code is 1 for LEFT, where D0 and D1 stand, and 2 for RIGHT (section 7.1, R204). -/
theorem sideOfCode_doorSide {side : Byte} {id : DoorId} (h : sideOfCode side = some (doorSide id)) :
    side.toNat = if id = .d0 ∨ id = .d1 then 1 else 2 := by
  unfold sideOfCode at h
  split at h <;> cases id <;> simp_all [doorSide]

/-- Settles O12: by `exec_movesDoors`, a door that leaves LOCKED other than to FAULT or at a reset stands on
the side that a grant names. -/
theorem doorsUnlockOnlyWhenHeld : Obligations.DoorsUnlockOnlyWhenHeld := by
  intro i s t id he locked left
  by_cases resets : s.Resets i
  · exact .inr (.inl resets)
  obtain stay | ⟨brings, code, still, applied, moved⟩ := exec_movesDoors resets t he
  · exact .inl ((stay id locked).resolve_left left)
  · rw [moved id] at left ⊢
    split at left
    · next side =>
      subst side
      refine .inr (.inr ⟨?_, still, applied, _, _, brings, sideOfCode_doorSide code⟩)
      simp [Door.unlock, locked]
    · exact absurd locked left

end Sys2Proof.Machine
end

section
/-! Every step keeps the doors good: with RESET released each command does, and a reset leaves the power-on
doors (R143, R147, R148, R154, R202). -/

namespace Sys2Proof.Machine

/-- While RESET is asserted, and at a reset, the doors stand or take their power-on values (R202). -/
theorem exec_reset_doors {i : Instr} {s t : State} (reset : s.resetHeld = true ∨ s.Resets i)
    (he : exec i s = .next t) : t.doors = s.doors ∨ ∃ ds : Doors, t.doors = ds.powerOn := by
  cases held : s.resetHeld with
  | true =>
    cases i with
    | powerOnReset => cases he; exact .inr ⟨s.doors, rfl⟩
    | rawInputChange => cases (State.unlessReset_held _ _ held).symm.trans he; exact .inr ⟨_, rfl⟩
    | receivedByte source =>
      cases source <;> cases (State.unlessReset_held _ _ held).symm.trans he <;> exact .inl rfl
    | _ => cases (State.unlessReset_held _ _ held).symm.trans he; exact .inl rfl
  | false =>
    obtain rfl | ⟨input, level, now, rfl, asserted⟩ := reset.resolve_left (by simp [held])
    · cases he; exact .inr ⟨s.doors, rfl⟩
    · obtain ⟨rfl, rfl⟩ := asserted.resolve_left (by simp [held])
      cases (State.unlessReset_released _ _ held).symm.trans he
      exact .inr ⟨s.doors, rfl⟩

/-- Settles O8: every event of a door keeps its timers with their states and its count within the limit, and
the power-on doors are good. -/
theorem doorsStayGood : Obligations.DoorsStayGood := by
  intro s t hs params good
  unfold step at hs
  split at hs
  · cases hs; exact good
  · next c rest _ =>
    by_cases reset : (s.withPending rest).resetHeld = true ∨ (s.withPending rest).Resets c
    · obtain same | ⟨ds, powered⟩ := exec_reset_doors reset hs
      · rw [same]; exact good
      · rw [powered]; exact Doors.powerOn_good ds
    · obtain ⟨released, stays⟩ := not_or.mp reset
      exact ((completes_exec (Bool.eq_false_iff.mpr released) stays).follows hs).doors params good

end Sys2Proof.Machine
end

section
/-! The accepted changes of a door's inputs and the expiries of its timers, as the tables of the states have
them (R138, R143 to R149, R151, R152). -/

namespace Sys2Proof.Machine

/-! ### What is handed on at a change of the doors (R151, R152) -/

/-- One door takes an event: its door and its note, if any, are committed (R151). -/
theorem Doors.step_eq (f : Door → DoorStep) (id : DoorId) (ds : Doors) :
    ds.step f id = ({ ds.put (f (ds.get id)).1 id with
      lastEvent := ((f (ds.get id)).2.map (DoorNote.event id)).getD ds.lastEvent },
      (f (ds.get id)).2.isSome) := by
  unfold Doors.step
  dsimp only
  cases (f (ds.get id)).2 with
  | some note => rfl
  | none => cases id <;> rfl

/-- A change of the doors sets DOOR_EVENT with a written event, and hands DOORS_SECURE on when it changes
(R151, R152). -/
theorem State.commitDoors_eq (x : Doors × Bool) (s : State) :
    let u : State := { s with doors := x.1, port := { s.port with
      flags := if x.2 = true then setBit s.port.flags .doorEvent else s.port.flags } }
    s.commitDoors x = if x.1.secure = s.doors.secure then u
      else State.evaluate { u with
        brake := Brake.reform (s.param 27) { s.brake with secure := x.1.secure }
        sup := { s.sup with doorsSecure := x.1.secure } } := by
  obtain ⟨ds, written⟩ := x
  cases written <;> rfl

/-! ### The entry to CLOSING (R144 to R147) -/

theorem Door.closeWith_closed (t : DoorTimes) {d : Door} (closed : d.closed.level = true)
    (clear : d.obstruct.level = false) (left : Nat) : d.closeWith t left = (d.enterLocking t, none) := by
  unfold Door.closeWith
  rw [if_pos (by simp [Door.locksAtEntry, closed, clear])]

theorem Door.closeWith_clear (t : DoorTimes) {d : Door} (closed : d.closed.level = false)
    (clear : d.obstruct.level = false) (left : Nat) : d.closeWith t left
      = ({ d with state := .closing, motionTimer := some t.motion, lockTimer := none }, none) := by
  unfold Door.closeWith
  rw [if_neg (by simp [Door.locksAtEntry, closed]), if_neg (by simp [clear])]

/-- An obstructed door is HELD once no reopening is left (R147). -/
theorem Door.closeWith_held (t : DoorTimes) {d : Door} (closed : d.closed.level = false)
    (obstructed : d.obstruct.level = true) : d.closeWith t 0
      = ({ d with state := .held, motionTimer := none, lockTimer := none }, some .held) := by
  unfold Door.closeWith
  rw [if_neg (by simp [Door.locksAtEntry, closed]), if_pos obstructed]

/-- An obstructed door with a reopening left uses it, and enters CLOSING again where it stands at its open
end (R144, R147). -/
theorem Door.closeWith_reopens (t : DoorTimes) {d : Door} (closed : d.closed.level = false)
    (obstructed : d.obstruct.level = true) (left : Nat) : d.closeWith t (left + 1) =
      if d.openEnd.level = true then
        Door.closeWith t left { d with reopen := d.reopen + 1, reclose := false }
      else ({ d with
        state := .opening, reopen := d.reopen + 1, reclose := true
        motionTimer := some t.motion, lockTimer := none }, none) := by
  conv_lhs => unfold Door.closeWith
  rw [if_neg (by simp [Door.locksAtEntry, closed]), if_pos obstructed]

/-- So one that stands at its open end uses up all that are left, and is HELD. -/
theorem Door.closeWith_openEnd (t : DoorTimes) {d : Door} (closed : d.closed.level = false)
    (obstructed : d.obstruct.level = true) (openEnd : d.openEnd.level = true) (left : Nat) :
    d.closeWith t left = ({ d with
      state := .held, reopen := d.reopen + left, reclose := if 0 < left then false else d.reclose
      motionTimer := none, lockTimer := none }, some .held) := by
  induction left generalizing d with
  | zero => exact Door.closeWith_held t closed obstructed
  | succ left ih =>
    rw [Door.closeWith_reopens t closed obstructed, if_pos openEnd]
    refine (ih (d := { d with reopen := d.reopen + 1, reclose := false }) closed obstructed openEnd).trans ?_
    simp [Nat.add_assoc, Nat.add_comm 1 left]

/-- The entry to CLOSING of a door that is not both closed and obstructed (R144 to R147). -/
theorem Door.enterClosing_eq (t : DoorTimes) (d : Door)
    (apart : ¬(d.closed.level = true ∧ d.obstruct.level = true)) :
    d.enterClosing t =
      if d.closed.level = true then
        (if d.locked.level = true then
          ({ d with state := .locked, motionTimer := none, lockTimer := none }, none)
         else ({ d with state := .locking, motionTimer := none, lockTimer := some t.lock }, none))
      else if d.obstruct.level = false then
        ({ d with state := .closing, motionTimer := some t.motion, lockTimer := none }, none)
      else if d.reopen < t.limit ∧ d.openEnd.level = false then
        ({ d with
          state := .opening, reopen := d.reopen + 1, reclose := true
          motionTimer := some t.motion, lockTimer := none }, none)
      else ({ d with
          state := .held, reopen := max d.reopen t.limit
          reclose := if d.reopen < t.limit then false else d.reclose
          motionTimer := none, lockTimer := none }, some .held) := by
  unfold Door.enterClosing
  by_cases closed : d.closed.level = true
  · have clear : d.obstruct.level = false :=
      Bool.eq_false_iff.mpr fun obstructed => apart ⟨closed, obstructed⟩
    rw [if_pos closed, Door.closeWith_closed t closed clear, Door.enterLocking]
    split <;> rfl
  · have ajar : d.closed.level = false := Bool.eq_false_iff.mpr closed
    rw [if_neg closed]
    cases obstruct : d.obstruct.level with
    | false => rw [if_pos rfl, Door.closeWith_clear t ajar obstruct]
    | true =>
      rw [if_neg (by decide)]
      by_cases left : d.reopen < t.limit
      · have one_more : t.limit - d.reopen = t.limit - (d.reopen + 1) + 1 := by omega
        cases openEnd : d.openEnd.level with
        | false =>
          rw [if_pos ⟨left, rfl⟩, one_more, Door.closeWith_reopens t ajar obstruct,
            if_neg (by simp [openEnd])]
        | true =>
          rw [if_neg (by simp), Door.closeWith_openEnd t ajar obstruct openEnd,
            if_pos (Nat.sub_pos_of_lt left), if_pos left, Nat.add_sub_cancel' left.le, max_eq_right left.le]
      · have none_left : t.limit - d.reopen = 0 := Nat.sub_eq_zero_of_le (Nat.le_of_not_lt left)
        rw [if_neg (fun h => left h.1), if_neg left, none_left, Door.closeWith_held t ajar obstruct,
          max_eq_left (Nat.le_of_not_lt left)]

/-- An obstruction does to a CLOSING door what an entry to CLOSING does to an obstructed one (R147). -/
theorem Door.obstructed_eq (t : DoorTimes) {d : Door} (closed : d.closed.level = false)
    (obstruct : d.obstruct.level = true) : d.obstructed t = d.enterClosing t := by
  unfold Door.obstructed Door.enterClosing
  by_cases left : d.reopen < t.limit
  · have one_more : t.limit - d.reopen = t.limit - (d.reopen + 1) + 1 := by omega
    rw [if_pos left, one_more, Door.closeWith_reopens t closed obstruct]
  · rw [if_neg left, Nat.sub_eq_zero_of_le (Nat.le_of_not_lt left), Door.closeWith_held t closed obstruct]

/-- A DOOR_CLOSE at one door: its count and mark are cleared, and a door that stands open, opens or is HELD
enters CLOSING (R145). -/
theorem Door.close_eq (t : DoorTimes) (d : Door) :
    let e : Door := { d with reopen := 0, reclose := false }
    d.close t =
      if d.state = .opened ∨ d.state = .opening ∨ d.state = .held
          ∨ (d.state = .unlocked ∧ d.closed.level = false) then e.enterClosing t
      else if d.state = .unlocked then
        (if d.locked.level = true then
          ({ e with state := .locked, motionTimer := none, lockTimer := none }, none)
         else ({ e with state := .locking, motionTimer := none, lockTimer := some t.lock }, none))
      else (e, none) := by
  intro e
  unfold Door.close
  cases state : d.state with
  | opened | opening | held | closing | locking | locked | fault => simp [state, e]
  | unlocked =>
    cases closed : d.closed.level with
    | false => simp [state, closed, e]
    | true => simp [closed, e, Door.enterLocking, apply_ite fun d : Door => (d, (none : Option DoorNote))]

/-! ### The tables of the states

Each is given to any reading `g` of a door and its note, so that what is made of them stands in each case. -/

section
variable {α : Type} (g : DoorStep → α) (t : DoorTimes) (d : Door)

/-- A press of the button at standstill opens an UNLOCKED door (R143). -/
theorem Door.pressed_cases (level motion : Bool) :
    g (if (level && !motion) = true then d.startOpening t else d, none) =
      if level = true ∧ motion = false ∧ d.state = .unlocked then
        (if d.openEnd.level = true then g ({ d with
            state := .opened, reclose := false, motionTimer := none, lockTimer := none }, none)
         else g ({ d with
            state := .opening, reclose := false, motionTimer := some t.motion, lockTimer := none }, none))
      else g (d, none) := by
  by_cases opens : level = true ∧ motion = false ∧ d.state = .unlocked
  · obtain ⟨rfl, rfl, unlocked⟩ := opens
    simp only [unlocked, Door.startOpening, Door.enterOpening, Bool.not_false, Bool.and_self, if_true, and_self]
    split <;> rfl
  · rw [if_neg opens]
    split
    · next pressed =>
      obtain ⟨high, still⟩ := Bool.and_eq_true_iff.mp pressed
      have other : d.state ≠ .unlocked := fun unlocked => opens ⟨high, by simpa using still, unlocked⟩
      rw [Door.startOpening, if_neg other]
    · rfl

/-- OPEN_END ends an OPENING, and a door with the reclose mark closes again (R144). -/
theorem Door.openEnd_cases (level : Bool) :
    g (if level = true then d.openEndReached t else (d, none)) =
      if level = true ∧ d.state = .opening then
        (if d.reclose = true then g (({ d with reclose := false }).enterClosing t)
         else g ({ d with state := .opened, motionTimer := none }, none))
      else g (d, none) := by
  cases level
  · simp
  · cases state : d.state with
    | opening => simp only [Door.openEndReached, state, and_self, if_true]; split <;> rfl
    | _ => simp [Door.openEndReached, state]

/-- OBSTRUCT at a CLOSING door reopens it while reopenings are left and it stands short of its open end, and
holds it otherwise (R147). -/
theorem Door.obstruct_cases (level : Bool) (obstruct : d.obstruct.level = level)
    (apart : d.closed.level = false ∨ d.state ≠ .closing) :
    g (if level = true then d.obstructSeen t else (d, none)) =
      if level = true ∧ d.state = .closing then
        (if d.reopen < t.limit ∧ d.openEnd.level = false then g ({ d with
            state := .opening, reopen := d.reopen + 1, reclose := true
            motionTimer := some t.motion, lockTimer := none }, none)
         else g ({ d with
            state := .held, reopen := max d.reopen t.limit
            reclose := if d.reopen < t.limit then false else d.reclose
            motionTimer := none, lockTimer := none }, some .held))
      else g (d, none) := by
  cases level with
  | false => simp
  | true =>
    cases state : d.state with
    | closing =>
      have closed : d.closed.level = false := apart.resolve_right (not_not.mpr state)
      simp only [Door.obstructSeen, state, and_self, if_true]
      rw [Door.obstructed_eq t closed obstruct, Door.enterClosing_eq t d (by simp [closed]),
        if_neg (by simp [closed]), if_neg (by simp [obstruct])]
      split <;> rfl
    | _ => simp [Door.obstructSeen, state]

/-- CLOSED becoming true ends a CLOSING, and CLOSED lost in LOCKING or LOCKED is a fault (R146, R149). -/
theorem Door.closed_cases (level : Bool) :
    g (d.closedChanged t level) =
      if level = true ∧ d.state = .closing then
        (if d.locked.level = true then g ({ d with
            state := .locked, motionTimer := none, lockTimer := none }, none)
         else g ({ d with
            state := .locking, motionTimer := none, lockTimer := some t.lock }, none))
      else if level = false ∧ (d.state = .locking ∨ d.state = .locked) then
        g ({ d with state := .fault, motionTimer := none, lockTimer := none }, some (.fault .forced))
      else g (d, none) := by
  cases level <;> cases state : d.state
  case true.closing =>
    simp only [Door.closedChanged, Door.enterLocking, state, and_self, if_true]
    split <;> rfl
  all_goals simp [Door.closedChanged, Door.enterFault, state]

/-- LOCKED becoming true ends a LOCKING, and LOCKED lost at a LOCKED door is a fault (R146, R149). -/
theorem Door.locked_cases (level : Bool) :
    g (d.lockedChanged level) =
      if level = true ∧ d.state = .locking then g ({ d with state := .locked, lockTimer := none }, none)
      else if level = false ∧ d.state = .locked then
        g ({ d with state := .fault, motionTimer := none, lockTimer := none }, some (.fault .forced))
      else g (d, none) := by
  cases level <;> cases state : d.state <;> simp [Door.lockedChanged, Door.enterFault, state]

/-- The motion timer expires in OPENING and CLOSING with a fault (R148). -/
theorem Door.motionExpired_cases :
    g (Door.motionExpired { d with motionTimer := none }) =
      if d.state = .opening then
        g ({ d with state := .fault, motionTimer := none, lockTimer := none }, some (.fault .openTime))
      else if d.state = .closing then
        g ({ d with state := .fault, motionTimer := none, lockTimer := none }, some (.fault .closeTime))
      else g ({ d with motionTimer := none }, none) := by
  cases state : d.state <;> simp [Door.motionExpired, Door.enterFault]

/-- The lock timer expires in LOCKING with a fault (R148). -/
theorem Door.lockExpired_cases :
    g (Door.lockExpired { d with lockTimer := none }) =
      if d.state = .locking then
        g ({ d with state := .fault, motionTimer := none, lockTimer := none }, some (.fault .lockTime))
      else g ({ d with lockTimer := none }, none) := by
  cases state : d.state <;> simp [Door.lockExpired, Door.enterFault]

end

/-! ### The events of a door within the part -/

/-- The part after one door has become another and written its note, if it has one (R151, R152). -/
def State.doorMoved (id : DoorId) (s : State) (r : DoorStep) : State :=
  s.commitDoors ({ s.doors.put r.1 id with
    lastEvent := (r.2.map (DoorNote.event id)).getD s.doors.lastEvent }, r.2.isSome)

theorem State.doorEvent_eq (f : DoorTimes → Door → DoorStep) (id : DoorId) (s : State) :
    s.doorEvent f id = s.doorMoved id (f s.doorTimes (s.doors.get id)) := by
  rw [State.doorEvent, Doors.step_eq]; rfl

section
variable {f : DoorTimes → Door → DoorStep} {id : DoorId} {s t : State} (released : s.resetHeld = false)
include released

/-- An accepted change of an input of a door; a level that the input already has does nothing (log entry 9). -/
theorem doorInput_eq {c : Prop} [Decidable c] (h : s.doorMoved id (f s.doorTimes (s.doors.get id)) = t) :
    s.unlessReset s (if c then .next s else .next (s.doorEvent f id)) = .next (if c then s else t) := by
  rw [State.unlessReset_released _ _ released, State.doorEvent_eq, h]
  split <;> rfl

/-- The expiry of a timer of a door; that of a stopped timer does nothing (log entry 23). -/
theorem doorTimer_eq {o : Option Nat} [Decidable (o = none)]
    (h : s.doorMoved id (f s.doorTimes (s.doors.get id)) = t) :
    s.unlessReset s (.next (if o.isSome = true then s.doorEvent f id else s))
      = .next (if o = none then s else t) := by
  rw [State.unlessReset_released _ _ released, State.doorEvent_eq, h]
  cases o <;> simp

end

/-- Settles O49: the tables of the states, read as what the part makes of the door that moved. -/
theorem doorInputsMoveOneDoor : Obligations.DoorInputsMoveOneDoor := by
  refine ⟨State.commitDoors_eq, Door.enterClosing_eq, Door.close_eq, fun id level s released => ?_⟩
  intro d t moved fault button obstruct openEnd closed locked
  refine ⟨doorInput_eq released (Door.pressed_cases moved t button level s.doors.motion),
    fun apart => doorInput_eq released (Door.obstruct_cases moved t obstruct level rfl apart),
    doorInput_eq released (Door.openEnd_cases moved t openEnd level),
    doorInput_eq released (Door.closed_cases moved t closed level),
    doorInput_eq released (Door.locked_cases moved locked level),
    doorTimer_eq released (Door.motionExpired_cases moved d),
    doorTimer_eq released (Door.lockExpired_cases moved d)⟩

end Sys2Proof.Machine
end

section
/-! The four door commands where the port takes them: their sides, what each makes of the doors, and its answer
(R139 to R141, R143, R145, R150, R151, R153). -/

namespace Sys2Proof.Machine

/-! ### The doors of some sides -/

theorem Doors.ext_get {ds es : Doors} (doors : ∀ id, ds.get id = es.get id)
    (left : ds.leftReleased = es.leftReleased) (right : ds.rightReleased = es.rightReleased)
    (motion : ds.motion = es.motion) (event : ds.lastEvent = es.lastEvent) : ds = es := by
  obtain ⟨d0, d1, d2, d3, l, r, m, e⟩ := ds
  have h0 : d0 = es.d0 := doors .d0
  have h1 : d1 = es.d1 := doors .d1
  have h2 : d2 = es.d2 := doors .d2
  have h3 : d3 = es.d3 := doors .d3
  subst h0 h1 h2 h3 left right motion event
  rfl

/-- The door events that those of some doors write that stand on the named sides, when each takes an event, in
the order of the doors (R151). -/
def Doors.notes (sides : List Side) (f : Door → DoorStep) (ds : Doors) (ids : List DoorId) : List DoorEvent :=
  ids.filterMap fun id =>
    if doorSide id ∈ sides then (f (ds.get id)).2.map (DoorNote.event id) else none

/-- The last of the written events stands as the last door event (R151). -/
theorem Doors.foldl_step_event (sides : List Side) (f : Door → DoorStep) (ds : Doors) {ids : List DoorId}
    (apart : ids.Nodup) {acc : Doors × Bool} (same : ∀ id ∈ ids, acc.1.get id = ds.get id) :
    let after := ids.foldl (fun acc id =>
      if doorSide id ∈ sides then
        let (ds, written) := acc.1.step f id
        (ds, acc.2 || written)
      else acc) acc
    after.1.lastEvent = (ds.notes sides f ids).getLast?.getD acc.1.lastEvent
      ∧ after.2 = (acc.2 || !(ds.notes sides f ids).isEmpty) := by
  induction ids generalizing acc with
  | nil => simp [Doors.notes]
  | cons id ids ih =>
    obtain ⟨fresh, apart⟩ := List.nodup_cons.mp apart
    have others : ∀ j ∈ ids, acc.1.get j = ds.get j := fun j mem => same j (List.mem_cons_of_mem _ mem)
    have here : acc.1.get id = ds.get id := same id List.mem_cons_self
    dsimp only [List.foldl_cons]
    by_cases named : doorSide id ∈ sides
    · rw [if_pos named]
      obtain ⟨event, written⟩ := ih apart
          (acc := ((acc.1.step f id).1, acc.2 || (acc.1.step f id).2)) fun j mem => by
        rw [Doors.step_get, if_neg (ne_of_mem_of_not_mem mem fresh).symm]
        exact others j mem
      rw [event, written, Doors.step_eq, here]
      cases note : (f (ds.get id)).2 <;>
        simp [Doors.notes, named, note, List.getLast?_cons]
    · rw [if_neg named]
      have silent : ds.notes sides f (id :: ids) = ds.notes sides f ids := by
        simp [Doors.notes, named]
      rw [silent]
      exact ih apart others

section
variable {left right : Prop} [Decidable left] [Decidable right] {sides : List Side}
  (onLeft : Side.left ∈ sides ↔ left) (onRight : Side.right ∈ sides ↔ right)
include onLeft onRight

/-- The doors of the named sides take an event, and its last note, if there is one, is the last door event
(R151). -/
theorem Doors.stepSides_eq (f : Door → DoorStep) (ds : Doors) :
    ds.stepSides sides f = ({ ds with
      d0 := if left then (f ds.d0).1 else ds.d0, d1 := if left then (f ds.d1).1 else ds.d1
      d2 := if right then (f ds.d2).1 else ds.d2, d3 := if right then (f ds.d3).1 else ds.d3
      lastEvent := (ds.notes sides f allDoors).getLast?.getD ds.lastEvent },
      !(ds.notes sides f allDoors).isEmpty) := by
  obtain ⟨event, written⟩ := Doors.foldl_step_event sides f ds (by decide : allDoors.Nodup)
    (acc := (ds, false)) fun _ _ => rfl
  obtain ⟨leftReleased, rightReleased, motion⟩ := Doors.stepSides_rest sides f ds
  refine Prod.ext (Doors.ext_get (fun id => ?_) leftReleased rightReleased motion event)
    (written.trans (Bool.false_or _))
  rw [Doors.stepSides_get]
  cases id with
  | d0 | d1 => exact if_congr onLeft rfl rfl
  | d2 | d3 => exact if_congr onRight rfl rfl

/-- An operation that writes no event leaves the last one. -/
theorem Doors.stepSides_quietly (f : Door → Door) (ds : Doors) :
    ds.stepSides sides (Door.quietly f) = ({ ds with
      d0 := if left then f ds.d0 else ds.d0, d1 := if left then f ds.d1 else ds.d1
      d2 := if right then f ds.d2 else ds.d2, d3 := if right then f ds.d3 else ds.d3 }, false) := by
  have silent : ds.notes sides (Door.quietly f) allDoors = [] := by simp [Doors.notes, Door.quietly]
  rw [Doors.stepSides_eq onLeft onRight, silent]
  rfl

/-- The release states of the named sides take a value, and the others stand. -/
theorem Doors.setReleased_foldl (value : Bool) (ds : Doors) :
    sides.foldl (Doors.setReleased value) ds = { ds with
      leftReleased := if left then value else ds.leftReleased
      rightReleased := if right then value else ds.rightReleased } := by
  rw [← if_congr onLeft rfl rfl, ← if_congr onRight rfl rfl]
  clear onLeft onRight
  induction sides generalizing ds with
  | nil => simp
  | cons side sides ih =>
    rw [List.foldl_cons, ih]
    cases side <;> simp [Doors.setReleased]

end

/-! ### The sides that a command names (R204) -/

/-- A side code is 1 for LEFT or 2 for RIGHT, and names that side alone. -/
theorem sideOfCode_some {side : Byte} (coded : side.toNat = 1 ∨ side.toNat = 2) :
    ∃ named, sideOfCode side = some named
      ∧ (named = .left ↔ side.toNat = 1 ∨ side.toNat = 3)
      ∧ (named = .right ↔ side.toNat = 2 ∨ side.toNat = 3) := by
  obtain code | code := coded
  · exact ⟨.left, by simp [sideOfCode, code], by simp [code], by simp [code]⟩
  · exact ⟨.right, by simp [sideOfCode, code], by simp [code], by simp [code]⟩

theorem sideOfCode_none {side : Byte} (bad : ¬(side.toNat = 1 ∨ side.toNat = 2)) :
    sideOfCode side = none := by
  unfold sideOfCode
  split <;> simp_all

/-- The code of a DOOR_CLOSE may also name both sides. -/
theorem closeSidesOfCode_some {side : Byte}
    (coded : (side.toNat = 1 ∨ side.toNat = 3) ∨ side.toNat = 2 ∨ side.toNat = 3) :
    ∃ sides, closeSidesOfCode side = some sides ∧ (Side.left ∈ sides ↔ side.toNat = 1 ∨ side.toNat = 3)
      ∧ (Side.right ∈ sides ↔ side.toNat = 2 ∨ side.toNat = 3) := by
  obtain (code | code) | code | code := coded
  · exact ⟨[.left], by simp [closeSidesOfCode, code], by simp [code], by simp [code]⟩
  · exact ⟨[.left, .right], by simp [closeSidesOfCode, code], by simp [code], by simp [code]⟩
  · exact ⟨[.right], by simp [closeSidesOfCode, code], by simp [code], by simp [code]⟩
  · exact ⟨[.left, .right], by simp [closeSidesOfCode, code], by simp [code], by simp [code]⟩

theorem closeSidesOfCode_none {side : Byte} (bad : side.toNat = 0 ∨ 3 < side.toNat) :
    closeSidesOfCode side = none := by
  unfold closeSidesOfCode
  split
  · omega
  · omega
  · omega
  · rfl

theorem doorOfCode_none {door : Byte} (bad : 3 < door.toNat) : doorOfCode door = none := by
  unfold doorOfCode
  split
  · omega
  · omega
  · omega
  · omega
  · rfl

theorem doorOfCode_some {door : Byte} {id : DoorId} (code : doorCode id = door.toNat) :
    doorOfCode door = some id := by
  unfold doorOfCode
  rw [← code]
  cases id <;> rfl

theorem Side.mem_singleton_iff {side named : Side} {p : Prop} (h : named = side ↔ p) :
    side ∈ [named] ↔ p :=
  List.mem_singleton.trans (eq_comm.trans h)

/-- A side that is not LEFT is RIGHT. -/
theorem Side.eq_ite {named : Side} {left : Prop} [Decidable left] (onLeft : named = .left ↔ left) :
    named = if left then .left else .right := by
  rw [← if_congr onLeft rfl rfl]
  cases named <;> rfl

/-! ### DOOR_RELEASE (R140, R141) -/

/-- A DOORS record is for a side when it names that side or both. -/
theorem Sides.includes_eq (sides : Sides) (side : Side) :
    sides.includes side = (sides == .both || sides == if side = .left then .left else .right) := by
  cases sides <;> cases side <;> rfl

/-- A record covers the car for a side when it is a DOORS record for the side, not suspended, over the whole car
on a known place of a VALID profile (R61, R140). -/
theorem State.covers_eq (s : State) (side : Side) (r : Record) : s.covers side r =
    ((r.imposes == .doors .both || r.imposes == .doors (if side = .left then .left else .right))
      && s.odo.positionValid && decide (s.profile.state = .valid)
      && !(decide (r.origin ≠ .vehicle) && decide (s.radio.link = .lost))
      && decide (r.first ≤ s.odo.position) && decide (s.odo.position + s.param 3 ≤ r.last)) := by
  unfold State.covers State.suspended State.carLength
  cases imposes : r.imposes with
  | speed | stop => rfl
  | doors sides =>
    have named (x : Sides) : (Imposes.doors sides == .doors x) = (sides == x) := by
      cases sides <;> cases x <;> rfl
    simp only [named, ← Sides.includes_eq, Imposes.kind]
    cases sides.includes side <;> simp [bne, ← Bool.beq_eq_decide_eq]

/-- It is the live records that cover (R140). -/
theorem State.covered_eq (s : State) (side : Side) :
    s.covered side = s.table.records.any (s.covers side) := by
  rw [State.covered, ← Table.live_map_snd, List.any_map]
  rfl

/-- An accepted DOOR_RELEASE: the side is RELEASED, its LOCKED doors are UNLOCKED, and an override is the last
door event (R141, R151). -/
theorem State.grant_eq {left right : Prop} [Decidable left] [Decidable right] {named : Side}
    (onLeft : named = .left ↔ left) (onRight : named = .right ↔ right) (override : Bool) (s : State) :
    s.grant named override = s.commitDoors ({ s.doors with
      d0 := if left then s.doors.d0.unlock else s.doors.d0
      d1 := if left then s.doors.d1.unlock else s.doors.d1
      d2 := if right then s.doors.d2.unlock else s.doors.d2
      d3 := if right then s.doors.d3.unlock else s.doors.d3
      leftReleased := s.doors.leftReleased || decide left
      rightReleased := s.doors.rightReleased || decide right
      lastEvent := if override = true then .override named else s.doors.lastEvent }, override) := by
  have onLeft : Side.left ∈ [named] ↔ left := Side.mem_singleton_iff onLeft
  have onRight : Side.right ∈ [named] ↔ right := Side.mem_singleton_iff onRight
  have released (ds : Doors) : Doors.setReleased true ds named = { ds with
      leftReleased := ds.leftReleased || decide left
      rightReleased := ds.rightReleased || decide right } := by
    refine (Doors.setReleased_foldl onLeft onRight true ds).trans ?_
    congr 1 <;> split <;> simp [*]
  unfold State.grant
  dsimp only
  rw [Doors.stepSides_quietly onLeft onRight, released]
  cases override <;> rfl

/-- The answer to a door command, with the doors as they then are (R153). -/
def State.doorReply (i : Instr) (status : Status) (s : State) : State := s.answers i status s.doors.answer

theorem exec_doorRelease_bad {side override : Byte} {s : State} (h : s.Takes (.doorRelease side override))
    (bad : ¬((side.toNat = 1 ∨ side.toNat = 2) ∧ override.toNat ≤ 1)) :
    exec (.doorRelease side override) s = .next (s.doorReply (.doorRelease side override) .badValue) := by
  refine (hostRequest_taken _ h).trans ?_
  by_cases coded : side.toNat = 1 ∨ side.toNat = 2
  · obtain ⟨named, code, -⟩ := sideOfCode_some coded
    rw [code, yesNoOfCode_eq, if_pos (by omega)]
    rfl
  · rw [sideOfCode_none coded]
    rfl

/-- A DOOR_RELEASE with good codes makes its checks in order, and is granted when it passes them all (R140). -/
theorem exec_doorRelease_coded {side override : Byte} {s : State} (h : s.Takes (.doorRelease side override))
    {named : Side} (code : sideOfCode side = some named) (allowed : override.toNat ≤ 1) :
    exec (.doorRelease side override) s = .next (State.doorReply (.doorRelease side override)
      (if s.doors.motion = true then .moving
        else if s.brake.band = true ∨ s.brake.bandSense.level = false then .brakeNotHeld
        else if override.toNat = 1 ∨ s.covered named = true then .ok else .noRelease)
      (if s.doors.motion = false ∧ s.brake.band = false ∧ s.brake.bandSense.level = true
          ∧ (override.toNat = 1 ∨ s.covered named = true) then
        s.grant named (decide (override.toNat = 1)) else s)) := by
  refine (hostRequest_taken _ h).trans ?_
  rw [code, yesNoOfCode_eq, if_neg (Nat.not_lt.mpr allowed)]
  have held : s.brake.bandState ≠ .applied ↔ s.brake.band = true ∨ s.brake.bandSense.level = false := by
    unfold Brake.bandState
    cases s.brake.band <;> cases s.brake.bandSense.level <;> decide
  simp only [held, Bool.or_eq_true, decide_eq_true_eq]
  cases s.doors.motion with
  | true => rfl
  | false =>
    cases s.brake.band with
    | true => rfl
    | false =>
      cases s.brake.bandSense.level with
      | false => rfl
      | true =>
        by_cases granted : override.toNat = 1 ∨ s.covered named = true
        · simp only [granted]; rfl
        · simp only [granted]; rfl

/-! ### DOOR_OPEN (R143) -/

/-- An opening moves an UNLOCKED door, at once to OPEN where it stands at its open end (R143). -/
theorem Door.startOpening_eq (t : DoorTimes) (d : Door) : d.startOpening t =
    if d.state ≠ .unlocked then d
    else if d.openEnd.level = true then
      { d with state := .opened, reclose := false, motionTimer := none, lockTimer := none }
    else { d with
      state := .opening, reclose := false, motionTimer := some t.motion, lockTimer := none } := by
  rw [ite_not]; rfl

theorem Door.startOpening_locked (t : DoorTimes) (d : Door) :
    ((d.startOpening t).state == .locked) = (d.state == .locked) := by
  rw [Door.startOpening_eq]
  split
  · rfl
  · next unlocked => rw [not_not.mp unlocked]; split <;> rfl

/-- An opening makes no door LOCKED and none not, so that nothing is handed on (R152). -/
theorem State.openDoors_eq {left right : Prop} [Decidable left] [Decidable right] {named : Side}
    (onLeft : named = .left ↔ left) (onRight : named = .right ↔ right) (s : State) :
    s.commitDoors (s.doors.stepSides [named] (Door.quietly (Door.startOpening s.doorTimes)))
      = { s with doors := { s.doors with
        d0 := if left then s.doors.d0.startOpening s.doorTimes else s.doors.d0
        d1 := if left then s.doors.d1.startOpening s.doorTimes else s.doors.d1
        d2 := if right then s.doors.d2.startOpening s.doorTimes else s.doors.d2
        d3 := if right then s.doors.d3.startOpening s.doorTimes else s.doors.d3 } } := by
  have onLeft : Side.left ∈ [named] ↔ left := Side.mem_singleton_iff onLeft
  have onRight : Side.right ∈ [named] ↔ right := Side.mem_singleton_iff onRight
  have locked (c : Prop) [Decidable c] (d : Door) :
      ((if c then d.startOpening s.doorTimes else d).state == .locked) = (d.state == .locked) := by
    split
    · exact Door.startOpening_locked _ d
    · rfl
  rw [Doors.stepSides_quietly onLeft onRight, State.commitDoors_eq]
  exact if_pos (by simp only [Doors.secure, locked])

theorem Doors.released_eq (ds : Doors) (side : Side) :
    ds.released side = if side = .left then ds.leftReleased else ds.rightReleased := by
  cases side <;> rfl

/-- The checks of a DOOR_OPEN, in order (R143). -/
theorem exec_doorOpen_coded {side : Byte} {s : State} (h : s.Takes (.doorOpen side)) {named : Side}
    (code : sideOfCode side = some named) : exec (.doorOpen side) s = .next (
      if s.doors.motion = true then s.doorReply (.doorOpen side) .moving
      else if s.doors.released named = false then s.doorReply (.doorOpen side) .noRelease
      else (s.commitDoors (s.doors.stepSides [named] (Door.quietly (Door.startOpening s.doorTimes)))).doorReply
        (.doorOpen side) .ok) := by
  refine (hostRequest_taken _ h).trans ?_
  rw [code]
  simp only [← Bool.not_eq_true, ite_not, apply_ite Host.Outcome.next]
  rfl

/-! ### DOOR_CLOSE and DOOR_RESET (R145, R150) -/

/-- A closing makes its sides NOT_RELEASED and closes their doors (R145). -/
theorem Doors.closeSides_eq {left right : Prop} [Decidable left] [Decidable right] {sides : List Side}
    (onLeft : Side.left ∈ sides ↔ left) (onRight : Side.right ∈ sides ↔ right) (t : DoorTimes) (ds : Doors) :
    ds.closeSides t sides = ({ ds with
      d0 := if left then (ds.d0.close t).1 else ds.d0, d1 := if left then (ds.d1.close t).1 else ds.d1
      d2 := if right then (ds.d2.close t).1 else ds.d2, d3 := if right then (ds.d3.close t).1 else ds.d3
      leftReleased := ds.leftReleased && !decide left
      rightReleased := ds.rightReleased && !decide right
      lastEvent := (ds.notes sides (Door.close t) allDoors).getLast?.getD ds.lastEvent },
      !(ds.notes sides (Door.close t) allDoors).isEmpty) := by
  have released : sides.foldl (Doors.setReleased false) ds = { ds with
      leftReleased := ds.leftReleased && !decide left
      rightReleased := ds.rightReleased && !decide right } := by
    refine (Doors.setReleased_foldl onLeft onRight false ds).trans ?_
    congr 1 <;> split <;> simp [*]
  rw [Doors.closeSides, Doors.stepSides_eq onLeft onRight, released]
  rfl

/-- A door that takes an event without a note. -/
theorem State.doorEvent_quietly (f : DoorTimes → Door → Door) (id : DoorId) (s : State) :
    s.doorEvent (fun t => Door.quietly (f t)) id
      = s.commitDoors (s.doors.put (f s.doorTimes (s.doors.get id)) id, false) := rfl

/-- Settles O48: each command by its checks, and then by what it makes of the doors of its sides. -/
theorem doorCommandsActOnTheirSides : Obligations.DoorCommandsActOnTheirSides := by
  intro side override s ds shown reply left right onSides covered unlocked granted opening
  refine ⟨fun h => ?_, fun h => ?_, fun h bad => ?_, fun h coded => ?_, fun h bad => ?_,
    fun id h code => ?_⟩
  · by_cases coded : (side.toNat = 1 ∨ side.toNat = 2) ∧ override.toNat ≤ 1
    · obtain ⟨named, code, onLeft, onRight⟩ := sideOfCode_some coded.1
      have covers : s.covered named = covered := by
        rw [State.covered_eq]
        refine congrArg s.table.records.any (funext fun q => (State.covers_eq s named q).trans ?_)
        simp only [onLeft]
        rfl
      have grant : s.grant named (decide (override.toNat = 1))
          = s.commitDoors (granted, decide (override.toNat = 1)) := by
        rw [State.grant_eq onLeft onRight, Side.eq_ite onLeft]
        simp only [decide_eq_true_eq]
        rfl
      rw [exec_doorRelease_coded h code coded.2, covers, grant]
      have fine : ¬(¬(side.toNat = 1 ∨ side.toNat = 2) ∨ 1 < override.toNat) := by omega
      rw [if_neg fine]
      simp only [coded, true_and]
      rfl
    · refine (exec_doorRelease_bad h coded).trans ?_
      rw [if_pos (by omega), if_neg fun all => coded ⟨all.1, all.2.1⟩]
      rfl
  · by_cases coded : side.toNat = 1 ∨ side.toNat = 2
    · obtain ⟨named, code, onLeft, onRight⟩ := sideOfCode_some coded
      rw [exec_doorOpen_coded h code, State.openDoors_eq onLeft onRight, Doors.released_eq,
        if_neg (not_not.mpr coded)]
      simp only [onLeft, Door.startOpening_eq]
      rfl
    · refine (hostRequest_taken _ h).trans ?_
      rw [sideOfCode_none coded, if_pos coded]
      rfl
  · refine (hostRequest_taken _ h).trans ?_
    rw [closeSidesOfCode_none bad]
    rfl
  · intro named notes
    obtain ⟨sides, code, onLeft, onRight⟩ := closeSidesOfCode_some coded
    have written : s.doors.notes sides (Door.close s.doorTimes) allDoors = notes := by
      refine List.filterMap_congr fun id _ => ?_
      cases id with
      | d0 | d1 => exact if_congr onLeft rfl rfl
      | d2 | d3 => exact if_congr onRight rfl rfl
    refine (hostRequest_taken _ h).trans ?_
    rw [code]
    dsimp only
    rw [Doors.closeSides_eq onLeft onRight, written]
    rfl
  · refine (hostRequest_taken _ h).trans ?_
    rw [doorOfCode_none bad]
    rfl
  · intro d reset
    refine (hostRequest_taken _ h).trans ?_
    rw [doorOfCode_some code]
    dsimp only
    rw [State.doorEvent_quietly]
    exact (apply_ite Host.Outcome.next _ _ _).symm

end Sys2Proof.Machine
end

section
/-! Every step keeps the radio good: with RESET released each command does, and a reset leaves the power-on
radio (R175, R192, R202). -/

namespace Sys2Proof.Machine

/-- While RESET is asserted, and at a reset, the radio takes its power-on values, or stands but for the level
of CARRIER (R202; log entry 32). -/
theorem exec_reset_radio {i : Instr} {s t : State} (reset : s.resetHeld = true ∨ s.Resets i)
    (he : exec i s = .next t) :
    s.radio.Sends t.radio ∨ ∃ (interval : Nat) (carrier : Bool), t.radio = .afterReset interval carrier := by
  cases held : s.resetHeld with
  | true =>
    cases i with
    | powerOnReset => cases he; exact .inr ⟨_, _, rfl⟩
    | rawInputChange => cases (State.unlessReset_held _ _ held).symm.trans he; exact .inr ⟨_, _, rfl⟩
    | receivedByte source =>
      cases source <;> cases (State.unlessReset_held _ _ held).symm.trans he <;> exact .inl (.refl _)
    | carrierChange => cases (State.unlessReset_held _ _ held).symm.trans he; exact .inl {}
    | _ => cases (State.unlessReset_held _ _ held).symm.trans he; exact .inl (.refl _)
  | false =>
    obtain rfl | ⟨input, level, now, rfl, asserted⟩ := reset.resolve_left (by simp [held])
    · cases he; exact .inr ⟨_, _, rfl⟩
    · obtain ⟨rfl, rfl⟩ := asserted.resolve_left (by simp [held])
      cases (State.unlessReset_released _ _ held).symm.trans he
      exact .inr ⟨_, _, rfl⟩

/-- Settles O9: every operation of the radio, from the assembler to the mode change, keeps it good, and the
power-on radio is good. -/
theorem radioStaysGood : Obligations.RadioStaysGood := by
  intro s t hs good
  unfold step at hs
  split at hs
  · cases hs; exact good
  · next c rest _ =>
    by_cases reset : (s.withPending rest).resetHeld = true ∨ (s.withPending rest).Resets c
    · obtain sends | ⟨interval, carrier, powered⟩ := exec_reset_radio reset hs
      · exact Radio.Good.serves good sends.serves
      · rw [powered]; exact Radio.afterReset_good interval carrier
    · obtain ⟨released, stays⟩ := not_or.mp reset
      exact ((completes_exec (Bool.eq_false_iff.mpr released) stays).follows hs).radio good

/-- Settles O19: the four header bytes, the body and the check value are read where the transmitter put
them. -/
theorem framePassesItsOwnChecks : Obligations.FramePassesItsOwnChecks := by
  intro d src kind body fits content head
  exact ⟨congrArg (head ++ ·) (bytes16_eq _), length_frameContent d src kind body, checkContent_frameContent d src kind fits,
    frameOf_frameContent d src kind body⟩

end Sys2Proof.Machine
end

section
/-! The requests of the host at the transmit queue and the mailbox: RADIO_SEND, the aborts, and the mailbox
(R173, R183, R185, R188 to R191, R195, R205). -/

namespace Sys2Proof.Machine

/-! ### Entries that leave the queue (R190) -/

/-- The first element that meets a test, by its place. -/
theorem find?_eraseP_of_first {α : Type} {p : α → Bool} {l : List α} {k : Nat} {a : α}
    (place : l[k]? = some a) (meets : p a = true)
    (first : ∀ j b, l[j]? = some b → j < k → p b = false) :
    l.find? p = some a ∧ l.eraseP p = l.eraseIdx k := by
  obtain ⟨inside, rfl⟩ := List.getElem?_eq_some_iff.mp place
  have earlier : ∀ j, ∀ before : j < k, p (l[j]'(before.trans inside)) = false := fun j before =>
    first j _ (List.getElem?_eq_getElem _) before
  have index : l.findIdx? p = some k :=
    List.findIdx?_eq_some_iff_getElem.mpr ⟨inside, meets, fun j before => by simp [earlier j before]⟩
  refine ⟨List.find?_eq_some_iff_getElem.mpr ⟨meets, k, inside, rfl, fun j before => ?_⟩, ?_⟩
  · simp [earlier j before]
  · rw [List.eraseP_eq_eraseIdx, index]

theorem State.removeFirst_eq {s : State} {test : QueueEntry → Bool} {k : Nat} {e : QueueEntry}
    (result : TxResult) (place : s.radio.queue[k]? = some e) (meets : test e = true)
    (first : ∀ j q, s.radio.queue[j]? = some q → j < k → test q = false) :
    s.removeFirst test result
      = (s.onRadio fun r => { r with queue := r.queue.eraseIdx k }).reportLeaving result e := by
  obtain ⟨found, left⟩ := find?_eraseP_of_first place meets first
  rw [State.removeFirst, found]
  simp only [State.onRadio, left]

theorem setBit_setBit (flags : BitVec 15) (f : Flag) : setBit (setBit flags f) f = setBit flags f := by
  simp [setBit, BitVec.or_assoc]

/-- The TX_DONE reports of some host entries, one after the other (R190). -/
def State.reportHosts (result : TxResult) (hosts : List QueueEntry) (s : State) : State := { s with
  port := { s.port with flags := if hosts = [] then s.port.flags else setBit s.port.flags .txDone }
  radio := { s.radio with
    lastTx := (hosts.getLast?.map fun e => (⟨e.handle, result⟩ : LastTx)).or s.radio.lastTx
    txSeq := (s.radio.txSeq + hosts.length) % 256 } }

/-- Of the entries that leave, those of the host report (R190). -/
theorem foldl_reportLeaving_eq (result : TxResult) (es : List QueueEntry) {s : State}
    (sequence : s.radio.txSeq < 256) : es.foldl (State.reportLeaving result) s
      = s.reportHosts result (es.filter fun e => decide (e.origin = .vehicle)) := by
  induction es using List.reverseRecOn with
  | nil =>
    have same : s.radio.txSeq % 256 = s.radio.txSeq := Nat.mod_eq_of_lt sequence
    simp [State.reportHosts, same]
  | append_singleton es e ih =>
    rw [List.foldl_append, List.foldl_cons, List.foldl_nil, ih, List.filter_append]
    cases origin : e.origin with
    | part => simp [State.reportLeaving, origin]
    | vehicle =>
      by_cases none_ : es.filter (fun e => decide (e.origin = .vehicle)) = [] <;>
        simp [State.reportLeaving, State.reportHosts, State.onRadio, State.setFlag, Radio.reportTx, origin,
          none_, setBit_setBit, Nat.add_assoc]

theorem State.removeEntries_eq (test : QueueEntry → Bool) (result : TxResult) {s : State}
    (sequence : s.radio.txSeq < 256) : s.removeEntries test result
      = (s.onRadio fun r => { r with queue := r.queue.filter fun e => !test e }).reportHosts result
          ((s.radio.queue.filter test).filter fun e => decide (e.origin = .vehicle)) :=
  foldl_reportLeaving_eq result _ sequence

/-! ### RADIO_SEND (R188) -/

theorem destinationAllowed_iff (d : Byte) :
    destinationAllowed d = true ↔ d.toNat ≤ 15 ∨ (32 ≤ d.toNat ∧ d.toNat ≤ 95) := by
  simp [destinationAllowed]

/-- The checks of RADIO_SEND in order (R188, R195). -/
theorem State.sendRefusal_eq (destination : Byte) (body : List Byte) (s : State) :
    s.sendRefusal destination body =
      if 58 < body.length then some .frameError
      else if 56 < body.length then some .badValue
      else if s.radio.current ≠ .normal ∧ s.radio.current ≠ .selftest then some .wrongMode
      else if ¬(destination.toNat ≤ 15 ∨ (32 ≤ destination.toNat ∧ destination.toNat ≤ 95)) then
        some .badValue
      else if 6 ≤ s.radio.queue.length then some .queueFull
      else none := by
  have long : 60 < body.length + 2 ↔ 58 < body.length := by omega
  have mode : (!s.radio.current.places) = true
      ↔ s.radio.current ≠ .normal ∧ s.radio.current ≠ .selftest := by
    rw [Bool.not_eq_true', ← Bool.not_eq_true, LinkMode.places_iff, not_or]
  have refused : (!destinationAllowed destination) = true
      ↔ ¬(destination.toNat ≤ 15 ∨ (32 ≤ destination.toNat ∧ destination.toNat ≤ 95)) := by
    rw [Bool.not_eq_true', ← Bool.not_eq_true, destinationAllowed_iff]
  have full : (!s.radio.hasRoom) = true ↔ 6 ≤ s.radio.queue.length := by
    rw [Bool.not_eq_true', ← Bool.not_eq_true, Radio.hasRoom_iff, Nat.not_lt]
  simp only [← long, ← mode, ← refused, ← full]
  rfl

/-- RADIO_SEND as it ends: with its refusal, or with the frame placed and the start judged (R173, R188). -/
def State.sent (destination priority : Byte) (body : List Byte) (s : State) : Option Status → State
  | some refusal => s.answers (.radioSend destination priority body) refusal []
  | none => (s.onRadio fun r => r.place kindText (min priority.toNat 2) .vehicle destination body
      false).judgeStart.answers (.radioSend destination priority body)
        (if 2 < priority.toNat then .okClamped else .ok) (u8 s.radio.nextHandle)

theorem exec_radioSend {destination priority : Byte} {body : List Byte} {s : State}
    (h : s.Takes (.radioSend destination priority body)) :
    exec (.radioSend destination priority body) s
      = .next (s.sent destination priority body (s.sendRefusal destination body)) := by
  refine (hostRequest_taken _ h).trans ?_
  cases s.sendRefusal destination body <;> rfl

/-! ### The aborts (R189) -/

theorem QueueEntry.abortable_eq (e : QueueEntry) :
    e.abortable = (!e.started && decide (e.origin = .vehicle)) := by
  unfold QueueEntry.abortable
  cases e.origin <;> rfl

theorem exec_radioAbort_unknown {handle : Byte} {s : State} (h : s.Takes (.radioAbort handle))
    (unknown : ∀ e ∈ s.radio.queue, e.handle ≠ handle.toNat) :
    exec (.radioAbort handle) s = .next (s.answers (.radioAbort handle) .notFound []) := by
  have missing : s.radio.queue.find? (fun e => e.handle == handle.toNat) = none :=
    List.find?_eq_none.mpr fun e he => by simpa using unknown e he
  refine (hostRequest_taken _ h).trans ?_
  simp only [missing]
  rfl

/-- The earliest entry with the handle is the one that is meant (R189; log entry 21). -/
theorem exec_radioAbort_named {handle : Byte} {s : State} (h : s.Takes (.radioAbort handle)) {k : Nat}
    {e : QueueEntry} (place : s.radio.queue[k]? = some e) (named : e.handle = handle.toNat)
    (first : ∀ j q, s.radio.queue[j]? = some q → j < k → q.handle ≠ handle.toNat) :
    exec (.radioAbort handle) s = .next (
      if e.abortable = true then
        ((s.onRadio fun r => { r with queue := r.queue.eraseIdx k }).reportLeaving .aborted
          e).placeWaiting.judgeStart.answers (.radioAbort handle) .ok []
      else s.answers (.radioAbort handle) .wrongState []) := by
  have meets : (fun e : QueueEntry => e.handle == handle.toNat) e = true := by simpa using named
  have earlier : ∀ j q, s.radio.queue[j]? = some q → j < k →
      (fun e : QueueEntry => e.handle == handle.toNat) q = false :=
    fun j q at_j before => by simpa using first j q at_j before
  refine (hostRequest_taken _ h).trans ?_
  simp only [(find?_eraseP_of_first place meets earlier).1, State.removeFirst_eq _ place meets earlier]
  split <;> rfl

theorem exec_radioAbortAll {s : State} (h : s.Takes .radioAbortAll) :
    exec .radioAbortAll s = .next (
      (s.removeEntries QueueEntry.abortable .aborted).placeWaiting.judgeStart.answers .radioAbortAll .ok
        (u8 (s.radio.queue.filter QueueEntry.abortable).length)) :=
  hostRequest_taken _ h

/-! ### The mailbox (R191) -/

theorem exec_mailboxRead {s : State} (h : s.Takes .mailboxRead) :
    exec .mailboxRead s = .next (match s.radio.mailbox with
      | [] => s.answers .mailboxRead .empty []
      | m :: rest => s.answers .mailboxRead .ok (u8 (rest.length + 1) ++ m.item)) := by
  refine (hostRequest_taken _ h).trans ?_
  cases s.radio.mailbox <;> rfl

theorem exec_mailboxRelease {s : State} (h : s.Takes .mailboxRelease) :
    exec .mailboxRelease s = .next (match s.radio.mailbox with
      | [] => s.answers .mailboxRelease .empty []
      | _ :: rest => (s.onRadio fun r => { r with mailbox := rest }).answers .mailboxRelease .ok
          (u8 rest.length)) := by
  refine (hostRequest_taken _ h).trans ?_
  cases s.radio.mailbox <;> rfl

/-- Settles O55: each request where the port takes it, with what it makes of the queue and the mailbox. -/
theorem hostFramesAndMailboxAnswer : Obligations.HostFramesAndMailboxAnswer := by
  intro destination priority handle body s r begin send d vehicle leaving
  have abortable : QueueEntry.abortable = vehicle := funext QueueEntry.abortable_eq
  refine ⟨fun h => ?_, exec_radioAbort_unknown, fun k e h place named first => ?_, fun h sequence => ?_,
    fun h => ?_, exec_mailboxRelease⟩
  · rw [exec_radioSend h, State.sendRefusal_eq]
    simp only [apply_ite (s.sent destination priority body)]
    simp only [State.sent, State.judgeStart_eq_ite]
    rfl
  · rw [exec_radioAbort_named h place named first, abortable, State.judgeStart_eq_ite]
    by_cases aborts : vehicle e = true
    · have host : e.origin = .vehicle := of_decide_eq_true (Bool.and_eq_true_iff.mp aborts).2
      rw [if_pos aborts, if_pos aborts, State.reportLeaving, host]
      rfl
    · rw [if_neg aborts, if_neg aborts]
  · have hosts : leaving.filter (fun e => decide (e.origin = .vehicle)) = leaving := by
      rw [List.filter_eq_self]
      intro e he
      exact (Bool.and_eq_true_iff.mp (List.mem_filter.mp he).2).2
    rw [exec_radioAbortAll h, State.removeEntries_eq _ _ sequence, State.judgeStart_eq_ite, abortable, hosts]
    unfold State.reportHosts
    generalize leaving.getLast? = last
    cases last <;> rfl
  · exact exec_mailboxRead h

end Sys2Proof.Machine
end

section
/-! What the processor and an evaluation leave of the radio and of the flags: the assembler with its timer,
the modes, the link and the marks. `State.Beside` says so of two states, together with the entries that
wait for the transmitter (R101, R173, R176 to R186, R198). -/

namespace Sys2Proof.Machine

/-! ### The relation -/

/-- The transmitter has a frame in flight, or one to start. -/
def Radio.Loaded (r : Radio) : Prop := r.tx.isSome = true ∨ ∃ e ∈ r.queue, e.started = false

/-- The sending side, the processor with the buffers, and the mailbox may differ, and nothing else; and the
transmitter is not left without a frame that it had. -/
structure Radio.Beside (r q : Radio) : Prop where
  rest : q = { r with
    tx := q.tx, key := q.key, busy := q.busy, waiting := q.waiting, buf0 := q.buf0, buf1 := q.buf1
    queue := q.queue, nextHandle := q.nextHandle, pendingAlarm := q.pendingAlarm, mailbox := q.mailbox
    lastTx := q.lastTx, txSeq := q.txSeq } := by rfl
  loaded : r.Loaded → q.Loaded := by exact id

/-- A flag that neither an evaluation nor the work on a frame sets. -/
abbrev Flag.OfTheLine (f : Flag) : Prop :=
  f.Apart ∧ f ≠ .mailbox ∧ f ≠ .tableChanged ∧ f ≠ .restrictionLost

/-- The radio differs as `Radio.Beside` says, and the flags of the line stand as they were. -/
structure State.Beside (s t : State) : Prop where
  radio : s.radio.Beside t.radio := by exact {}
  flags : ∀ f : Flag, f.OfTheLine → hasFlag t.port.flags f = hasFlag s.port.flags f := by
    exact fun _ _ => rfl

theorem Radio.Beside.trans {r q p : Radio} (h : r.Beside q) (k : q.Beside p) : r.Beside p where
  rest := by
    have after := k.rest
    rw [h.rest] at after
    exact after
  loaded waits := k.loaded (h.loaded waits)

theorem State.Beside.refl (s : State) : s.Beside s := {}

theorem State.Beside.trans {s t u : State} (h : s.Beside t) (k : t.Beside u) : s.Beside u where
  radio := h.radio.trans k.radio
  flags f apart := (k.flags f apart).trans (h.flags f apart)

section
variable {r q : Radio} (h : r.Beside q)
include h

theorem Radio.Beside.assembler : q.assembler = r.assembler := by rw [h.rest]
theorem Radio.Beside.silence : q.silence = r.silence := by rw [h.rest]
theorem Radio.Beside.requested : q.requested = r.requested := by rw [h.rest]
theorem Radio.Beside.current : q.current = r.current := by rw [h.rest]
theorem Radio.Beside.markLatch : q.markLatch = r.markLatch := by rw [h.rest]
theorem Radio.Beside.link : q.link = r.link := by rw [h.rest]
theorem Radio.Beside.linkTimer : q.linkTimer = r.linkTimer := by rw [h.rest]
theorem Radio.Beside.linkLost : q.linkLost = r.linkLost := by rw [h.rest]
theorem Radio.Beside.carrier : q.carrier = r.carrier := by rw [h.rest]

end

/-! ### The transmitter and the queue -/

/-- A placed entry is one to start. -/
theorem Radio.loaded_place (kind : Byte) (priority : Nat) (origin : QueueOrigin) (destination : Byte)
    (body : List Byte) (spontaneous : Bool) (r : Radio) :
    (r.place kind priority origin destination body spontaneous).Loaded :=
  .inr ⟨_, List.mem_append_right _ (List.mem_singleton.mpr rfl), rfl⟩

theorem Radio.beside_place (kind : Byte) (priority : Nat) (origin : QueueOrigin) (destination : Byte)
    (body : List Byte) (spontaneous : Bool) (r : Radio) :
    r.Beside (r.place kind priority origin destination body spontaneous) :=
  { loaded := fun _ => r.loaded_place kind priority origin destination body spontaneous }

theorem Radio.beside_startSelected (parity : Nat) (address : Byte) (r : Radio) :
    r.Beside (r.startSelected parity address) := by
  unfold Radio.startSelected
  split
  · exact { loaded := fun _ => .inl rfl }
  · exact {}

theorem Radio.beside_startIfQuiet (parity : Nat) (address : Byte) (r : Radio) :
    r.Beside (r.startIfQuiet parity address) := by
  unfold Radio.startIfQuiet
  split
  · exact {}
  · exact r.beside_startSelected parity address

/-- A displaced entry gives way to the ALARM, which is one to start (R186). -/
theorem Radio.beside_alarmed (parity : Nat) (address : Byte) (body : List Byte) (r : Radio) :
    r.Beside (r.alarmed parity address body) := by
  have displaced : r.Beside (r.displace.placeAlarm body) := by
    refine { rest := ?_, loaded := fun _ => r.displace.loaded_place _ _ _ _ _ _ }
    unfold Radio.displace
    split
    · dsimp only
      split <;> rfl
    · rfl
  unfold Radio.alarmed
  split
  · exact {}
  · split
    · exact (r.beside_place _ _ _ _ _ _).trans (Radio.beside_startIfQuiet _ _ _)
    · split
      · exact displaced.trans (Radio.beside_startIfQuiet _ _ _)
      · exact {}

/-! ### The operations of the part -/

theorem State.beside_startFrame (s : State) : s.Beside s.startFrame := by
  rw [State.startFrame_eq]
  exact { radio := Radio.beside_startSelected _ _ _ }

theorem State.beside_judgeStart (s : State) : s.Beside s.judgeStart := by
  rw [State.judgeStart_eq]
  exact { radio := Radio.beside_startIfQuiet _ _ _ }

theorem State.beside_evaluate (s : State) : s.Beside s.evaluate where
  radio := by
    rw [State.evaluate_eq]
    dsimp only
    split
    · exact Radio.beside_alarmed _ _ _ _
    · exact {}
  flags f apart := s.evaluate_hasFlag apart.1

theorem State.beside_evaluateIf (c : Bool) (s : State) : s.Beside (s.evaluateIf c) := by
  cases c
  · exact .refl s
  · exact s.beside_evaluate

/-- A flag that the work on a frame sets is none of the line. -/
theorem State.beside_setFlag {g : Flag} (other : ¬g.OfTheLine) (s : State) : s.Beside (s.setFlag g) where
  flags f apart := by
    have differs : f ≠ g := fun same => other (same ▸ apart)
    simp [hasFlag_setBit, differs]

theorem State.beside_setFlagIf {g : Flag} (other : ¬g.OfTheLine) (c : Bool) (s : State) :
    s.Beside (s.setFlagIf c g) := by
  cases c
  · exact .refl s
  · exact s.beside_setFlag other

/-! ### The work on a frame (R176 to R181) -/

theorem State.beside_issueRecord (source : IssueSource) (o : Origin) (b : IssueBody) (s : State) :
    s.Beside (s.issueRecord source o b).1 := by
  unfold State.issueRecord
  split
  · exact .refl s
  · refine State.Beside.trans ?_ (State.beside_evaluateIf _ _)
    refine State.Beside.trans ?_ (State.beside_setFlagIf (by decide) _ _)
    refine State.Beside.trans ?_ (State.beside_setFlagIf (by decide) _ _)
    exact {}

theorem State.beside_revokeSlot (slot : Nat) (s : State) : s.Beside (s.revokeSlot slot) := by
  refine State.Beside.trans ?_ (State.beside_evaluate _)
  refine State.Beside.trans ?_ (State.beside_setFlag (by decide) _)
  exact {}

theorem State.beside_deliver (f : Frame) (s : State) : s.Beside (s.deliver f).1 := by
  unfold State.deliver
  split
  · refine State.Beside.trans ?_ (State.beside_setFlag (by decide) _)
    exact {}
  · exact .refl s

theorem State.beside_placeAnswer (a : Answer) (s : State) : s.Beside (s.placeAnswer a) := by
  refine State.Beside.trans ?_ (State.beside_judgeStart _)
  exact { radio := Radio.beside_place _ _ _ _ _ _ _ }

theorem State.beside_processStation (f : Frame) (s : State) : s.Beside (s.processStation f).1 := by
  unfold State.processStation
  split
  · split
    · exact s.beside_issueRecord _ _ _
    · exact .refl s
  · split
    · split
      · dsimp only [State.processRevoke]
        split
        · exact s.beside_revokeSlot _
        · exact .refl s
      · exact .refl s
    · split
      · exact .refl s
      · split
        · exact .refl s
        · split
          · exact s.beside_deliver f
          · exact .refl s

theorem State.beside_processFrame (f : Frame) (s : State) : s.Beside (s.processFrame f).1 := by
  have busy : s.Beside (s.onRadio fun r => { r with busy := true }) := {}
  unfold State.processFrame
  dsimp only
  split
  · exact busy.trans (State.beside_deliver f _)
  · have work := busy.trans (State.beside_processStation f _)
    split
    · split
      · split
        · exact work.trans (State.beside_placeAnswer _ _)
        · exact work.trans {}
      · exact work
    · exact work

theorem Radio.beside_setBuf (b : FrameBuffer) (i : BufId) (r : Radio) : r.Beside (r.setBuf b i) := by
  cases i <;> exact {}

theorem State.beside_setBuf (b : FrameBuffer) (i : BufId) (s : State) :
    s.Beside (s.onRadio (Radio.setBuf · b i)) := { radio := Radio.beside_setBuf _ _ _ }

theorem State.beside_takeFrames (n : Nat) (i : BufId) (s : State) : s.Beside (s.takeFrames n i) := by
  induction n generalizing i s with
  | zero => exact .refl s
  | succ n ih =>
    have taken : s.Beside (s.onRadio (Radio.moveBuf .processing i)) := s.beside_setBuf _ i
    have worked := taken.trans (State.beside_processFrame (frameOf (s.radio.buf i).content) _)
    have freed := worked.trans (State.beside_setBuf .freed i _)
    rw [State.takeFrames_succ]
    split
    · exact worked
    · split
      · exact freed.trans (ih _ _)
      · exact freed.trans {}

theorem State.beside_handFrame (i : BufId) (s : State) : s.Beside (s.handFrame i) := by
  unfold State.handFrame
  split
  · exact s.beside_setBuf _ i
  · exact s.beside_takeFrames 2 i

theorem State.beside_finishProcessing (s : State) : s.Beside s.finishProcessing := by
  unfold State.finishProcessing
  cases s.radio.findBuf .processing with
  | some i =>
    have freed : s.Beside (s.onRadio (Radio.freeBuf i)) := s.beside_setBuf .freed i
    dsimp only
    split
    · exact freed.trans (State.beside_takeFrames 2 _ _)
    · exact freed.trans {}
  | none =>
    dsimp only
    split
    · exact s.beside_takeFrames 2 _
    · exact {}

end Sys2Proof.Machine
end

section
/-! A whole frame from a station: what the receiver makes of it, from the FRAME_START to the processor (R156,
R159, R160, R163, R164, R168, R171, R206). -/

namespace Sys2Proof.Machine

/-! ### The frame at the assembler (R160, R162) -/

/-- The buffer in which a FRAME_START begins: the assembler's own, or the lowest FREE one (R160). -/
def Radio.Starts (r : Radio) (k : BufId) : Prop :=
  r.assembler = some k ∨ (r.assembler = none ∧ (r.buf k).state = .free ∧ (k = .buf1 → r.buf0.state ≠ .free))

theorem Radio.findBuf_eq_of_lowest {r : Radio} {st : BufState} {k : BufId} (here : (r.buf k).state = st)
    (lowest : k = .buf1 → r.buf0.state ≠ st) : r.findBuf st = some k := by
  unfold Radio.findBuf
  cases k with
  | buf0 => exact if_pos here
  | buf1 => rw [if_neg (lowest rfl)]; exact if_pos here

theorem Radio.findBuf_eq_none_of {r : Radio} {st : BufState} (none0 : r.buf0.state ≠ st)
    (none1 : r.buf1.state ≠ st) : r.findBuf st = none := by
  unfold Radio.findBuf
  rw [if_neg none0, if_neg none1]

/-- After a FRAME_START the assembler is INSIDE an empty buffer (R160). -/
theorem State.takeFrameStart_starts {s : State} {k : BufId} (starts : s.radio.Starts k) : s.takeFrameStart =
    s.onRadio fun r => { r.setBuf ⟨.assembling, []⟩ k with assembler := some k } := by
  obtain inside | ⟨outside, free, lowest⟩ := starts
  · unfold State.takeFrameStart
    rw [inside]
    dsimp only
    rw [← inside]
    cases k <;> rfl
  · exact State.takeFrameStart_free outside (Radio.findBuf_eq_of_lowest free lowest)

/-- At its FRAME_END a frame that passes R162 goes on to the addressing check (R162, R163). -/
theorem State.takeFrameEnd_passes {s : State} {k : BufId} (inside : s.radio.assembler = some k)
    (passes : checkContent (s.radio.buf k).content = none) :
    s.takeFrameEnd
      = State.frameChecked k (s.onRadio fun r => { r with assembler := none, silence := none }) := by
  have same : (s.onRadio fun r => { r with assembler := none, silence := none }).radio.buf k
      = s.radio.buf k := by cases k <;> rfl
  unfold State.takeFrameEnd
  simp only [inside, same, passes]

section

variable {s : State} {d src kind : Byte} {body : List Byte}
  (receives : s.radio.current = .normal ∨ s.radio.current = .listen)
include receives

/-- Without a FREE buffer a FRAME_START is overrun, and the rest of the frame is ignored (R160, R161). -/
theorem State.frameArrives_full (outside : s.radio.assembler = none) (full : s.radio.findBuf .free = none) :
    s.frameArrives d src kind body
      = State.rxError .receiveOverrun (s.onRadio fun r => { r with markLatch := false }) := by
  have overrun : State.takeFrameStart (s.onRadio fun r => { r with markLatch := false })
      = State.rxError .receiveOverrun (s.onRadio fun r => { r with markLatch := false }) :=
    State.takeFrameStart_full outside full
  have still : (State.rxError .receiveOverrun
      (s.onRadio fun r => { r with markLatch := false })).radio.assembler = none := outside
  unfold State.frameArrives
  simp only [if_pos receives, overrun, still]

/-- A frame that begins in a buffer is whole there at its FRAME_END (R160 to R163). -/
theorem State.frameArrives_eq (fits : body.length ≤ 56) {k : BufId} (starts : s.radio.Starts k) :
    s.frameArrives d src kind body
      = (State.frameChecked k (s.ended k (frameContent d src kind body))).lineEvent := by
  have size : (frameContent d src kind body).length ≤ Config.bufferSize := by
    rw [length_frameContent]; show body.length + 6 ≤ 64; omega
  have passes := checkContent_frameContent d src kind fits
  have begun := State.takeFrameStart_starts (s := s.onRadio fun r => { r with markLatch := false }) (k := k)
    (by cases k <;> exact starts)
  unfold State.frameArrives
  simp only [if_pos receives, begun, State.onRadio_radio, if_pos size]
  rw [State.takeFrameEnd_passes (k := k) (by cases k <;> rfl) (by cases k <;> exact passes)]
  cases k <;> rfl

end

/-! ### The addresses and the link (R163, R171) -/

theorem State.addressingPasses_iff {s : State} (address : s.param 0 < 256) (f : Frame) :
    s.addressingPasses f = true ↔ (f.destination.toNat = s.param 0 ∨ f.destination.toNat = 0)
      ∧ 1 ≤ f.source.toNat ∧ f.source.toNat ≤ 15 := by
  have car : f.destination = s.carAddress ↔ f.destination.toNat = s.param 0 := by
    rw [BitVec.toNat_eq, State.carAddress, BitVec.toNat_ofNat, Nat.mod_eq_of_lt address]
  have all : f.destination = 0 ↔ f.destination.toNat = 0 := BitVec.toNat_eq
  simp only [State.addressingPasses, Bool.and_eq_true, Bool.or_eq_true, beq_iff_eq, decide_eq_true_eq, car,
    all, and_assoc]

/-- A complete frame restarts the link timer, and a link that was lost is handed to an evaluation (R171). -/
theorem State.linkHeard_eq (s : State) : s.linkHeard =
    let timed := s.onRadio fun r => { r with linkTimer := some (s.param 31) }
    if s.radio.link = .ok then timed
    else State.evaluate ((timed.onRadio fun r => { r with link := .ok }).setFlag .link) := by
  unfold State.linkHeard State.setLink
  simp only [State.onRadio, show (LinkStatus.ok == .lost) = false from rfl, Bool.or_false]

/-- A frame that passes the addressing check is HELD behind a busy processor, and taken by an idle one. -/
theorem State.frameChecked_passes {s : State} {k : BufId} (loud : s.radio.current ≠ .selftest)
    (passes : s.addressingPasses (frameOf (s.radio.buf k).content) = true) : s.frameChecked k =
      if s.radio.busy = true then
        s.linkHeard.onRadio (Radio.setBuf · ⟨.held, (s.radio.buf k).content⟩ k)
      else s.linkHeard.takeFrames 2 k := by
  have busy : s.linkHeard.radio.busy = s.radio.busy := by
    rw [← Radio.receiver_busy, s.linkHeard_receiver, Radio.receiver_busy]
  have content : s.linkHeard.radio.buf k = s.radio.buf k := Radio.buf_of_receiver s.linkHeard_receiver k
  unfold State.frameChecked State.handFrame
  rw [if_neg loud, if_pos passes, busy, ← content]
  rfl

/-- Settles O56: the frame is whole in its buffer at its FRAME_END, and the addressing check and the
processor's state say what becomes of it. -/
theorem stationFramesReachTheProcessor : Obligations.StationFramesReachTheProcessor := by
  refine ⟨fun d src kind number b body s h => ?_, ?_⟩
  · exact ⟨State.unlessReset_released _ _ h, State.unlessReset_released _ _ h,
      State.unlessReset_released _ _ h, State.unlessReset_released _ _ h, State.unlessReset_released _ _ h,
      State.unlessReset_released _ _ h, State.unlessReset_released _ _ h⟩
  intro d src kind body s fits r content errorPort clear receives passes
  refine ⟨fun deaf => ?_, fun on outside busy0 busy1 => ?_, ?_⟩
  · unfold State.frameArrives
    exact if_neg deaf
  · exact State.frameArrives_full on outside (Radio.findBuf_eq_none_of busy0 busy1)
  intro k on address _ starts outside timed heard
  have whole : s.ended k content = outside := by cases k <;> rfl
  have stored : outside.radio.buf k = ⟨.assembling, content⟩ := by cases k <;> rfl
  have read : frameOf (outside.radio.buf k).content = ⟨d, src, kind, body⟩ := by
    rw [stored]; exact frameOf_frameContent d src kind body
  have loud : outside.radio.current ≠ .selftest := by
    have mode : outside.radio.current = s.radio.current := by cases k <;> rfl
    obtain normal | listen := on
    · rw [mode, normal]; decide
    · rw [mode, listen]; decide
  have addressed : outside.addressingPasses (frameOf (outside.radio.buf k).content) = true ↔ passes := by
    rw [read]; exact State.addressingPasses_iff (s := outside) address _
  have link : outside.linkHeard = heard := by
    rw [State.linkHeard_eq]
    cases k <;> rfl
  have busy : outside.radio.busy = r.busy := by cases k <;> rfl
  rw [State.frameArrives_eq on fits starts, whole]
  refine ⟨fun fails => ?_, fun _ => ?_, fun ok works => ?_, fun ok idle => ?_⟩
  · rw [State.frameChecked, if_neg loud, if_neg (addressed.not.mpr fails)]
    rfl
  · simp only [heard]
    split
    · next ok => exact ⟨by cases k <;> exact ok, by cases k <;> rfl⟩
    · have same := (State.beside_evaluate { timed with
            port := { s.port with flags := setBit s.port.flags .link }
            radio := { timed.radio with link := .ok } }).radio
      exact ⟨same.link, same.linkTimer⟩
  · rw [State.frameChecked_passes loud (addressed.mpr ok), busy, if_pos works, link, stored]
    rfl
  · rw [State.frameChecked_passes loud (addressed.mpr ok), busy, if_neg (by rw [idle]; decide), link]

end Sys2Proof.Machine
end

section
/-! A byte from the modem: the parity, the mark decoding, what the assembler does with each symbol, and the
check value (R155 to R157, R160 to R163, R165, R168). -/

namespace Sys2Proof.Machine

/-! ### Parity (R155, R156) -/

/-- The exclusive or of some bits says whether an odd number of them is set. -/
theorem foldl_xor_eq (bits : List Bool) (a : Bool) :
    bits.foldl xor a = decide (((bits.filter id).length + a.toNat) % 2 = 1) := by
  induction bits generalizing a with
  | nil => cases a <;> rfl
  | cons b bits ih =>
    rw [List.foldl_cons, ih]
    cases b with
    | false => cases a <;> simp
    | true =>
      cases a with
      | false => simp
      | true => simp; omega

/-- The data bits of a byte, least significant first. -/
def dataBits (b : Byte) : List Bool := (List.range 8).map b.getLsbD

theorem reverse_bitsMsbFirst (b : Byte) : (bitsMsbFirst b).reverse = dataBits b := rfl

theorem foldl_xor_bitsMsbFirst (b : Byte) (a : Bool) : (bitsMsbFirst b).foldl xor a
    = decide ((((List.range 8).filter b.getLsbD).length + a.toNat) % 2 = 1) := by
  have ones : ((bitsMsbFirst b).filter id).length = ((List.range 8).filter b.getLsbD).length := by
    rw [← List.length_reverse, ← List.filter_reverse, reverse_bitsMsbFirst, dataBits, List.filter_map,
      List.length_map]
    rfl
  rw [foldl_xor_eq, ones]

/-- A byte is in error when its stop bit is low, or when the number of ones has the wrong parity (R156). -/
theorem byteInError_iff {code : Nat} (coded : code ≤ 2) (b : Byte) (parityBit stopBit : Bool) :
    let ones := ((List.range 8).filter b.getLsbD).length + parityBit.toNat
    byteInError code b parityBit stopBit = true
      ↔ stopBit = false ∨ (code = 1 ∧ ones % 2 = 1) ∨ (code = 2 ∧ ones % 2 = 0) := by
  intro ones
  have odd := foldl_xor_bitsMsbFirst b parityBit
  unfold byteInError parityOk
  dsimp only
  rw [odd]
  obtain rfl | rfl | rfl : code = 0 ∨ code = 1 ∨ code = 2 := by omega
  · simp
  · simp [ones]
  · simp [ones]

/-! ### The end of a byte at the assembler (R161, R167) -/

/-- The mark latch takes a level. -/
def State.latched (l : Bool) (s : State) : State := s.onRadio fun r => { r with markLatch := l }

/-- The silence timer after the symbol of a byte, and the line event where a frame ended. -/
def State.afterByte (wasInside : Bool) (s : State) : State :=
  if wasInside && s.timed.radio.assembler.isNone then s.timed.lineEvent else s.timed

theorem State.takeByte_error (b : Byte) (s : State) :
    s.takeByte b true = s.takeLineError.afterByte s.radio.assembler.isSome := rfl

/-- What a byte without error is, once its mark decoding is known (R157). -/
def State.received (decoded : Symbol × Bool) (s : State) : State :=
  (State.takeSymbol decoded.1 (s.latched decoded.2)).afterByte s.radio.assembler.isSome

theorem State.takeByte_eq (b : Byte) (s : State) :
    s.takeByte b false = s.received (decodeMark s.radio.markLatch b) := rfl

/-- OUTSIDE a frame the silence timer is stopped (R161). -/
theorem State.timed_outside {s : State} (outside : s.radio.assembler = none) :
    s.timed = s.onRadio fun r => { r with silence := none } := by
  have silence : (if s.radio.assembler.isSome then some Config.silenceTime else none) = none := by
    rw [outside]; rfl
  exact congrArg (fun d => s.onRadio fun r => { r with silence := d }) silence

/-- INSIDE a frame the silence timer restarts (R161). -/
theorem State.timed_inside {s : State} (inside : s.radio.assembler.isSome = true) :
    s.timed = s.onRadio fun r => { r with silence := some 100 } :=
  congrArg (fun d => s.onRadio fun r => { r with silence := d }) (if_pos inside)

/-- A frame that ended leaves its silence timer stopped. -/
theorem State.afterByte_ended {s : State} (outside : s.radio.assembler = none)
    (silent : s.radio.silence = none) : s.afterByte true = s.lineEvent := by
  have timed : s.timed = s := (State.timed_outside outside).trans
    (congrArg (fun d => s.onRadio fun r => { r with silence := d }) silent.symm)
  simp [State.afterByte, timed, outside]

theorem State.afterByte_inside {s : State} (inside : s.radio.assembler.isSome = true) (wasInside : Bool) :
    s.afterByte wasInside = s.timed := by
  have still : s.timed.radio.assembler.isNone = false := Option.isNone_eq_false_iff.mpr inside
  rw [State.afterByte, still, Bool.and_false]
  rfl

theorem State.afterByte_latched {s : State} (outside : s.radio.assembler = none) (l : Bool) :
    (s.latched l).afterByte false = s.outside l :=
  (State.timed_outside (s := s.latched l) outside).trans
    (congrArg (fun a => s.onRadio fun r => { r with assembler := a, silence := none, markLatch := l }) outside)

/-! ### The symbols (R157, R160 to R162) -/

section

variable {s : State} {l : Bool} {k : BufId}

/-- OUTSIDE a frame every symbol but a FRAME_START is ignored (R161, R162). -/
theorem State.received_outside (outside : s.radio.assembler = none) {y : Symbol} (other : y ≠ .frameStart) :
    s.received (y, l) = s.outside l := by
  have ignored : State.takeSymbol y (s.latched l) = s.latched l := by
    have still : (s.latched l).radio.assembler = none := outside
    cases y with
    | frameStart => exact absurd rfl other
    | nothing => rfl
    | data d => unfold State.takeSymbol State.takeData; rw [still]
    | frameEnd => unfold State.takeSymbol State.takeFrameEnd; rw [still]
    | symbolError => unfold State.takeSymbol; rw [still]
  rw [State.received, ignored, outside]
  exact State.afterByte_latched outside l

/-- A line error OUTSIDE a frame only clears the mark latch (R156). -/
theorem State.takeByte_error_outside {b : Byte} (outside : s.radio.assembler = none) :
    s.takeByte b true = s.outside false := by
  have ignored : s.takeLineError = s.latched false := by
    unfold State.takeLineError
    simp only [State.onRadio_radio, outside]
    rfl
  rw [State.takeByte_error, ignored, outside]
  exact State.afterByte_latched outside false

/-- A line error INSIDE a frame aborts it (R156, R161). -/
theorem State.takeByte_error_inside {b : Byte} (inside : s.radio.assembler = some k) :
    s.takeByte b true = ((s.latched false).abortFrame .lineError k).lineEvent := by
  have aborted : s.takeLineError = (s.latched false).abortFrame .lineError k := by
    unfold State.takeLineError
    simp only [State.onRadio_radio, inside]
    rfl
  rw [State.takeByte_error, aborted, inside]
  exact State.afterByte_ended rfl rfl

/-- A symbol error INSIDE a frame aborts it (R157, R161). -/
theorem State.received_symbolError (inside : s.radio.assembler = some k) :
    s.received (.symbolError, l) = ((s.latched l).abortFrame .symbolError k).lineEvent := by
  have aborted : State.takeSymbol .symbolError (s.latched l) = (s.latched l).abortFrame .symbolError k := by
    have still : (s.latched l).radio.assembler = some k := inside
    unfold State.takeSymbol
    rw [still]
  rw [State.received, aborted, inside]
  exact State.afterByte_ended rfl rfl

/-- The first byte of a mark INSIDE a frame only restarts the silence timer (R157, R161). -/
theorem State.received_mark (inside : s.radio.assembler = some k) :
    s.received (.nothing, l) = (s.latched l).timed := by
  have still : (s.latched l).radio.assembler.isSome = true := by
    rw [show (s.latched l).radio.assembler = some k from inside]; rfl
  rw [State.received]
  exact State.afterByte_inside still _

/-- The receiver INSIDE a frame after a symbol that goes on with it. -/
theorem State.afterByte_content {t : State} {i : BufId} {c : List Byte} (wasInside : Bool)
    (goes : t = (s.latched l).onRadio fun r =>
      { r.setBuf ⟨.assembling, c⟩ i with assembler := some i }) :
    t.afterByte wasInside = s.inside l i c := by
  have inside : t.radio.assembler.isSome = true := by rw [goes]; rfl
  rw [State.afterByte_inside inside, State.timed_inside inside, goes]
  cases i <;> rfl

theorem State.received_frameStart (starts : s.radio.Starts k) :
    s.received (.frameStart, l) = s.inside l k [] := by
  have begun : (s.latched l).radio.Starts k := by cases k <;> exact starts
  rw [State.received]
  exact State.afterByte_content _ (State.takeFrameStart_starts begun)

/-- Without a FREE buffer a FRAME_START is overrun (R160). -/
theorem State.received_overrun (outside : s.radio.assembler = none) (full : s.radio.findBuf .free = none) :
    s.received (.frameStart, l) = (s.rxError .receiveOverrun).outside l := by
  have overrun : State.takeFrameStart (s.latched l) = (s.latched l).rxError .receiveOverrun :=
    State.takeFrameStart_full outside full
  rw [State.received, State.takeSymbol, overrun, outside]
  exact State.afterByte_latched (s := s.rxError .receiveOverrun) outside l

/-- A data byte INSIDE a frame is appended while there is room (R161). -/
theorem State.received_data {d : Byte} (inside : s.radio.assembler = some k)
    (room : (s.radio.buf k).content.length < 64) :
    s.received (.data d, l) = s.inside l k ((s.radio.buf k).content ++ [d]) := by
  have same : (s.latched l).radio.buf k = s.radio.buf k := by cases k <;> rfl
  have appended := State.takeData_inside (s := s.latched l) inside (by rw [same]; exact room) d
  rw [same] at appended
  rw [State.received]
  refine State.afterByte_content _ (appended.trans ?_)
  have still : (s.latched l).radio.assembler = some k := inside
  rw [← still]
  cases k <;> rfl

/-- The 65th byte of a frame aborts it (R161). -/
theorem State.received_oversize {d : Byte} (inside : s.radio.assembler = some k)
    (full : ¬(s.radio.buf k).content.length < 64) :
    s.received (.data d, l) = ((s.latched l).abortFrame .oversize k).lineEvent := by
  have same : (s.latched l).radio.buf k = s.radio.buf k := by cases k <;> rfl
  have aborted : State.takeSymbol (.data d) (s.latched l) = (s.latched l).abortFrame .oversize k := by
    have still : (s.latched l).radio.assembler = some k := inside
    unfold State.takeSymbol State.takeData
    simp only [still, same]
    exact if_neg full
  rw [State.received, aborted, inside]
  exact State.afterByte_ended rfl rfl

/-- At its FRAME_END a frame that fails a check is aborted (R161, R162). -/
theorem State.received_frameEnd_fails {e : RxError} (inside : s.radio.assembler = some k)
    (fails : checkContent (s.radio.buf k).content = some e) :
    s.received (.frameEnd, l) = ((s.latched l).abortFrame e k).lineEvent := by
  have same : ((s.latched l).onRadio fun r => { r with assembler := none, silence := none }).radio.buf k
      = s.radio.buf k := by cases k <;> rfl
  have aborted : State.takeSymbol .frameEnd (s.latched l) = (s.latched l).abortFrame e k := by
    have still : (s.latched l).radio.assembler = some k := inside
    unfold State.takeSymbol State.takeFrameEnd
    simp only [still, same, fails]
    cases k <;> rfl
  rw [State.received, aborted, inside]
  exact State.afterByte_ended rfl rfl

theorem State.frameChecked_outside (k : BufId) (s : State) :
    (s.frameChecked k).radio.assembler = s.radio.assembler
      ∧ (s.frameChecked k).radio.silence = s.radio.silence := by
  have heard : s.linkHeard.radio.assembler = s.radio.assembler
      ∧ s.linkHeard.radio.silence = s.radio.silence := by
    rw [State.linkHeard_eq]
    dsimp only
    split
    · exact ⟨rfl, rfl⟩
    · have same := (State.beside_evaluate (((s.onRadio fun r => { r with
          linkTimer := some (s.param 31) }).onRadio fun r => { r with link := .ok }).setFlag .link)).radio
      exact ⟨same.assembler, same.silence⟩
  unfold State.frameChecked
  split
  · have same := (s.beside_handFrame k).radio
    exact ⟨same.assembler, same.silence⟩
  · split
    · have same := (s.linkHeard.beside_handFrame k).radio
      exact ⟨same.assembler.trans heard.1, same.silence.trans heard.2⟩
    · have same := (s.beside_setBuf .freed k).radio
      exact ⟨same.assembler, same.silence⟩

/-- At its FRAME_END a frame that passes its checks goes on to the addressing check (R162, R163). -/
theorem State.received_frameEnd (inside : s.radio.assembler = some k)
    (passes : checkContent (s.radio.buf k).content = none) :
    s.received (.frameEnd, l) = (State.frameChecked k (s.outside l)).lineEvent := by
  have same : (s.latched l).radio.buf k = s.radio.buf k := by cases k <;> rfl
  have checked : State.takeSymbol .frameEnd (s.latched l) = State.frameChecked k (s.outside l) :=
    State.takeFrameEnd_passes (s := s.latched l) inside (by rw [same]; exact passes)
  obtain ⟨outside, silent⟩ := State.frameChecked_outside k (s.outside l)
  rw [State.received, checked, inside]
  exact State.afterByte_ended outside silent

end

end Sys2Proof.Machine
end

section
/-! The receiver's statement: a byte of the modem, the checks of a frame, and the check value bit by bit (R155
to R157, R160 to R163, R165, R168). -/

namespace Sys2Proof.Machine

/-! ### The checks (R162) -/

/-- Two bytes are the check value's, high byte first (R162). -/
theorem word16_eq_iff (h l : Byte) (v : U16) : word16 h l = v ↔ [h, l] = bytes16 v := by
  constructor
  · rintro rfl
    have high : (word16 h l).extractLsb' 8 8 = h := by
      rw [word16, BitVec.extractLsb'_append_eq_left]
    have low : (word16 h l).extractLsb' 0 8 = l := by
      rw [word16, BitVec.extractLsb'_append_eq_right]
    rw [bytes16, high, low]
  · intro same
    cases same
    exact word16_bytes v

theorem drop_eq_last_two {c : List Byte} (long : 2 ≤ c.length) :
    c.drop (c.length - 2) = [c.getD (c.length - 2) 0, c.getD (c.length - 1) 0] := by
  have first : c.length - 2 < c.length := by omega
  have second : c.length - 2 + 1 < c.length := by omega
  rw [List.drop_eq_getElem_cons first, List.drop_eq_getElem_cons second,
    List.drop_eq_nil_of_le (by omega), List.getD_eq_getElem _ _ first]
  simp only [show c.length - 2 + 1 = c.length - 1 by omega]
  rw [List.getD_eq_getElem]

/-! ### The check value (R162) -/

/-- One byte of the check value, bit by bit, the most significant bit first (R162). -/
theorem checkValue_append (c : List Byte) (b : Byte) : checkValue (c ++ [b])
    = (List.range 8).foldl (fun (crc : BitVec 16) i =>
        if crc.getLsbD 15 = b.getLsbD (7 - i) then crc <<< 1 else (crc <<< 1) ^^^ 0x1021) (checkValue c) := by
  have bits : bitsMsbFirst b = (List.range 8).map fun i => b.getLsbD (7 - i) := rfl
  rw [checkValue, List.foldl_append, List.foldl_cons, List.foldl_nil, crcByte, bits, List.foldl_map]
  refine congrArg (fun f => List.foldl f _ _) (funext fun crc => funext fun i => ?_)
  rw [crcBit, BitVec.msb_eq_getLsbD_last]
  cases crc.getLsbD (16 - 1) <;> cases b.getLsbD (7 - i) <;> rfl

/-! ### The mark decoding (R157) -/

/-- A byte without error by the table of the marks (R157). -/
theorem State.takeByte_decoded (b : Byte) (s : State) : s.takeByte b false =
    if s.radio.markLatch = false then
      (if b = 0x9C then s.received (.nothing, true) else s.received (.data b, false))
    else if b = 0x9C then s.received (.data b, false)
    else if b = 0x11 then s.received (.frameStart, false)
    else if b = 0x12 then s.received (.frameEnd, false)
    else s.received (.symbolError, false) := by
  rw [State.takeByte_eq]
  unfold decodeMark
  cases s.radio.markLatch with
  | false =>
    simp only [Bool.false_eq_true, if_false, if_true, apply_ite s.received]
    rfl
  | true =>
    simp only [Bool.true_eq_false, if_true, if_false, apply_ite s.received]
    exact ite_congr rfl (fun mark => by rw [mark]; rfl) fun _ => rfl

theorem exec_receivedByte_modem {s : State} (h : s.resetHeld = false) (b : Byte) (parityBit stopBit : Bool) :
    exec (.receivedByte (.modem b parityBit stopBit)) s = .next (if s.radio.current.receives = true then
      s.takeByte b (byteInError (s.param 2) b parityBit stopBit) else s) :=
  State.unlessReset_released _ _ h

theorem LinkMode.receives_iff {m : LinkMode} : m.receives = true ↔ m = .normal ∨ m = .listen := by
  cases m <;> simp [LinkMode.receives]

theorem exec_silenceTimerExpiry {s : State} (h : s.resetHeld = false) :
    exec .silenceTimerExpiry s = .next (match s.radio.silence, s.radio.assembler with
      | some _, some k => (s.abortFrame .silence k).lineEvent
      | _, _ => s) := by
  refine (State.unlessReset_released _ _ h).trans ?_
  cases s.radio.silence <;> cases s.radio.assembler <;> rfl

/-- Settles O51: each symbol INSIDE and OUTSIDE a frame, then the checks and the check value. -/
theorem bytesAreDecodedAndAssembled : Obligations.BytesAreDecodedAndAssembled := by
  refine ⟨?_, fun c => ?_, ⟨rfl, checkValue_append⟩, fun s h => ?_⟩
  · intro b parityBit stopBit s h coded r ones inError errorPort stay abort assemble abortInside data
      frameStart frameEnd
    have aborts (e : RxError) (k : BufId) : ((s.latched false).abortFrame e k).lineEvent = abort e k :=
      congrArg State.lineEvent (by cases k <;> rfl)
    have inside (k : BufId) (c : List Byte) : s.inside false k c = assemble k c := by cases k <;> rfl
    have outside (place : r.assembler = none) (l : Bool) : s.outside l = stay l :=
      (State.afterByte_latched place l).symm
    have markTaken : s.received (.nothing, true) = stay true := by
      cases place : r.assembler with
      | none => exact (State.received_outside place (by simp)).trans (outside place true)
      | some k => exact State.received_mark place
    have dataTaken : s.received (.data b, false) = data := by
      cases place : r.assembler with
      | none =>
        simp only [data, place]
        exact (State.received_outside place (by simp)).trans (outside place false)
      | some k =>
        simp only [data, place]
        split
        · next room => exact (State.received_data place room).trans (inside k _)
        · next full => exact (State.received_oversize place full).trans (aborts _ k)
    have startTaken : s.received (.frameStart, false) = frameStart := by
      cases place : r.assembler with
      | some k =>
        simp only [frameStart, place]
        exact (State.received_frameStart (.inl place)).trans (inside k _)
      | none =>
        simp only [frameStart, place]
        split
        · next free =>
          exact (State.received_frameStart (k := .buf0) (.inr ⟨place, free, fun no => by cases no⟩)).trans (inside _ _)
        · next busy0 =>
          split
          · next free =>
            exact (State.received_frameStart (k := .buf1) (.inr ⟨place, free, fun _ => busy0⟩)).trans (inside _ _)
          · next busy1 => exact State.received_overrun place (Radio.findBuf_eq_none_of busy0 busy1)
    have endTaken : s.received (.frameEnd, false) = frameEnd := by
      cases place : r.assembler with
      | none =>
        simp only [frameEnd, place]
        exact (State.received_outside place (by simp)).trans (outside place false)
      | some k =>
        cases checks : checkContent (r.buf k).content with
        | some e =>
          simp only [frameEnd, place, checks]
          exact (State.received_frameEnd_fails place checks).trans (aborts e k)
        | none =>
          simp only [frameEnd, place, checks]
          exact State.received_frameEnd place checks
    have wrongTaken : s.received (.symbolError, false) = abortInside .symbolError := by
      cases place : r.assembler with
      | none =>
        simp only [abortInside, place]
        exact (State.received_outside place (by simp)).trans (outside place false)
      | some k =>
        simp only [abortInside, place]
        exact (State.received_symbolError place).trans (aborts _ k)
    have errorTaken : s.takeByte b true = abortInside .lineError := by
      cases place : r.assembler with
      | none =>
        simp only [abortInside, place]
        exact (State.takeByte_error_outside place).trans (outside place false)
      | some k =>
        simp only [abortInside, place]
        exact (State.takeByte_error_inside place).trans (aborts _ k)
    have mode : s.radio.current.receives = true ↔ ¬(r.current ≠ .normal ∧ r.current ≠ .listen) := by
      rw [LinkMode.receives_iff]; tauto
    rw [exec_receivedByte_modem h]
    refine congrArg Host.Outcome.next ?_
    by_cases deaf : r.current ≠ .normal ∧ r.current ≠ .listen
    · exact (if_neg (mode.not.mpr (not_not_intro deaf))).trans (if_pos deaf).symm
    refine (if_pos (mode.mpr deaf)).trans (Eq.trans ?_ (if_neg deaf).symm)
    have error : byteInError (s.param 2) b parityBit stopBit = true ↔ inError :=
      byteInError_iff coded b parityBit stopBit
    by_cases broken : inError
    · rw [error.mpr broken, errorTaken]
      exact (if_pos broken).symm
    · rw [Bool.eq_false_iff.mpr (error.not.mpr broken), State.takeByte_decoded, markTaken, dataTaken,
        startTaken, endTaken, wrongTaken]
      exact (if_neg broken).symm
  · intro n len
    unfold checkContent
    dsimp only
    split
    · rfl
    · next long =>
      have value : c.drop (n - 2) = bytes16 (checkValue (c.take (n - 2)))
          ↔ word16 (c.getD (n - 2) 0) (c.getD (n - 1) 0) = checkValue (c.take (n - 2)) := by
        rw [word16_eq_iff, drop_eq_last_two (by omega)]
      simp only [value]
      rfl
  · rw [exec_silenceTimerExpiry h]
    cases s.radio.silence <;> cases place : s.radio.assembler with
    | none => rfl
    | some k => cases k <;> rfl

end Sys2Proof.Machine
end

section
/-! The line bytes of a frame from the modem, one by one: the mark decoding, the assembler and the checks undo
the transmitter's coding (R157 to R163). -/

namespace Sys2Proof.Machine

/-! ### A run of bytes -/

/-- A byte from the modem with the parity bit of its value. -/
def modemByte (parity : Byte → Bool) (b : Byte) : Instr := .receivedByte (.modem b (parity b) true)

/-- A part that takes the bytes of the modem, each with a parity bit that matches (R155, R156). -/
structure State.Receiving (parity : Byte → Bool) (s : State) : Prop where
  released : s.resetHeld = false
  mode : s.radio.current.receives = true
  matching : ∀ b, parityOk (s.param 2) b (parity b) = true

theorem State.Receiving.of_same {parity : Byte → Bool} {s t : State} (h : s.Receiving parity)
    (held : t.resetHeld = s.resetHeld) (mode : t.radio.current = s.radio.current)
    (profile : t.profile = s.profile) : t.Receiving parity := by
  refine ⟨held.trans h.released, mode ▸ h.mode, ?_⟩
  unfold State.param
  rw [profile]
  exact h.matching

/-- A part that receives the bytes of some codes goes from one state to another and still receives. -/
def State.Gives (parity : Byte → Bool) (s t : State) (codes : List Byte) : Prop :=
  t.resetHeld = s.resetHeld ∧ t.radio.current = s.radio.current ∧ t.profile = s.profile
    ∧ (s.Receiving parity → ∀ rest, runCommands (codes.map (modemByte parity) ++ rest) s = runCommands rest t)

section

variable {parity : Byte → Bool} {s t u : State}

theorem State.Gives.append {a b : List Byte} (first : s.Gives parity t a) (second : t.Gives parity u b) :
    s.Gives parity u (a ++ b) := by
  obtain ⟨held, mode, profile, runs⟩ := first
  obtain ⟨held', mode', profile', runs'⟩ := second
  refine ⟨held'.trans held, mode'.trans mode, profile'.trans profile, fun h rest => ?_⟩
  rw [List.map_append, List.append_assoc, runs h, runs' (h.of_same held mode profile)]

theorem State.gives_nil (parity : Byte → Bool) (s : State) : s.Gives parity s [] :=
  ⟨rfl, rfl, rfl, fun _ _ => rfl⟩

/-- A byte with the right parity is taken without error (R156). -/
theorem State.Receiving.exec_modemByte (h : s.Receiving parity) (b : Byte) :
    exec (modemByte parity b) s = .next (s.received (decodeMark s.radio.markLatch b)) := by
  have fine : byteInError (s.param 2) b (parity b) true = false := by simp [byteInError, h.matching b]
  rw [modemByte, exec_receivedByte_modem h.released, if_pos h.mode, fine, State.takeByte_eq]

theorem State.gives_byte {b : Byte} {y : Symbol} {l : Bool}
    (decoded : decodeMark s.radio.markLatch b = (y, l)) (taken : s.received (y, l) = t)
    (held : t.resetHeld = s.resetHeld) (mode : t.radio.current = s.radio.current)
    (profile : t.profile = s.profile) : s.Gives parity t [b] := by
  refine ⟨held, mode, profile, fun h rest => ?_⟩
  rw [List.map_singleton, List.singleton_append, runCommands, h.exec_modemByte b, decoded, taken]

/-! ### OUTSIDE a frame -/

/-- OUTSIDE a frame a byte that is no FRAME_START only moves the mark latch (R161, R162). -/
theorem State.gives_outside {l m : Bool} {b : Byte} {y : Symbol} (decoded : decodeMark l b = (y, m))
    (other : y ≠ .frameStart) : (s.outside l).Gives parity (s.outside m) [b] :=
  State.gives_byte decoded (State.received_outside rfl other) rfl rfl rfl

theorem State.gives_outside_code (b : Byte) :
    (s.outside false).Gives parity (s.outside false) (markCode b) := by
  unfold markCode
  split
  · next mark =>
    exact (State.gives_outside (m := true) (y := .nothing) rfl (by simp)).append (b := [markByte])
      (State.gives_outside (y := .data markByte) rfl (by simp))
  · next other => exact State.gives_outside (decodeMark_data other) (by simp)

theorem State.gives_outside_content (content : List Byte) :
    (s.outside false).Gives parity (s.outside false) (content.flatMap markCode) := by
  induction content with
  | nil => exact State.gives_nil parity _
  | cons b content ih => exact (State.gives_outside_code b).append ih

/-- A frame that finds no FREE buffer is overrun at its FRAME_START, and the rest of it is ignored (R160). -/
theorem State.gives_overrun (full : s.radio.findBuf .free = none) (content : List Byte) :
    (s.outside false).Gives parity ((s.rxError .receiveOverrun).outside false) (lineBytes content) := by
  have start : (s.outside false).Gives parity ((s.rxError .receiveOverrun).outside false)
      [markByte, startByte] :=
    (State.gives_outside (m := true) (y := .nothing) rfl (by simp)).append (b := [startByte])
      (State.gives_byte rfl (State.received_overrun (s := s.outside true) (l := false) rfl full) rfl rfl rfl)
  have end_ : ((s.rxError .receiveOverrun).outside false).Gives parity
      ((s.rxError .receiveOverrun).outside false) [markByte, endByte] :=
    (State.gives_outside (m := true) (y := .nothing) rfl (by simp)).append (b := [endByte])
      (State.gives_outside (y := .frameEnd) rfl (by simp))
  exact (start.append (State.gives_outside_content content)).append end_

/-! ### INSIDE a frame -/

theorem State.gives_inside_mark (i : BufId) (c : List Byte) :
    (s.inside false i c).Gives parity (s.inside true i c) [markByte] := by
  have taken : (s.inside false i c).received (.nothing, true) = s.inside true i c :=
    State.received_mark (k := i) rfl
  exact State.gives_byte rfl taken rfl (by cases i <;> rfl) rfl

/-- INSIDE a frame a data byte is appended to its content (R161). -/
theorem State.gives_inside_data {l : Bool} (i : BufId) {c : List Byte} (room : c.length < 64) {b d : Byte}
    (decoded : decodeMark l b = (.data d, false)) :
    (s.inside l i c).Gives parity (s.inside false i (c ++ [d])) [b] := by
  have content : ((s.inside l i c).radio.buf i).content = c := by rw [State.inside_buf]
  have taken := State.received_data (s := s.inside l i c) (l := false) (k := i) (d := d) rfl
    (by rw [content]; exact room)
  rw [content] at taken
  refine State.gives_byte decoded (taken.trans ?_) rfl ?_ rfl <;> cases i <;> rfl

theorem State.gives_inside_code (i : BufId) {c : List Byte} (room : c.length < 64) (b : Byte) :
    (s.inside false i c).Gives parity (s.inside false i (c ++ [b])) (markCode b) := by
  unfold markCode
  split
  · next mark =>
    subst mark
    exact (State.gives_inside_mark i c).append (b := [markByte]) (State.gives_inside_data i room rfl)
  · next other => exact State.gives_inside_data i room (decodeMark_data other)

theorem State.gives_inside_content (i : BufId) {c content : List Byte}
    (room : c.length + content.length ≤ 64) :
    (s.inside false i c).Gives parity (s.inside false i (c ++ content)) (content.flatMap markCode) := by
  induction content generalizing c with
  | nil => rw [List.append_nil]; exact State.gives_nil parity _
  | cons b content ih =>
    rw [List.length_cons] at room
    have rest := ih (c := c ++ [b]) (by rw [List.length_append, List.length_singleton]; omega)
    rw [List.append_assoc] at rest
    exact (State.gives_inside_code i (by omega) b).append rest

/-- A FRAME_START begins a frame in its buffer, and abandons the one that is INSIDE (R160). -/
theorem State.gives_start {k : BufId} (latch : s.radio.markLatch = false)
    (starts : s.radio.Starts k) : s.Gives parity (s.inside false k []) [markByte, startByte] := by
  have mark : s.Gives parity (s.latched true).timed [markByte] := by
    refine State.gives_byte (y := .nothing) (l := true) (by rw [latch]; rfl) ?_ rfl rfl rfl
    cases place : s.radio.assembler with
    | some i => exact State.received_mark place
    | none =>
      rw [State.received_outside place (by simp)]
      exact (State.afterByte_latched place true).symm
  have begun : (s.latched true).timed.radio.Starts k := by cases k <;> exact starts
  have start : (s.latched true).timed.Gives parity (s.inside false k []) [startByte] := by
    refine State.gives_byte rfl ((State.received_frameStart (l := false) begun).trans ?_) rfl ?_ rfl <;>
      cases k <;> rfl
  exact mark.append (b := [startByte]) start

/-- The last byte of a frame that passes its checks hands it on, and the line may then be quiet (R162,
R167). -/
theorem State.Receiving.exec_last {k : BufId} {c : List Byte} (h : (s.inside true k c).Receiving parity)
    (passes : checkContent c = none) :
    exec (modemByte parity endByte) (s.inside true k c) = .next (State.frameChecked k (s.ended k c)).lineEvent := by
  have content : ((s.inside true k c).radio.buf k).content = c := by rw [State.inside_buf]
  rw [h.exec_modemByte]
  refine congrArg Host.Outcome.next ((State.received_frameEnd (l := false) (k := k) rfl
    (by rw [content]; exact passes)).trans ?_)
  cases k <;> rfl

end

/-- Settles O20: byte by byte up to the FRAME_END, whose line event is that of the whole frame. -/
theorem lineBytesBringTheFrame : Obligations.LineBytesBringTheFrame := by
  intro d src kind body parity s h mode fits buffers latch matching
  have receiving : s.Receiving parity := ⟨h, LinkMode.receives_iff.mpr mode, matching⟩
  have whole (k : BufId) (starts : s.radio.Starts k) :
      runCommands ((lineBytes (frameContent d src kind body)).map (modemByte parity)) s
        = some (s.frameArrives d src kind body) := by
    have room : ([] : List Byte).length + (frameContent d src kind body).length ≤ 64 := by
      rw [length_frameContent, List.length_nil]; omega
    obtain ⟨held, same, profile, runs⟩ := (((State.gives_start (parity := parity) latch starts).append
      (State.gives_inside_content k room)).append (State.gives_inside_mark k _))
    have split : lineBytes (frameContent d src kind body) = [markByte, startByte]
        ++ (frameContent d src kind body).flatMap markCode ++ [markByte] ++ [endByte] := by simp [lineBytes]
    rw [split, List.map_append, runs receiving, List.map_singleton, runCommands,
      (receiving.of_same held same profile).exec_last (checkContent_frameContent d src kind fits),
      State.frameArrives_eq mode fits starts]
    rfl
  cases place : s.radio.assembler with
  | some k => exact whole k (.inl place)
  | none =>
    by_cases free0 : s.radio.buf0.state = .free
    · exact whole .buf0 (.inr ⟨place, free0, fun no => by cases no⟩)
    by_cases free1 : s.radio.buf1.state = .free
    · exact whole .buf1 (.inr ⟨place, free1, fun _ => free0⟩)
    have full := Radio.findBuf_eq_none_of free0 free1
    have self := State.outside_self place (buffers.silent place) latch
    obtain ⟨-, -, -, runs⟩ := State.gives_overrun (parity := parity) full (frameContent d src kind body)
    rw [self] at runs
    have all := runs receiving []
    rw [List.append_nil] at all
    refine all.trans ?_
    rw [State.frameArrives_full mode place full]
    exact congrArg some (State.outside_self (s := State.rxError .receiveOverrun
      (s.onRadio fun r => { r with markLatch := false })) place (buffers.silent place) rfl)

end Sys2Proof.Machine
end

section
/-! The transmitter: the entry that it starts, the form of a byte on the line, and the link timer (R155, R156,
R158, R169, R171 to R174, R184). -/

namespace Sys2Proof.Machine

/-! ### The selected entry (R184) -/

theorem selectEntry_eq_none_iff {queue : List QueueEntry} :
    selectEntry queue = none ↔ ∀ e ∈ queue, e.started = true := by
  induction queue with
  | nil => simp [selectEntry]
  | cons q rest ih =>
    rw [List.forall_mem_cons, ← ih, selectEntry]
    cases selectEntry rest with
    | none => cases q.started <;> simp
    | some b => dsimp only; split <;> simp

/-- The unsent entry of the highest priority, the earliest placed among those, is the one selected. -/
theorem selectEntry_of_best {queue : List QueueEntry} {k : Nat} {e : QueueEntry}
    (place : queue[k]? = some e) (unsent : e.started = false)
    (best : ∀ j q, queue[j]? = some q → q.started = false →
      q.priority < e.priority ∨ (q.priority = e.priority ∧ k ≤ j)) : selectEntry queue = some e := by
  induction queue generalizing k with
  | nil => simp at place
  | cons q rest ih =>
    cases k with
    | zero =>
      obtain rfl : q = e := by simpa using place
      rw [selectEntry]
      cases selected : selectEntry rest with
      | none => simp [unsent]
      | some b =>
        obtain ⟨member, waits⟩ := selectEntry_eq_some selected
        obtain ⟨j, at_j⟩ := List.mem_iff_getElem?.mp member
        have lower : b.priority ≤ q.priority := by
          obtain lower | ⟨same, -⟩ := best (j + 1) b (by simpa using at_j) waits
          · exact lower.le
          · exact same.le
        simp [unsent, lower]
    | succ k =>
      have selected := ih (k := k) (by simpa using place) fun j b at_j waits => by
        obtain lower | ⟨same, after⟩ := best (j + 1) b (by simpa using at_j) waits
        · exact .inl lower
        · exact .inr ⟨same, by omega⟩
      have first : ¬(q.started = false ∧ e.priority ≤ q.priority) := by
        rintro ⟨waits, higher⟩
        obtain lower | ⟨-, after⟩ := best 0 q rfl waits <;> omega
      rw [selectEntry, selected]
      dsimp only
      rw [if_neg (by simpa using first)]

theorem markStarted_eq_set {queue : List QueueEntry} {k : Nat} {e : QueueEntry}
    (place : queue[k]? = some e) (first : ∀ j q, queue[j]? = some q → j < k → q ≠ e) :
    markStarted e queue = queue.set k { e with started := true } := by
  induction queue generalizing k with
  | nil => simp at place
  | cons q rest ih =>
    unfold markStarted
    cases k with
    | zero =>
      obtain rfl : q = e := by simpa using place
      exact if_pos rfl
    | succ k =>
      have rest_ := ih (k := k) (by simpa using place) fun j b at_j before =>
        first (j + 1) b (by simpa using at_j) (by omega)
      rw [if_neg (first 0 q rfl (by omega)), rest_, List.set_cons_succ]

/-! ### The start of a frame (R173, R174) -/

/-- The line lets the transmitter start: IDLE, the assembler OUTSIDE, and in NORMAL a low CARRIER (R173). -/
def Radio.MayStart (r : Radio) : Prop :=
  r.tx = none ∧ r.assembler = none ∧ ((r.current = .normal ∧ r.carrier = false) ∨ r.current = .selftest)

theorem Radio.canStart_iff {r : Radio} :
    r.canStart = true ↔ r.MayStart ∧ ∃ e ∈ r.queue, e.started = false := by
  have waits : (selectEntry r.queue).isSome = true ↔ ∃ e ∈ r.queue, e.started = false := by
    rw [Option.isSome_iff_ne_none, Ne, selectEntry_eq_none_iff]
    simp
  unfold Radio.canStart Radio.MayStart
  rw [Bool.and_eq_true, Bool.and_eq_true, Bool.and_eq_true, waits, Option.isNone_iff_eq_none,
    Option.isNone_iff_eq_none]
  cases r.current with
  | normal => simp; tauto
  | _ => simp

theorem exec_transmissionStart {s : State} (h : s.resetHeld = false) :
    exec .transmissionStart s = .next s.startFrame := State.unlessReset_released _ _ h

theorem State.startFrame_none {s : State} (able : ¬s.radio.canStart = true) : s.startFrame = s := by
  unfold State.startFrame
  rw [Bool.eq_false_iff.mpr able]

theorem State.startFrame_some {s : State} {e : QueueEntry} (able : s.radio.canStart = true)
    (selected : selectEntry s.radio.queue = some e) :
    s.startFrame = s.onRadio (Radio.start (s.param 2) s.carAddress e) := by
  unfold State.startFrame
  rw [able, selected]

theorem markCode_eq (b : Byte) : markCode b = if b = 0x9C then [b, b] else [b] :=
  ite_congr rfl (fun mark => by rw [mark]; rfl) fun _ => rfl

/-! ### A byte on the line (R155) -/

/-- The parity bit of a sent byte is none, or makes the number of ones even or odd (R155). -/
theorem parityBit_eq {code : Nat} (coded : code ≤ 2) (b : Byte) : parityBit code b =
    if code = 0 then none
    else some (decide ((((dataBits b).filter id).length + (code - 1)) % 2 = 1)) := by
  have ones : ((List.range 8).filter b.getLsbD).length = ((dataBits b).filter id).length := by
    rw [dataBits, List.filter_map, List.length_map]; rfl
  have odd := foldl_xor_bitsMsbFirst b false
  rw [ones] at odd
  unfold parityBit
  dsimp only
  rw [odd]
  obtain rfl | rfl | rfl : code = 0 ∨ code = 1 ∨ code = 2 := by omega
  · rfl
  · rfl
  · rw [if_neg (by decide)]
    refine congrArg some ?_
    rw [← decide_not]
    refine decide_eq_decide.mpr ?_
    simp only [Bool.toNat_false]
    omega

/-- A sent byte: one start bit, the data bits least significant first, the parity bit when there is one, and
one stop bit; its ones are even in number at code 1 and odd at code 2 (R155). -/
theorem lineByte_bits {code : Nat} (coded : code ≤ 2) (b : Byte) : ∃ parity : List Bool,
    (lineByte code b).bits = [false] ++ dataBits b ++ parity ++ [true]
      ∧ if code = 0 then parity = []
        else parity.length = 1 ∧ ((dataBits b ++ parity).filter id).length % 2 = code - 1 := by
  refine ⟨(parityBit code b).toList, rfl, ?_⟩
  rw [parityBit_eq coded]
  split
  · rfl
  · refine ⟨rfl, ?_⟩
    rw [List.filter_append, List.length_append, Option.toList_some]
    by_cases odd : (((dataBits b).filter id).length + (code - 1)) % 2 = 1 <;> simp [odd] <;> omega

/-! ### The link timer (R171, R172) -/

theorem exec_linkTimerExpiry {s : State} (h : s.resetHeld = false) : exec .linkTimerExpiry s = .next (
    if s.radio.linkTimer = none then s
    else if s.radio.link = .lost then s.onRadio fun r => { r with linkTimer := none }
    else State.evaluate ((s.onRadio fun r => { r with
      linkTimer := none, link := .lost, linkLost := true }).setFlag .link)) := by
  refine (State.unlessReset_released _ _ h).trans (congrArg Host.Outcome.next ?_)
  unfold State.setLink
  simp only [State.onRadio, show (LinkStatus.lost == .lost) = true from rfl, Bool.or_true]
  cases s.radio.linkTimer <;> rfl

/-- Settles O52: the entry that R184 selects starts where R173 allows it, and the line carries its bytes. -/
theorem transmitterStartsTheSelectedEntry : Obligations.TransmitterStartsTheSelectedEntry := by
  refine ⟨?_, ?_, ?_, fun s h => exec_linkTimerExpiry h⟩
  · intro s h r may
    constructor
    · intro idle
      have stays : ¬s.radio.canStart = true := by
        rw [Radio.canStart_iff]
        rintro ⟨able, e, member, unsent⟩
        obtain barred | sent := idle
        · exact barred able
        · cases (sent e member).symm.trans unsent
      rw [exec_transmissionStart h, State.startFrame_none stays]
    · intro k e able place unsent best content bytes
      have first : ∀ j q, r.queue[j]? = some q → j < k → q ≠ e := by
        rintro j q at_j before rfl
        obtain lower | ⟨-, after⟩ := best j q at_j unsent <;> omega
      have line : bytes = lineBytes content := by
        simp only [bytes, ← markCode_eq]
        rfl
      rw [exec_transmissionStart h, State.startFrame_some
        (Radio.canStart_iff.mpr ⟨able, e, List.mem_of_getElem? place, unsent⟩)
        (selectEntry_of_best place unsent best), line, ← markStarted_eq_set place first]
      rfl
  · intro code b coded x bits
    obtain ⟨parity, form, ones⟩ := lineByte_bits coded b
    refine ⟨parity, form, rfl, ones, ?_, byteInError_lineByte code b⟩
    have length : x.bits.length = 10 + parity.length := by
      rw [show x.bits = _ from form]
      simp [dataBits]
      omega
    rw [length]
    split at ones
    · next none_ => rw [if_pos none_, ones]; rfl
    · next some_ => rw [if_neg some_, ones.1]
  · intro level s h t
    refine (State.unlessReset_released _ _ h).trans ?_
    rw [State.judgeStart_eq_ite, exec_transmissionStart (s := t) h]
    exact apply_ite Host.Outcome.next _ _ _

end Sys2Proof.Machine
end

section
/-! The end of a transmission: the started entry leaves with its report, and the waiting items take the slot
that it frees (R164, R169, R172, R174, R176, R184, R185, R190). -/

namespace Sys2Proof.Machine

/-! ### The started entry (R172, R174, R190) -/

/-- The part once the entry at a place of the queue has ended with the frame in flight. -/
def State.entryEnded (k : Nat) (e : QueueEntry) (s : State) : State :=
  let ended := (s.onRadio fun r => { r with tx := none, key := false, queue := r.queue.eraseIdx k }).reportLeaving
    .sent e
  if e.kind = kindPositionReport ∧ carriesLinkLost e.body then
    ended.onRadio fun r => { r with linkLost := false }
  else ended

theorem State.finishTransmission_eq {s : State} (sending : s.radio.tx ≠ none) {k : Nat} {e : QueueEntry}
    (place : s.radio.queue[k]? = some e) (started : e.started = true)
    (first : ∀ j q, s.radio.queue[j]? = some q → j < k → q.started = false) :
    s.finishTransmission = s.entryEnded k e := by
  obtain ⟨x, flight⟩ := Option.ne_none_iff_exists'.mp sending
  have found := (find?_eraseP_of_first place started first).1
  have left := State.removeFirst_eq (s := s.onRadio fun r => { r with tx := none, key := false }) .sent place
    started first
  unfold State.finishTransmission State.endEntry
  simp only [flight, State.onRadio_radio, found, left]
  rfl

/-- With no line byte left to loop, the end of a transmission frees the slot at once (R169, R174, R185). -/
theorem exec_endOfTransmission {s : State} (h : s.resetHeld = false) (sending : s.radio.tx ≠ none)
    (spent : s.radio.current ≠ .selftest ∨ ∀ x, s.radio.tx = some x → x.line = []) :
    exec .endOfTransmission s = .next s.finishTransmission.placeWaiting.lineEvent := by
  obtain ⟨x, flight⟩ := Option.ne_none_iff_exists'.mp sending
  have looped : (if s.radio.current = .selftest then s.loopRest else s) = s := by
    split
    · next testing =>
      have empty := spent.resolve_left (not_not_intro testing) x flight
      rw [State.loopRest_eq_iterate flight, empty]
      rfl
    · rfl
  refine (State.unlessReset_released _ _ h).trans ?_
  rw [if_pos (by rw [flight]; rfl), State.endTransmission]
  simp only [looped]

theorem exec_endOfTransmission_idle {s : State} (idle : s.radio.tx = none) :
    exec .endOfTransmission s = .next s := by
  cases held : s.resetHeld with
  | true => exact State.unlessReset_held _ _ held
  | false =>
    refine (State.unlessReset_released _ _ held).trans ?_
    rw [idle]
    rfl

/-- What LOOPED_FRAME has looped, the end of the transmission need not (R169; log entry 19). -/
theorem exec_endOfTransmission_looped {s t : State} (testing : s.radio.current = .selftest)
    (sending : s.radio.tx ≠ none) (looped : exec .loopedFrame s = .next t) :
    t.radio.tx ≠ none ∧ exec .endOfTransmission s = exec .endOfTransmission t := by
  cases held : s.resetHeld with
  | true =>
    cases (State.unlessReset_held _ _ held).symm.trans looped
    exact ⟨sending, rfl⟩
  | false =>
    obtain ⟨x, flight⟩ := Option.ne_none_iff_exists'.mp sending
    rw [exec_loopedFrame held, if_pos testing] at looped
    cases looped
    have rest : s.loopRest.Looping { x with line := [] } := by
      have all : s.Looping { x with line := x.line } := ⟨testing, flight⟩
      rw [State.loopRest_eq_iterate flight]
      exact all.takeLooped_all
    have released : s.loopRest.resetHeld = false := (loopRest_reach s).resetHeld.trans held
    have still : s.loopRest.radio.tx ≠ none := by rw [rest.sending]; simp
    refine ⟨still, ?_⟩
    rw [exec_endOfTransmission released still (.inr fun y same => by
      cases rest.sending.symm.trans same; rfl)]
    refine (State.unlessReset_released _ _ held).trans ?_
    rw [if_pos (by rw [flight]; rfl), State.endTransmission]
    simp only [if_pos testing]

/-! ### Waiting items (R164, R176, R185) -/

theorem exec_waitingItemsPlaced {s : State} (h : s.resetHeld = false) :
    exec .waitingItemsPlaced s = .next s.placeWaiting.judgeStart := State.unlessReset_released _ _ h

/-- The pending alarm takes a free slot in NORMAL and SELFTEST (R185, R186). -/
theorem State.placePending_some {s : State} {body : List Byte} (waits : s.radio.pendingAlarm = some body) :
    s.placePending = if (s.radio.current = .normal ∨ s.radio.current = .selftest) ∧ s.radio.queue.length < 6 then
      s.onRadio fun r => { r.placeAlarm body with pendingAlarm := none } else s := by
  simp only [← LinkMode.places_iff, ← Radio.hasRoom_iff, ← Bool.and_eq_true]
  unfold State.placePending
  rw [waits]

theorem State.placePending_none {s : State} (noAlarm : s.radio.pendingAlarm = none) : s.placePending = s := by
  unfold State.placePending
  rw [noAlarm]

/-- The waiting answer takes a free slot, which finishes its processing (R176, R185). -/
theorem State.placeWaitingAnswer_some {s : State} {a : Answer} (waits : s.radio.waiting = some a) :
    s.placeWaitingAnswer
      = if (s.radio.current = .normal ∨ s.radio.current = .selftest) ∧ s.radio.queue.length < 6 then
        State.finishProcessing (s.onRadio fun r =>
          { r.place a.kind 3 .part a.destination a.body false with waiting := none }) else s := by
  simp only [← LinkMode.places_iff, ← Radio.hasRoom_iff, ← Bool.and_eq_true]
  unfold State.placeWaitingAnswer
  rw [waits]

theorem State.placeWaitingAnswer_none {s : State} (noAnswer : s.radio.waiting = none) :
    s.placeWaitingAnswer = s := by
  unfold State.placeWaitingAnswer
  rw [noAnswer]

/-- The pending alarm is of no answer and of no mode. -/
theorem State.placePending_beside (s : State) : s.placePending.radio.waiting = s.radio.waiting
    ∧ s.placePending.radio.current = s.radio.current := by
  unfold State.placePending
  split
  · split <;> exact ⟨rfl, rfl⟩
  · exact ⟨rfl, rfl⟩

/-- The finish of the frame in a buffer takes the frame that is HELD in the other one (R164). -/
theorem State.finishProcessing_eq {s : State} {k : BufId} (processing : (s.radio.buf k).state = .processing)
    (single : (s.radio.buf k.other).state ≠ .processing) :
    let freed := s.onRadio (Radio.freeBuf k)
    s.finishProcessing = if (s.radio.buf k.other).state = .held then State.takeFrames 2 k.other freed
      else freed.onRadio fun r => { r with busy := false } := by
  intro freed
  have found : s.radio.findBuf .processing = some k := by
    rw [Radio.findBuf_of_not single, BufId.other_other, if_pos processing]
  have other : freed.radio.buf k.other = s.radio.buf k.other := by cases k <;> rfl
  have free : (freed.radio.buf k).state ≠ .held := by cases k <;> simp [freed, Radio.freeBuf, Radio.setBuf,
    Radio.buf, FrameBuffer.freed]
  have next := Radio.findBuf_of_not free
  rw [other] at next
  unfold State.finishProcessing
  rw [found]
  dsimp only
  rw [show (s.onRadio (Radio.freeBuf k)).radio.findBuf .held = _ from next]
  by_cases held : (s.radio.buf k.other).state = .held
  · rw [if_pos held, if_pos held]
  · rw [if_neg held, if_neg held]

/-- Settles O53: the entry that ends, and the waiting items in the slot that it frees. -/
theorem endedTransmissionsFreeTheirSlot : Obligations.EndedTransmissionsFreeTheirSlot := by
  refine ⟨fun s => exec_endOfTransmission_idle, ?_, fun s t => exec_endOfTransmission_looped, ?_⟩
  · intro s k e h sending spent place started first sent carried ended
    have entry : s.entryEnded k e = ended := by
      unfold State.entryEnded State.reportLeaving
      simp only [ended, sent]
      by_cases lost : carried
      · rw [if_pos lost]
        refine (if_pos lost).trans ?_
        cases e.origin <;> rfl
      · rw [if_neg lost]
        refine (if_neg lost).trans ?_
        cases e.origin <;> rfl
    rw [exec_endOfTransmission h sending spent, State.finishTransmission_eq sending place started first, entry]
  · intro s r places u v
    have pending : s.placePending = u := by
      cases waits : r.pendingAlarm with
      | some body => simp only [u, waits]; exact State.placePending_some waits
      | none => simp only [u, waits]; exact State.placePending_none waits
    obtain ⟨sameAnswer, sameMode⟩ := s.placePending_beside
    rw [pending] at sameAnswer sameMode
    have waiting : s.placeWaiting = v := by
      rw [State.placeWaiting, pending]
      cases waits : r.waiting with
      | some a =>
        have answered := State.placeWaitingAnswer_some (sameAnswer.trans waits)
        rw [sameMode] at answered
        simp only [v, waits]
        exact answered
      | none => simp only [v, waits]; exact State.placeWaitingAnswer_none (sameAnswer.trans waits)
    refine ⟨waiting, fun h => ?_, fun k => State.finishProcessing_eq⟩
    have released : v.resetHeld = false := by
      rw [← waiting]
      exact (placeWaiting_reach s).messages.resetHeld.trans h
    rw [exec_waitingItemsPlaced h, State.judgeStart_eq_ite, waiting, exec_transmissionStart released]
    exact apply_ite Host.Outcome.next _ _ _

end Sys2Proof.Machine
end

section
/-! The mode change on a quiet line: the entry effects of the new mode, the waiting items that it places, and
what an evaluation and a start leave of the rest (R166 to R168, R170, R171, R173, R185, R190). -/

namespace Sys2Proof.Machine

/-! ### What an evaluation and a start leave of the receiving side -/

/-- The transmitter and the queue with its reports may differ, and nothing else. -/
def Radio.Queues (r q : Radio) : Prop := q = { r with
  tx := q.tx, key := q.key, queue := q.queue, nextHandle := q.nextHandle, pendingAlarm := q.pendingAlarm
  lastTx := q.lastTx, txSeq := q.txSeq }

theorem Radio.Queues.trans {r q p : Radio} (h : r.Queues q) (k : q.Queues p) : r.Queues p := by
  unfold Radio.Queues at *; rw [h] at k; exact k

theorem Radio.queues_startSelected (parity : Nat) (address : Byte) (r : Radio) :
    r.Queues (r.startSelected parity address) := by
  unfold Radio.startSelected; split <;> rfl

theorem Radio.queues_startIfQuiet (parity : Nat) (address : Byte) (r : Radio) :
    r.Queues (r.startIfQuiet parity address) := by
  unfold Radio.startIfQuiet
  split
  · rfl
  · exact r.queues_startSelected parity address

theorem Radio.queues_displace (r : Radio) : r.Queues r.displace := by
  unfold Radio.displace
  split
  · dsimp only
    split <;> rfl
  · rfl

theorem Radio.queues_alarmed (parity : Nat) (address : Byte) (body : List Byte) (r : Radio) :
    r.Queues (r.alarmed parity address body) := by
  have placed (q : Radio) : q.Queues (q.placeAlarm body) := rfl
  unfold Radio.alarmed
  split
  · rfl
  · split
    · exact (placed r).trans (Radio.queues_startIfQuiet _ _ _)
    · split
      · exact r.queues_displace.trans ((placed _).trans (Radio.queues_startIfQuiet _ _ _))
      · rfl

theorem State.evaluate_queues (s : State) : s.radio.Queues s.evaluate.radio := by
  rw [State.evaluate_eq]
  dsimp only
  split
  · exact Radio.queues_alarmed _ _ _ _
  · rfl

theorem State.startFrame_queues (s : State) : s.radio.Queues s.startFrame.radio := by
  rw [State.startFrame_eq]
  exact Radio.queues_startSelected _ _ _

/-- Outside NORMAL and SELFTEST an evaluation hands the radio no ALARM, and no frame starts (R173, R186). -/
theorem State.evaluate_silent {s : State} (silent : s.radio.current.places = false) :
    s.evaluate.radio = s.radio
      ∧ hasFlag s.evaluate.port.flags .txDone = hasFlag s.port.flags .txDone := by
  have dropped (parity : Nat) (address : Byte) (body : List Byte) :
      s.radio.alarmed parity address body = s.radio := by simp [Radio.alarmed, silent]
  have quiet : s.radio.alarmReports = false := by simp [Radio.alarmReports, silent]
  rw [State.evaluate_eq]
  unfold State.evaluatedFlags
  dsimp only
  constructor
  · rw [dropped, ite_self]
  · simp only [quiet, Bool.and_false, Bool.false_eq_true, if_false]
    (repeat' split) <;> simp [hasFlag_setBit]

theorem State.startFrame_silent {s : State} (silent : s.radio.current.places = false) : s.startFrame = s := by
  refine State.startFrame_none fun able => ?_
  obtain ⟨⟨-, -, mode⟩, -⟩ := Radio.canStart_iff.mp able
  rw [← Bool.not_eq_true, LinkMode.places_iff] at silent
  exact silent (mode.imp And.left id)

/-! ### The processor of a radio with no frame HELD -/

/-- The finish of a processing leaves no frame HELD where none was. -/
theorem State.finishProcessing_unheld {s : State} (unheld : ∀ i, (s.radio.buf i).state ≠ .held) (i : BufId) :
    (s.finishProcessing.radio.buf i).state ≠ .held := by
  have freed (k i : BufId) : ((s.radio.freeBuf k).buf i).state ≠ .held := by
    obtain rfl | rfl := BufId.eq_or_other k i
    · cases i <;> simp [Radio.freeBuf, Radio.setBuf, Radio.buf, FrameBuffer.freed]
    · rw [show (s.radio.freeBuf k).buf k.other = s.radio.buf k.other by cases k <;> rfl]
      exact unheld _
  have none_ {r : Radio} (unheld : ∀ i, (r.buf i).state ≠ .held) : r.findBuf .held = none :=
    Radio.findBuf_eq_none_of (unheld .buf0) (unheld .buf1)
  have idle {r : Radio} : ({ r with busy := false } : Radio).buf i = r.buf i := by cases i <;> rfl
  unfold State.finishProcessing
  cases s.radio.findBuf .processing with
  | some k =>
    have next : (s.onRadio (Radio.freeBuf k)).radio.findBuf .held = none := none_ (freed k)
    dsimp only
    rw [next]
    simp only [State.onRadio_radio, idle]
    exact freed k i
  | none =>
    dsimp only
    rw [none_ unheld]
    simp only [State.onRadio_radio, idle]
    exact unheld i

/-! ### Waiting items (R185) -/

theorem State.beside_placePending (s : State) : s.Beside s.placePending := by
  unfold State.placePending
  split
  · split
    · exact { radio := { loaded := fun _ => Radio.loaded_place _ _ _ _ _ _ s.radio } }
    · exact .refl s
  · exact .refl s

theorem State.beside_placeWaitingAnswer (s : State) : s.Beside s.placeWaitingAnswer := by
  unfold State.placeWaitingAnswer
  split
  · next a _ =>
    split
    · have placed : s.Beside (s.onRadio fun r =>
          { r.place a.kind 3 .part a.destination a.body false with waiting := none }) :=
        { radio := { loaded := fun _ => Radio.loaded_place _ _ _ _ _ _ s.radio } }
      exact placed.trans (State.beside_finishProcessing _)
    · exact .refl s
  · exact .refl s

theorem State.beside_placeWaiting (s : State) : s.Beside s.placeWaiting :=
  s.beside_placePending.trans (State.beside_placeWaitingAnswer _)

/-- The entry of the pending alarm, where a slot takes it (R185, R186). -/
def Radio.pendingEntry (r : Radio) : List QueueEntry :=
  match r.pendingAlarm with
  | some body => if (r.current = .normal ∨ r.current = .selftest) ∧ r.queue.length < 6
      then [⟨r.nextHandle, 0x44, 2, .part, 0, body, false, false⟩] else []
  | none => []

/-- The radio with the pending alarm placed, where a slot takes it (R185). -/
def Radio.alarmPlaced (r : Radio) (alarm : List QueueEntry) : Radio := { r with
  queue := r.queue ++ alarm, nextHandle := (r.nextHandle + alarm.length) % 256
  pendingAlarm := if alarm = [] then r.pendingAlarm else none }

theorem State.placePending_eq {s : State} (handle : s.radio.nextHandle < 256) :
    s.placePending = s.onRadio fun r => r.alarmPlaced r.pendingEntry := by
  have stays : s.onRadio (fun r => r.alarmPlaced []) = s := by
    simp only [State.onRadio, Radio.alarmPlaced, List.append_nil, List.length_nil, Nat.add_zero,
      Nat.mod_eq_of_lt handle, if_true]
  cases waits : s.radio.pendingAlarm with
  | none =>
    have alarm : s.radio.pendingEntry = [] := by rw [Radio.pendingEntry, waits]
    rw [State.placePending_none waits]
    simp only [State.onRadio, alarm]
    exact stays.symm
  | some body =>
    rw [State.placePending_some waits]
    split
    · next able =>
      have alarm : s.radio.pendingEntry = [⟨s.radio.nextHandle, 0x44, 2, .part, 0, body, false, false⟩] := by
        rw [Radio.pendingEntry, waits]; exact if_pos able
      simp only [State.onRadio, alarm]
      rfl
    · next full =>
      have alarm : s.radio.pendingEntry = [] := by rw [Radio.pendingEntry, waits]; exact if_neg full
      simp only [State.onRadio, alarm]
      exact stays.symm

/-! ### The entry effects (R168) -/

/-- With no frame in flight, OFF and CONFIG leave the queue empty and the buffers FREE (R168, R190). -/
theorem State.enterQuietMode_eq {s : State} (sequence : s.radio.txSeq < 256)
    (unsent : ∀ e ∈ s.radio.queue, e.started = false) (unassembled : ∀ i, (s.radio.buf i).state ≠ .assembling) :
    s.enterQuietMode = (s.reportHosts .discarded
      (s.radio.queue.filter fun e => decide (e.origin = .vehicle))).onRadio fun r => { r with
        queue := [], pendingAlarm := none, waiting := none, busy := false
        buf0 := ⟨.free, []⟩, buf1 := ⟨.free, []⟩ } := by
  have all : s.radio.queue.filter (fun e => !e.started) = s.radio.queue :=
    List.filter_eq_self.mpr fun e he => by simp [unsent e he]
  have none_ : s.radio.queue.filter (fun e => !!e.started) = [] :=
    List.filter_eq_nil_iff.mpr fun e he => by simp [unsent e he]
  have free0 : ¬s.radio.buf0.state = .assembling := unassembled .buf0
  have free1 : ¬s.radio.buf1.state = .assembling := unassembled .buf1
  unfold State.enterQuietMode
  simp only [State.removeEntries_eq _ _ sequence, all]
  simp only [State.reportHosts, State.onRadio, none_, if_neg free0, if_neg free1, FrameBuffer.freed]

/-- At most one frame is HELD, so discarding it frees every HELD buffer (R164, R168). -/
theorem Radio.discardHeld_eq {r : Radio} (single : r.buf0.state = .held → r.buf1.state ≠ .held) :
    r.discardHeld = { r with
      buf0 := if r.buf0.state = .held then ⟨.free, []⟩ else r.buf0
      buf1 := if r.buf1.state = .held then ⟨.free, []⟩ else r.buf1 } := by
  unfold Radio.discardHeld Radio.findBuf
  by_cases held0 : r.buf0.state = .held
  · simp only [if_pos held0, if_neg (single held0)]; rfl
  · by_cases held1 : r.buf1.state = .held
    · simp only [if_neg held0, if_pos held1]; rfl
    · simp only [if_neg held0, if_neg held1]

/-- The current mode becomes the requested one, RADIO is set, and the link timer stops (R167, R168). -/
def State.requestedTaken (s : State) : State :=
  (s.onRadio fun r => { r with current := s.radio.requested, markLatch := false, linkTimer := none }).setFlag
    .radio

/-- The current mode becomes the requested one, with its entry effects but for those on the link (R168). -/
def State.enterRequested (s : State) : State :=
  if s.radio.requested = .off ∨ s.radio.requested = .config then s.requestedTaken.enterQuietMode
  else if discardsHeld s.radio.current s.radio.requested then s.requestedTaken.onRadio Radio.discardHeld
  else s.requestedTaken

/-- The link is lost, with its latch and its flag where it was OK (R168, R171). -/
def State.linkDropped (s : State) : State :=
  let lost := decide (s.radio.link = .ok)
  (s.onRadio fun r => { r with link := .lost, linkLost := r.linkLost || lost }).setFlagIf lost .link

theorem State.changeMode_eq (s : State) : s.changeMode
    = (s.enterRequested.linkDropped.placeWaiting.evaluateIf
        (decide (s.enterRequested.radio.link = .ok))).startFrame := rfl

theorem State.changeMode_requested (s : State) : s.changeMode.radio.requested = s.radio.requested
    ∧ s.changeMode.radio.current = s.radio.requested := by
  have entered : s.enterRequested.radio.requested = s.radio.requested
      ∧ s.enterRequested.radio.current = s.radio.requested := by
    unfold State.enterRequested
    split
    · have left : ∀ u : State, u.enterQuietMode.radio.requested = u.radio.requested
          ∧ u.enterQuietMode.radio.current = u.radio.current := fun u => by
        have sends : u.radio.Sends (u.removeEntries (fun e => !e.started) .discarded).radio :=
          Radio.Sends.removeEntries (.refl _) (fun e unsent => by simpa using unsent) _
        exact ⟨sends.rest.requested, sends.rest.current⟩
      exact left _
    · split
      · unfold Radio.discardHeld
        dsimp only [State.onRadio_radio]
        split
        · next i _ => cases i <;> exact ⟨rfl, rfl⟩
        · exact ⟨rfl, rfl⟩
      · exact ⟨rfl, rfl⟩
  have dropped : s.enterRequested.linkDropped.radio.requested = s.enterRequested.radio.requested
      ∧ s.enterRequested.linkDropped.radio.current = s.enterRequested.radio.current := by
    unfold State.linkDropped
    dsimp only
    rw [State.setFlagIf_radio]
    exact ⟨rfl, rfl⟩
  have later := (((State.beside_placeWaiting s.enterRequested.linkDropped).trans
    (State.beside_evaluateIf (decide (s.enterRequested.radio.link = .ok)) _)).trans
    (State.beside_startFrame _)).radio
  rw [State.changeMode_eq]
  exact ⟨later.requested.trans (dropped.1.trans entered.1), later.current.trans (dropped.2.trans entered.2)⟩

end Sys2Proof.Machine
end

section
/-! RADIO_MODE, MODE_CHANGE and the events of a quiet line, and the mode change as the rules write it out (R166
to R168, R170, R171, R173, R185, R190). -/

namespace Sys2Proof.Machine

/-! ### The request and the events of the line (R166, R167) -/

theorem Radio.changeWaits_iff {r : Radio} : r.changeWaits = true ↔ r.requested ≠ r.current := by
  simp [Radio.changeWaits]

theorem Radio.quiet_iff {r : Radio} : r.quiet = true ↔ r.assembler = none ∧ r.tx = none := by
  simp [Radio.quiet]

theorem State.judgeMode_eq (s : State) : s.judgeMode =
    if s.radio.requested ≠ s.radio.current ∧ s.radio.assembler = none ∧ s.radio.tx = none then s.changeMode
    else s := by
  simp only [← Radio.changeWaits_iff, ← Radio.quiet_iff, ← Bool.and_eq_true]
  rfl

theorem modeOfCode_of_le {b : Byte} (known : b.toNat ≤ 4) :
    let m := [LinkMode.off, .config, .normal, .listen, .selftest].getD b.toNat .off
    modeOfCode b = some m ∧ modeCode m = b.toNat := by
  unfold modeOfCode
  generalize b.toNat = n at known
  match n with
  | 0 | 1 | 2 | 3 | 4 => exact ⟨rfl, rfl⟩
  | n + 5 => omega

theorem modeOfCode_of_lt {b : Byte} (unknown : 4 < b.toNat) : modeOfCode b = none := by
  unfold modeOfCode
  generalize b.toNat = n at unknown
  match n with
  | 0 | 1 | 2 | 3 | 4 => omega
  | n + 5 => rfl

theorem State.judgeMode_requested (s : State) : s.judgeMode.radio.requested = s.radio.requested := by
  unfold State.judgeMode
  split
  · exact s.changeMode_requested.1
  · rfl

theorem exec_radioMode {mode : Byte} {s : State} (h : s.Takes (.radioMode mode)) :
    exec (.radioMode mode) s = .next (match modeOfCode mode with
      | none => s.answers (.radioMode mode) .badValue []
      | some m =>
        let t := (s.onRadio fun r => { r with requested := m }).judgeMode
        t.answers (.radioMode mode) .ok (u8 (modeCode t.radio.requested) ++ u8 (modeCode t.radio.current))) := by
  refine (hostRequest_taken _ h).trans ?_
  cases modeOfCode mode <;> rfl

/-- On a quiet line with a change waiting, a start that is possible may be taken first (R167; log entry 14). -/
theorem State.lineEvent_due {s : State} (waits : s.radio.requested ≠ s.radio.current)
    (quiet : s.radio.assembler = none ∧ s.radio.tx = none) :
    let u : State := { s with free := s.free + 1 }
    s.lineEvent = if s.radio.canStart = true then
        (if Config.transmitterFirst s.free = true then u.startFrame else u.changeMode)
      else s.changeMode := by
  have due : (s.radio.changeWaits && s.radio.quiet) = true :=
    Bool.and_eq_true_iff.mpr ⟨Radio.changeWaits_iff.mpr waits, Radio.quiet_iff.mpr quiet⟩
  exact if_pos due

theorem State.lineEvent_not_due {s : State}
    (stays : ¬(s.radio.requested ≠ s.radio.current ∧ s.radio.assembler = none ∧ s.radio.tx = none)) :
    s.lineEvent = if s.radio.requested = s.radio.current then s.startFrame else s := by
  have stays : ¬(s.radio.changeWaits && s.radio.quiet) = true := by
    rw [Bool.and_eq_true, Radio.changeWaits_iff, Radio.quiet_iff]; exact stays
  exact (if_neg stays).trans s.judgeStart_eq_ite

/-! ### The entry to the new mode (R168) -/

theorem State.linkDropped_eq (s : State) : s.linkDropped = { s with
    port := { s.port with flags :=
      if s.radio.link = .ok then setBit s.port.flags .link else s.port.flags }
    radio := { s.radio with link := .lost, linkLost := s.radio.linkLost || decide (s.radio.link = .ok) } } := by
  unfold State.linkDropped
  by_cases ok : s.radio.link = .ok <;> simp only [ok] <;> rfl

theorem discardsHeld_iff {old new : LinkMode} : discardsHeld old new = true
    ↔ new = .selftest ∨ (old = .selftest ∧ (new = .normal ∨ new = .listen)) := by
  simp [discardsHeld]

/-- While the transmitter is IDLE every entry of a good queue is unsent (R174). -/
theorem Radio.QueueGood.unsent {r : Radio} (good : r.QueueGood) (idle : r.tx = none) :
    ∀ e ∈ r.queue, e.started = false := by
  obtain ⟨-, -, -, inFlight, -⟩ := good
  rw [idle] at inFlight
  have none_ : r.queue.filter QueueEntry.started = [] := by simpa using inFlight
  exact fun e he => Bool.eq_false_iff.mpr (List.filter_eq_nil_iff.mp none_ e he)

theorem Radio.BuffersGood.unassembled {r : Radio} (good : r.BuffersGood) (outside : r.assembler = none)
    (i : BufId) : (r.buf i).state ≠ .assembling := by
  obtain ⟨-, -, each, -⟩ := good
  intro assembling
  cases outside.symm.trans ((each i (mem_bothBuffers i)).1.mp assembling)

/-- A frame is HELD behind one that is being processed (R163). -/
theorem Radio.BuffersGood.single_held {r : Radio} (good : r.BuffersGood) (held : r.buf0.state = .held) :
    r.buf1.state ≠ .held := by
  obtain ⟨-, -, each, -⟩ := good
  intro again
  have processing : r.buf1.state = .processing := (each .buf0 (by simp)).2.1 held
  cases processing.symm.trans again

/-- A mode that discards what waits: OFF and CONFIG (R168). -/
abbrev LinkMode.Quiets (m : LinkMode) : Prop := m = .off ∨ m = .config

/-- A change that discards a HELD frame: into SELFTEST and out of it (R168). -/
abbrev LinkMode.Discards (old new : LinkMode) : Prop :=
  new = .selftest ∨ (old = .selftest ∧ (new = .normal ∨ new = .listen))

/-- A buffer after the entry to a mode (R168). -/
def FrameBuffer.entered (old new : LinkMode) (b : FrameBuffer) : FrameBuffer :=
  if new.Quiets ∨ (LinkMode.Discards old new ∧ b.state = .held) then ⟨.free, []⟩ else b

/-- The radio as the new mode is entered, before waiting items are placed (R168, R171, R190). -/
def Radio.entered (r : Radio) : Radio :=
  let hosts := r.queue.filter fun e => decide (e.origin = .vehicle)
  let entered : Radio := { r with
    current := r.requested, markLatch := false, linkTimer := none, link := .lost
    linkLost := r.linkLost || decide (r.link = .ok)
    buf0 := r.buf0.entered r.current r.requested, buf1 := r.buf1.entered r.current r.requested }
  if r.requested.Quiets then { entered with
      queue := [], pendingAlarm := none, waiting := none, busy := false
      lastTx := (hosts.getLast?.map fun e => (⟨e.handle, .discarded⟩ : LastTx)).or entered.lastTx
      txSeq := (entered.txSeq + hosts.length) % 256 }
  else entered

theorem Radio.entered_of_loud {r : Radio} (loud : ¬r.requested.Quiets) : r.entered = { r with
    current := r.requested, markLatch := false, linkTimer := none, link := .lost
    linkLost := r.linkLost || decide (r.link = .ok)
    buf0 := r.buf0.entered r.current r.requested, buf1 := r.buf1.entered r.current r.requested } :=
  if_neg loud

/-- The flags as the new mode is entered (R168, R171, R190). -/
def State.enteredFlags (s : State) : BitVec 15 :=
  let flags := setBit s.port.flags .radio
  let flags := if s.radio.link = .ok then setBit flags .link else flags
  if s.radio.requested.Quiets ∧ 0 < (s.radio.queue.filter fun e => decide (e.origin = .vehicle)).length then
    setBit flags .txDone
  else flags

/-- The part as the new mode is entered. -/
def State.modeEntered (s : State) : State :=
  { s with port := { s.port with flags := s.enteredFlags }, radio := s.radio.entered }

section

variable {s : State} (buffers : s.radio.BuffersGood) (queue : s.radio.QueueGood)
  (sequence : s.radio.txSeq < 256) (outside : s.radio.assembler = none) (idle : s.radio.tx = none)
include buffers queue sequence outside idle

theorem State.enterRequested_linkDropped :
    s.enterRequested.linkDropped = s.modeEntered ∧ s.enterRequested.radio.link = s.radio.link := by
  have unsent := queue.unsent idle
  by_cases quiets : s.radio.requested.Quiets
  · have form : s.enterRequested = s.requestedTaken.enterQuietMode := if_pos quiets
    rw [State.enterQuietMode_eq (s := s.requestedTaken) sequence unsent fun i => by
      have other := buffers.unassembled outside i
      cases i <;> exact other] at form
    have freed (b : FrameBuffer) : b.entered s.radio.current s.radio.requested = ⟨.free, []⟩ :=
      if_pos (.inl quiets)
    have radio : s.radio.entered = _ := if_pos quiets
    refine ⟨?_, by rw [form]; rfl⟩
    rw [form, State.linkDropped_eq, State.modeEntered, radio, freed, freed]
    have flags : s.enteredFlags = if s.radio.link = .ok then setBit (if (s.radio.queue.filter fun e =>
        decide (e.origin = .vehicle)) = [] then setBit s.port.flags .radio
        else setBit (setBit s.port.flags .radio) .txDone) .link
        else if (s.radio.queue.filter fun e => decide (e.origin = .vehicle)) = [] then
          setBit s.port.flags .radio else setBit (setBit s.port.flags .radio) .txDone := by
      unfold State.enteredFlags
      dsimp only
      by_cases none_ : (s.radio.queue.filter fun e => decide (e.origin = .vehicle)) = []
      · rw [if_neg fun h => (List.length_pos_iff.mp h.2) none_, if_pos none_]
      · rw [if_pos ⟨quiets, List.length_pos_iff.mpr none_⟩, if_neg none_]
        split
        · exact setBit_comm _ _ _
        · rfl
    rw [flags]
    rfl
  · have flags : s.enteredFlags = if s.radio.link = .ok then setBit (setBit s.port.flags .radio) .link
        else setBit s.port.flags .radio := if_neg fun h => quiets h.1
    by_cases discards : LinkMode.Discards s.radio.current s.radio.requested
    · have form : s.enterRequested = s.requestedTaken.onRadio Radio.discardHeld :=
        (if_neg quiets).trans (if_pos (discardsHeld_iff.mpr discards))
      have freed (b : FrameBuffer) : b.entered s.radio.current s.radio.requested
          = if b.state = .held then ⟨.free, []⟩ else b := by
        unfold FrameBuffer.entered
        simp [quiets, discards]
      rw [State.onRadio, Radio.discardHeld_eq (r := s.requestedTaken.radio) buffers.single_held] at form
      refine ⟨?_, by rw [form]; rfl⟩
      rw [form, State.linkDropped_eq, State.modeEntered, flags, Radio.entered_of_loud quiets, freed, freed]
      rfl
    · have form : s.enterRequested = s.requestedTaken :=
        (if_neg quiets).trans (if_neg (discardsHeld_iff.not.mpr discards))
      have kept (b : FrameBuffer) : b.entered s.radio.current s.radio.requested = b := by
        unfold FrameBuffer.entered
        simp [quiets, discards]
      refine ⟨?_, by rw [form]; rfl⟩
      rw [form, State.linkDropped_eq, State.modeEntered, flags, Radio.entered_of_loud quiets, kept, kept]
      rfl

end

/-! ### What the entry leaves -/

theorem State.modeEntered_radio (s : State) : s.modeEntered.radio.current = s.radio.requested
    ∧ s.modeEntered.radio.requested = s.radio.requested ∧ s.modeEntered.radio.markLatch = false
    ∧ s.modeEntered.radio.linkTimer = none ∧ s.modeEntered.radio.link = .lost
    ∧ s.modeEntered.radio.linkLost = (s.radio.linkLost || decide (s.radio.link = .ok))
    ∧ s.modeEntered.radio.nextHandle = s.radio.nextHandle
    ∧ s.modeEntered.radio.assembler = s.radio.assembler
    ∧ s.modeEntered.radio.carrier = s.radio.carrier ∧ s.modeEntered.radio.tx = s.radio.tx := by
  unfold State.modeEntered Radio.entered
  dsimp only
  split <;> exact ⟨rfl, rfl, rfl, rfl, rfl, rfl, rfl, rfl, rfl, rfl⟩

theorem State.modeEntered_flags (s : State) : hasFlag s.modeEntered.port.flags .radio = true
    ∧ hasFlag s.modeEntered.port.flags .link = (hasFlag s.port.flags .link || decide (s.radio.link = .ok))
    ∧ hasFlag s.modeEntered.port.flags .txDone = (hasFlag s.port.flags .txDone
      || decide (s.radio.requested.Quiets
        ∧ 0 < (s.radio.queue.filter fun e => decide (e.origin = .vehicle)).length)) := by
  unfold State.modeEntered State.enteredFlags
  dsimp only
  refine ⟨?_, ?_, ?_⟩ <;> split <;> split <;> simp_all [hasFlag_setBit]

/-- A discarded HELD frame leaves none (R168). -/
theorem State.modeEntered_unheld {s : State} (discards : LinkMode.Discards s.radio.current s.radio.requested)
    (i : BufId) : (s.modeEntered.radio.buf i).state ≠ .held := by
  have unheld (b : FrameBuffer) : (b.entered s.radio.current s.radio.requested).state ≠ .held := by
    unfold FrameBuffer.entered
    split
    · simp
    · next kept => exact fun held => kept (.inr ⟨discards, held⟩)
  unfold State.modeEntered Radio.entered
  dsimp only
  split <;> cases i <;> exact unheld _

/-! ### The waiting items at the entry (R185) -/

/-- The waiting answer stays where none waits or no slot takes it. -/
theorem State.placeWaiting_stays {u : State} (handle : u.radio.nextHandle < 256)
    (stays : ¬(u.radio.waiting.isSome = true ∧ (u.radio.current = .normal ∨ u.radio.current = .selftest)
      ∧ (u.radio.alarmPlaced u.radio.pendingEntry).queue.length < 6)) :
    u.placeWaiting = u.onRadio fun r => r.alarmPlaced r.pendingEntry := by
  rw [State.placeWaiting, State.placePending_eq handle]
  cases waits : u.radio.waiting with
  | none => exact State.placeWaitingAnswer_none waits
  | some a =>
    refine (State.placeWaitingAnswer_some (s := u.onRadio fun r => r.alarmPlaced r.pendingEntry) waits).trans ?_
    exact if_neg fun room => stays ⟨by rw [waits]; rfl, room⟩

theorem State.placeWaiting_answers {u : State} (handle : u.radio.nextHandle < 256) {a : Answer}
    (waits : u.radio.waiting = some a) :
    let w := u.radio.alarmPlaced u.radio.pendingEntry
    u.placeWaiting = if (u.radio.current = .normal ∨ u.radio.current = .selftest) ∧ w.queue.length < 6 then
        State.finishProcessing { u with radio :=
          { w.place a.kind 3 .part a.destination a.body false with waiting := none } }
      else { u with radio := w } := by
  rw [State.placeWaiting, State.placePending_eq handle]
  exact State.placeWaitingAnswer_some (s := u.onRadio fun r => r.alarmPlaced r.pendingEntry) waits

theorem State.placeWaiting_unheld {u : State} (handle : u.radio.nextHandle < 256)
    (unheld : ∀ i, (u.radio.buf i).state ≠ .held) (i : BufId) : (u.placeWaiting.radio.buf i).state ≠ .held := by
  cases waits : u.radio.waiting with
  | none =>
    rw [State.placeWaiting_stays handle (by simp [waits])]
    have none_ := unheld i
    cases i <;> exact none_
  | some a =>
    rw [State.placeWaiting_answers handle waits]
    dsimp only
    split
    · exact State.finishProcessing_unheld (fun k => by have none_ := unheld k; cases k <;> exact none_) i
    · have none_ := unheld i
      cases i <;> exact none_

/-- Outside NORMAL and SELFTEST no waiting item is placed (R183, R185). -/
theorem State.placeWaiting_silent {u : State} (handle : u.radio.nextHandle < 256)
    (silent : u.radio.current.places = false) : u.placeWaiting = u := by
  have mode : ¬(u.radio.current = .normal ∨ u.radio.current = .selftest) := by
    rw [← LinkMode.places_iff, silent]; decide
  rw [State.placeWaiting_stays handle fun h => mode h.2.1, ← State.placePending_eq handle]
  unfold State.placePending
  split
  · rw [silent]; rfl
  · rfl

section

variable {s : State} (buffers : s.radio.BuffersGood) (queue : s.radio.QueueGood)
  (sequence : s.radio.txSeq < 256) (outside : s.radio.assembler = none) (idle : s.radio.tx = none)
include buffers queue sequence outside idle

/-- A mode change on a quiet line: the entry, the waiting items, the evaluation of a lost link, and the start
(R167, R168, R171, R185). -/
theorem State.changeMode_entered : s.changeMode
    = (s.modeEntered.placeWaiting.evaluateIf (decide (s.radio.link = .ok))).startFrame := by
  obtain ⟨dropped, link⟩ := State.enterRequested_linkDropped buffers queue sequence outside idle
  rw [State.changeMode_eq, dropped, link]

omit buffers sequence outside idle in
theorem State.modeEntered_handle : s.modeEntered.radio.nextHandle < 256 := by
  obtain ⟨-, -, -, -, -, -, handle, -⟩ := s.modeEntered_radio
  rw [handle]
  exact queue.2.1

theorem State.beside_changeMode : s.modeEntered.Beside s.changeMode := by
  rw [State.changeMode_entered buffers queue sequence outside idle]
  exact ((State.beside_placeWaiting _).trans (State.beside_evaluateIf _ _)).trans (State.beside_startFrame _)

theorem State.changeMode_queues : s.modeEntered.placeWaiting.radio.Queues s.changeMode.radio := by
  rw [State.changeMode_entered buffers queue sequence outside idle]
  refine Radio.Queues.trans ?_ (State.startFrame_queues _)
  unfold State.evaluateIf
  split
  · exact State.evaluate_queues _
  · rfl

/-- Outside NORMAL and SELFTEST the entry is all that a mode change does to the radio (R168, R173). -/
theorem State.changeMode_silent (silent : s.radio.requested.places = false) :
    s.changeMode.radio = s.modeEntered.radio
      ∧ hasFlag s.changeMode.port.flags .txDone = hasFlag s.modeEntered.port.flags .txDone := by
  obtain ⟨current, -⟩ := s.modeEntered_radio
  rw [← current] at silent
  have kept := State.evaluate_silent silent
  rw [State.changeMode_entered buffers queue sequence outside idle,
    State.placeWaiting_silent (State.modeEntered_handle queue) silent]
  unfold State.evaluateIf
  split
  · rw [State.startFrame_silent (by rw [kept.1]; exact silent)]
    exact kept
  · rw [State.startFrame_silent silent]
    exact ⟨rfl, rfl⟩

/-- A change that discards a HELD frame leaves none (R168). -/
theorem State.changeMode_unheld (discards : LinkMode.Discards s.radio.current s.radio.requested) (i : BufId) :
    (s.changeMode.radio.buf i).state ≠ .held := by
  have placed := State.placeWaiting_unheld (State.modeEntered_handle queue)
    (State.modeEntered_unheld discards) i
  have same : s.changeMode.radio.buf i = s.modeEntered.placeWaiting.radio.buf i := by
    have queues := State.changeMode_queues buffers queue sequence outside idle
    unfold Radio.Queues at queues
    rw [queues]
    cases i <;> rfl
  rw [same]
  exact placed

/-- In NORMAL on a low CARRIER, and in SELFTEST, a queue that is not empty starts a frame (R168, R173). -/
theorem State.changeMode_starts
    (able : (s.radio.requested = .normal ∧ s.radio.carrier = false) ∨ s.radio.requested = .selftest)
    (some_ : s.radio.queue ≠ []) : s.changeMode.radio.tx ≠ none := by
  obtain ⟨current, -, -, -, -, -, -, assembler, carrier, tx⟩ := s.modeEntered_radio
  have loud : ¬s.radio.requested.Quiets := by
    obtain ⟨normal, -⟩ | selftest := able
    · rw [normal]; decide
    · rw [selftest]; decide
  have entered : s.modeEntered.radio = _ := Radio.entered_of_loud loud
  have kept : s.modeEntered.radio.queue = s.radio.queue := by rw [entered]
  have loaded : s.modeEntered.radio.Loaded := by
    obtain ⟨e, rest, form⟩ := List.exists_cons_of_ne_nil some_
    have member : e ∈ s.radio.queue := by rw [form]; exact List.mem_cons_self
    exact .inr ⟨e, kept ▸ member, queue.unsent idle e member⟩
  have beside := (State.beside_placeWaiting s.modeEntered).trans
    (State.beside_evaluateIf (decide (s.radio.link = .ok)) _)
  rw [State.changeMode_entered buffers queue sequence outside idle]
  generalize s.modeEntered.placeWaiting.evaluateIf (decide (s.radio.link = .ok)) = v at beside
  rw [← Option.isSome_iff_ne_none]
  cases flight : v.radio.tx with
  | some x =>
    rw [State.startFrame_of_sending (by rw [flight]; rfl), flight]
    rfl
  | none =>
    refine State.startFrame_starts (Radio.canStart_iff.mpr ⟨⟨flight, ?_, ?_⟩, ?_⟩)
    · rw [beside.radio.assembler, assembler, outside]
    · rw [beside.radio.current, beside.radio.carrier, current, carrier]
      exact able
    · exact (beside.radio.loaded loaded).resolve_left (by rw [flight]; simp)

/-- Where no answer is placed and no frame discarded, the receiving side, the mailbox and the table stand as
they were (R168). -/
theorem State.changeMode_keeps (loud : ¬s.radio.requested.Quiets)
    (keeps : ¬LinkMode.Discards s.radio.current s.radio.requested)
    (stays : ¬(s.radio.waiting.isSome = true ∧ (s.radio.requested = .normal ∨ s.radio.requested = .selftest)
      ∧ (s.modeEntered.radio.alarmPlaced s.modeEntered.radio.pendingEntry).queue.length < 6)) :
    s.changeMode.radio.buf0 = s.radio.buf0 ∧ s.changeMode.radio.buf1 = s.radio.buf1
      ∧ s.changeMode.radio.busy = s.radio.busy ∧ s.changeMode.radio.mailbox = s.radio.mailbox
      ∧ s.changeMode.table = s.table := by
  have entered : s.modeEntered.radio = _ := Radio.entered_of_loud loud
  have kept (b : FrameBuffer) : b.entered s.radio.current s.radio.requested = b :=
    if_neg (by rintro (quiets | ⟨discards, -⟩); exacts [loud quiets, keeps discards])
  rw [kept, kept] at entered
  obtain ⟨current, -⟩ := s.modeEntered_radio
  have waits : s.modeEntered.radio.waiting = s.radio.waiting := by rw [entered]
  have placed := State.placeWaiting_stays (State.modeEntered_handle queue) (by rw [waits, current]; exact stays)
  have queues := State.changeMode_queues buffers queue sequence outside idle
  have table : s.changeMode.table = s.modeEntered.placeWaiting.table := by
    rw [State.changeMode_entered buffers queue sequence outside idle]
    exact ((startFrame_reach _).supervision.table_eq).trans (evaluateIf_reach _ _).table_eq
  rw [placed] at table queues
  have same : (s.modeEntered.onRadio fun r => r.alarmPlaced r.pendingEntry).radio
      = s.modeEntered.radio.alarmPlaced s.modeEntered.radio.pendingEntry := rfl
  unfold Radio.Queues at queues
  rw [queues, same, entered]
  exact ⟨rfl, rfl, rfl, rfl, table⟩

end

end Sys2Proof.Machine
end

section
/-! The mode change in the modes that start nothing, and the theorem that settles it (R166 to R168, R170, R171,
R173, R185, R190). -/

namespace Sys2Proof.Machine

section

variable {s : State} (buffers : s.radio.BuffersGood) (queue : s.radio.QueueGood)
  (sequence : s.radio.txSeq < 256) (outside : s.radio.assembler = none) (idle : s.radio.tx = none)
include buffers queue sequence outside idle

/-- OFF and CONFIG discard all that waits (R168, R190). -/
theorem State.changeMode_quiets (quiet : s.radio.requested.Quiets) :
    let t := s.changeMode
    let vehicles := (s.radio.queue.filter fun e => decide (e.origin = .vehicle)).length
    t.radio.queue = [] ∧ t.radio.pendingAlarm = none ∧ t.radio.waiting = none ∧ t.radio.busy = false
      ∧ t.radio.buf0 = ⟨.free, []⟩ ∧ t.radio.buf1 = ⟨.free, []⟩ ∧ t.radio.tx = none
      ∧ t.radio.txSeq = (s.radio.txSeq + vehicles) % 256
      ∧ hasFlag t.port.flags .txDone = (hasFlag s.port.flags .txDone || decide (0 < vehicles)) := by
  intro t vehicles
  have silent : s.radio.requested.places = false := by
    obtain off | config := quiet
    · rw [off]; rfl
    · rw [config]; rfl
  obtain ⟨-, -, flag⟩ := s.modeEntered_flags
  obtain ⟨radio, same⟩ := State.changeMode_silent buffers queue sequence outside idle silent
  have freed (b : FrameBuffer) : b.entered s.radio.current s.radio.requested = ⟨.free, []⟩ :=
    if_pos (.inl quiet)
  have form : t.radio = _ := radio.trans (if_pos quiet)
  rw [same, flag, form]
  refine ⟨rfl, rfl, rfl, rfl, freed _, freed _, idle, rfl, ?_⟩
  rw [decide_eq_decide.mpr (and_iff_right quiet)]

/-- LISTEN keeps the queue and what waits, and starts no frame (R168). -/
theorem State.changeMode_listens (listen : s.radio.requested = .listen) :
    let t := s.changeMode
    t.radio.queue = s.radio.queue ∧ t.radio.tx = none ∧ t.radio.waiting = s.radio.waiting
      ∧ t.radio.pendingAlarm = s.radio.pendingAlarm := by
  intro t
  obtain ⟨radio, -⟩ := State.changeMode_silent buffers queue sequence outside idle (by rw [listen]; rfl)
  have form : t.radio = _ := radio.trans (Radio.entered_of_loud (by rw [listen]; decide))
  rw [form]
  exact ⟨rfl, idle, rfl, rfl⟩

end

/-- The entry of the pending alarm is the one that the unentered radio gives in the new mode. -/
theorem State.modeEntered_pendingEntry (s : State) : s.modeEntered.radio.pendingEntry
    = ({ s.radio with current := s.radio.requested } : Radio).pendingEntry := by
  by_cases quiets : s.radio.requested.Quiets
  · have unplaced : ¬(s.radio.requested = .normal ∨ s.radio.requested = .selftest) := by
      obtain off | config := quiets
      · rw [off]; decide
      · rw [config]; decide
    have radio : s.modeEntered.radio = _ := if_pos quiets
    rw [radio]
    unfold Radio.pendingEntry
    simp only [unplaced, false_and, if_false]
    split <;> rfl
  · have radio : s.modeEntered.radio = _ := Radio.entered_of_loud quiets
    rw [radio]
    rfl

/-- Settles O50: the mode change of `State.changeMode_entered`, with what its waiting items, its evaluation and
its start leave of the entry. -/
theorem modeChangesTakeTheirEntryEffects : Obligations.ModeChangesTakeTheirEntryEffects := by
  refine ⟨?_, ?_, ?_⟩
  · intro mode s i new u t h
    have changed : u.judgeMode = t := State.judgeMode_eq u
    rw [exec_radioMode h]
    by_cases known : mode.toNat ≤ 4
    · obtain ⟨named, code⟩ := modeOfCode_of_le known
      have requested : t.radio.requested = new := by rw [← changed]; exact u.judgeMode_requested
      rw [if_neg (by omega), named]
      refine congrArg Host.Outcome.next ?_
      show State.answers i .ok (u8 (modeCode u.judgeMode.radio.requested)
        ++ u8 (modeCode u.judgeMode.radio.current)) u.judgeMode = _
      rw [changed, requested, code]
    · rw [if_pos (by omega), modeOfCode_of_lt (by omega)]
  · intro s waits quiet u
    refine ⟨fun h => ?_, fun due still able => ?_, fun due still barred => ?_, fun due loud => ?_,
      fun settled => ?_⟩
    · exact (State.unlessReset_released _ _ h).trans (congrArg Host.Outcome.next s.judgeMode_eq)
    · rw [State.lineEvent_due due still, if_pos able]
      split
      · exact .inl rfl
      · exact .inr rfl
    · rw [State.lineEvent_due due still, if_neg (by rw [barred]; decide)]
    · rw [State.lineEvent_not_due fun h => loud h.2, if_neg due]
    · rw [State.lineEvent_not_due fun h => settled h.1, if_pos (not_not.mp settled)]
  · intro s buffers good sequence outside idle change old new wasOk hosts vehicles quiets discards kept entered u
      places alarm w room v t
    have mode : s.modeEntered = u := rfl
    obtain ⟨current, requested, mark, timer, link, linkLost, -⟩ := s.modeEntered_radio
    obtain ⟨flagRadio, flagLink, -⟩ := s.modeEntered_flags
    have handle : u.radio.nextHandle < 256 := State.modeEntered_handle good
    have entry : u.radio.pendingEntry = alarm := s.modeEntered_pendingEntry
    have placed : u.radio.alarmPlaced u.radio.pendingEntry = w := by rw [entry]; rfl
    have waiting : u.placeWaiting = v := by
      cases waits : u.radio.waiting with
      | none =>
        rw [State.placeWaiting_stays handle (by simp [waits])]
        simp only [v, waits, State.onRadio, placed]
      | some a =>
        have mode : u.radio.current = new := current
        rw [State.placeWaiting_answers handle waits]
        dsimp only
        rw [placed, mode]
        simp only [v, waits]
        rfl
    have beside : u.Beside t := State.beside_changeMode buffers good sequence outside idle
    have reach := changeMode_reach s
    refine ⟨?_, fun loud keeps stays => ?_, beside.radio.current.trans current,
      beside.radio.requested.trans requested, beside.radio.markLatch.trans mark,
      beside.radio.linkTimer.trans timer, beside.radio.link.trans link, beside.radio.linkLost.trans linkLost,
      (beside.flags .radio (by decide)).trans flagRadio, (beside.flags .link (by decide)).trans flagLink,
      State.changeMode_quiets buffers good sequence outside idle, fun discard => ?_,
      State.changeMode_listens buffers good sequence outside idle,
      State.changeMode_starts buffers good sequence outside idle, reach.profile, reach.odo, reach.doors⟩
    · rw [← waiting]
      exact (State.changeMode_entered buffers good sequence outside idle).trans
        (congrArg State.startFrame (by unfold State.evaluateIf; simp only [decide_eq_true_eq]; rfl))
    · exact State.changeMode_keeps buffers good sequence outside idle loud keeps (by
        rw [mode, placed]; exact stays)
    · have unheld := State.changeMode_unheld buffers good sequence outside idle discard
      exact ⟨unheld .buf0, unheld .buf1⟩

end Sys2Proof.Machine
end
